-- ==== Sys2Proof/Word.lean ====
section
/-!
DEFINITION. The machine word and byte, and the small name types that commands and state share:
the two cores (R1, "The Xestov core"), the two worlds, and the initiators of FAULT.initiator (R28's table).
-/
namespace Sys2Proof

/-- A 32-bit word: a register, an address while it is computed, an instruction word. -/
abbrev Word := BitVec 32

/-- A byte of memory. -/
abbrev Byte := BitVec 8

/-- The two Xestov cores, each a lockstep pair. -/
inductive CoreId where
  | core0 | core1
  deriving DecidableEq, Repr

/-- The two worlds. -/
inductive World where
  | field | glass
  deriving DecidableEq, Repr

/-- Who issued an access: the codes 0 to 8 of FAULT.initiator. -/
inductive Ini where
  | core0 | core1 | trellis | cipher | cart | host | probe | port | mgmt
  deriving DecidableEq, Repr

end Sys2Proof
end

