-- ==== Sys2Proof/Machine/Bits.lean ====
section
/-!
DEFINITION. Bit fields of words, little-endian byte strings (R5), and sparse tables in one canonical form.
A register of the address map is named by its address, a field by its address and bits (`Fld`).
-/
namespace Sys2Proof.Machine

/-- A field [hi:lo] of the register at byte address `addr`. -/
structure Fld where
  addr : Nat
  hi : Nat
  lo : Nat
  deriving DecidableEq, Repr

/-- Width of a field in bits. -/
def Fld.width (f : Fld) : Nat := f.hi + 1 - f.lo

/-- The largest value a field holds: where a counter saturates. -/
def Fld.max (f : Fld) : Nat := 2 ^ f.width - 1

/-- The bits of the register that the field occupies. -/
def Fld.mask (f : Fld) : Word := BitVec.ofNat 32 (f.max <<< f.lo)

/-- The field of a register word, as a number. -/
def Fld.get (f : Fld) (w : Word) : Nat := (w.toNat >>> f.lo) % 2 ^ f.width

/-- The register word with the field holding `v` modulo its width. -/
def Fld.put (f : Fld) (v : Nat) (w : Word) : Word :=
  (w &&& ~~~ f.mask) ||| BitVec.ofNat 32 ((v % 2 ^ f.width) <<< f.lo)

/-- The same field `k` strides further on in a register series. -/
def Fld.idx (f : Fld) (stride k : Nat) : Fld := { f with addr := f.addr + stride * k }

/-- Bit `k` of a field of bits, as a one-bit field. -/
def Fld.bit (f : Fld) (k : Nat) : Fld := ⟨f.addr, f.lo + k, f.lo + k⟩

/-- Bits [hi:lo] of a number. -/
def bitsOf (n hi lo : Nat) : Nat := (n >>> lo) % 2 ^ (hi + 1 - lo)

/-- Bit `k` of a number. -/
def bitAt (n k : Nat) : Bool := n.testBit k

/-- 1 for true, 0 for false. -/
def b2n (b : Bool) : Nat := if b then 1 else 0

/-- Addition that stops at `m`. -/
def satAdd (m a b : Nat) : Nat := if a + b ≤ m then a + b else m

/-- The bytes of `v`, `n` of them, least significant first (R5). -/
def bytesLE : Nat → Nat → List Byte
  | 0, _ => []
  | n + 1, v => BitVec.ofNat 8 v :: bytesLE n (v / 256)

/-- The number that bytes spell, least significant first (R5). -/
def natLE : List Byte → Nat
  | [] => 0
  | b :: bs => b.toNat + 256 * natLE bs

/-- The bytes of `v`, `n` of them, most significant first. -/
def bytesBE (n v : Nat) : List Byte := (bytesLE n v).reverse

/-- The number that bytes spell, most significant first. -/
def natBE (bs : List Byte) : Nat := natLE bs.reverse

/-- The value a sparse table gives at key `k`: `d` where the table lists none. -/
def tabGet {α : Type} (d : α) : List (Nat × α) → Nat → α
  | [], _ => d
  | (k', v) :: t, k => if k = k' then v else tabGet d t k

/-- The sparse table without entries at key `k`. -/
def tabDel {α : Type} (k : Nat) : List (Nat × α) → List (Nat × α)
  | [] => []
  | (k', v') :: t => if k = k' then tabDel k t else (k', v') :: tabDel k t

/-- The sparse table with `v` at key `k`: keys strictly rising, and an entry equal to the default `d` of its key removed. -/
def tabSet {α : Type} [DecidableEq α] (d : α) (k : Nat) (v : α) : List (Nat × α) → List (Nat × α)
  | [] => if v = d then [] else [(k, v)]
  | (k', v') :: t =>
    if k < k' then (if v = d then (k', v') :: tabDel k t else (k, v) :: (k', v') :: tabDel k t)
    else if k = k' then tabSet d k v t
    else (k', v') :: tabSet d k v t

/-- The canonical form of a sparse table: keys strictly rising from above `lo`, no entry equal to its default. -/
def tabWf {α : Type} [DecidableEq α] (d : Nat → α) : List (Nat × α) → Bool
  | [] => true
  | [(k, v)] => decide (v ≠ d k)
  | (k, v) :: (k', v') :: t => decide (v ≠ d k) && decide (k < k') && tabWf d ((k', v') :: t)

/-- The table without its entries at keys that `p` names. -/
def tabDrop {α : Type} (p : Nat → Bool) (t : List (Nat × α)) : List (Nat × α) := t.filter fun e => !(p e.1)

/-- Apply `f` to each element of a list in turn. -/
def foldState {α σ : Type} (f : α → σ → σ) : List α → σ → σ
  | [], s => s
  | a :: as, s => foldState f as (f a s)

/-- The first `n` numbers from `a`. -/
def numsFrom : Nat → Nat → List Nat
  | 0, _ => []
  | n + 1, a => a :: numsFrom n (a + 1)

/-- Sign-extend the low `w` bits of `v` to a word. -/
def sext (w v : Nat) : Word := (BitVec.ofNat w v).signExtend 32

end Sys2Proof.Machine
end

