-- ==== Sys2Proof/Syntax.lean ====
section
/-!
DEFINITION. The commands of the Y880, one constructor per row of spec/opcode_table.json, with what each carries: the operands of an
instruction and the core that executes it, the initiator and value of a register access, what arrives on a pin or a bus, and what the
physical world makes of an event. A docstring gives the row's mnemonic, its rule and its summary.
-/
namespace Sys2Proof

/-- What the physical storage or fabric does to an access: the check codes, tag copies and sense paths are not held in the
state, so the command that makes an access says how they come out (log 9). -/
inductive Integ where
  | ok | sramCheck | tagCopies | reqBeat | respBeat | flashCorrected | flashUncorrectable | flashMismatch | ledgerCheck
  deriving DecidableEq, Repr

/-- What the cells make of a line write of the ledger: the passes beyond the first, and whether it has verified (R301). -/
structure Pulse where
  extra : Fin 5
  verified : Bool
  deriving DecidableEq, Repr

/-- A write that verifies in its first pass. -/
def Pulse.clean : Pulse := ⟨0, true⟩

/-- The passes of a line write: one that has not verified took all five (R301, R318). -/
def Pulse.passes (p : Pulse) : Nat := if p.verified then p.extra.val + 1 else 5

/-- What the cells make of a command of the counter engine: whether a word of the counter fails its hidden code (R307), and the write. -/
structure CellFate where
  bad : Bool
  pulse : Pulse
  deriving DecidableEq, Repr

/-- What the cells make of an attempt of the life-cycle block: the increment of LC_FAIL, and the raise of LC_FAILBASE (R131, R134). -/
structure EngineFate where
  inc : CellFate
  raise : CellFate
  deriving DecidableEq, Repr

/-- Both go well. -/
def EngineFate.clean : EngineFate := ⟨⟨false, .clean⟩, ⟨false, .clean⟩⟩

/-- The attempt that a core's store makes: its check of the ledger tells of the increment. -/
def EngineFate.ofInteg (g : Integ) : EngineFate := { EngineFate.clean with inc := ⟨decide (g = .ledgerCheck), .clean⟩ }

/-- A request that the coherent fabric answers with retry: the agent that presents it and an address of its line (R263). -/
structure CohRequest where
  ini : Ini
  line : Nat
  deriving DecidableEq, Repr

/-- A reset source of R98: its cause code, and the core it reaches (none: system scope). -/
structure RstSrc where
  cause : Nat
  core : Option CoreId
  deriving DecidableEq, Repr

/-- What a Cloche source measures in one CK26 cycle: the twins that measure it, the detail of LASTDET (for a clock source the cycle length or
the deviation in %), for a source that covers both cores the cores whose domain reported, and for a supply source the supply in mV (R352 to
R356, R359, R363). -/
structure Det where
  src : Fin 32
  a : Bool
  b : Bool
  detail : BitVec 8
  c0 : Bool
  c1 : Bool
  mv : Nat
  deriving DecidableEq, Repr

/-- A data block that a cartridge sends (R470 to R472): its bytes, and the CRC-16 of each active line from DAT0. -/
structure CartBlock where
  data : List Byte
  crc : List (BitVec 16)
  deriving DecidableEq, Repr

/-- A cartridge's token after a written block (R474). -/
inductive CartToken where
  | accepted | crcFailure | progFailure
  deriving DecidableEq, Repr

/-- What a cartridge has sent since the host's command frame: its response frame, data blocks, and tokens (R465 to R474). -/
structure CartReply where
  frame : Option (BitVec 48)
  blocks : List CartBlock
  tokens : List CartToken
  deriving DecidableEq, Repr

/-- How a controller transfer of the management port ends on the bus (R537): an address not acknowledged or a data byte not
acknowledged, after `acked` data bytes that were; the bus or MG_SCL blocked for the timeout; or all of it, with the bytes received and
the PEC byte that followed them. -/
inductive McEnd where
  | absent (acked : Fin 33)
  | nack (acked : Fin 33)
  | timeout (acked : Fin 33) (got : List Byte)
  | complete (got : List Byte) (pec : Byte)
  deriving DecidableEq, Repr

/-- The width of an access. -/
inductive Size where
  | byte | half | word
  deriving DecidableEq, Repr

/-- A command: one row of the command table. -/
inductive Instr where
  /-- REGISTER_WRITE (R580): A write to a register page register that has no row of its own, judged by channel, width, ownership, offset and field rights. -/
  | registerWrite (ini : Ini) (size : Size) (off : BitVec 17) (v : Word) (fate : EngineFate)
  /-- OWNER_WRITE (R25): A write of OWNER.owner on a reassignable page changes the page owner, or records BAD_OWNER for a reserved encoding. -/
  | ownerWrite (ini : Ini) (p : Fin 32) (v : Word)
  /-- OWNER_CLR_CNT (R24): Writing OWNER.clr_cnt clears world_refused and lock_refused before any refusal of the same write is counted. -/
  | ownerClrCnt (ini : Ini) (p : Fin 32) (v : Word)
  /-- SOFT_LOCK (R33): A LOCK command 0x4C4B stores the key, sets state soft and records the locker. -/
  | softLock (ini : Ini) (p : Fin 32) (key : BitVec 16)
  /-- UNLOCK (R33): A LOCK command 0x554C returns a soft-locked page to unlocked when the key matches. -/
  | unlock (ini : Ini) (p : Fin 32) (key : BitVec 16)
  /-- HARD_LOCK (R33): A LOCK command 0x484C from the Glasshouse sets the page hard-locked until the next reset reaching it. -/
  | hardLock (ini : Ini) (p : Fin 32) (key : BitVec 16)
  /-- FAULT_CLEAR (R42): Writing 1 to FAULT.valid clears FAULT and FAULT_ADDR, then records any fault of the same cycle. -/
  | faultClear (ini : Ini) (p : Fin 32) (v : Word)
  /-- VSYS_RISE (R51): VSYS rising above V_SYSDET(rise) starts the VSYS debounce. -/
  | vsysRise
  /-- VSYS_GAINED (R51): Expiry of t_SYSDEB with VSYS held high connects VMAIN to VSYS and sets vsys_gained. -/
  | vsysGained
  /-- VSYS_LOST (R51): VSYS falling below V_SYSDET(fall) connects VMAIN to VBAT within t_PSW and sets vsys_lost. -/
  | vsysLost
  /-- FORCE_VBAT_WRITE (R53): A Glasshouse write of PWR.PATH.force_vbat holds or releases the power path on VBAT. -/
  | forceVbatWrite (ini : Ini) (hold : Bool)
  /-- PATH_CNT_CLR (R51): Writing PWR.PATH.clr clears switch_cnt. -/
  | pathCntClr (ini : Ini) (v : Word)
  /-- SHIP_WAKE (R54): SHIPWK_N held low long enough in SHIP closes the power path switches and causes a power-on reset. -/
  | shipWake (vbat : Bool) (present band : BitVec 4) (straps : BitVec 2)
  /-- VBAT_SAMPLE (R63): A VBAT sample at RUN entry or every 64 s updates vbat_mv and sets or re-arms vbat_low. -/
  | vbatSample (mv : BitVec 12)
  /-- IOGRP_CHANGE (R55): A VDDIO group appearing or disappearing sets its band and presence and makes its pins Z or live. -/
  | iogrpChange (present band : BitVec 4) (r : CartReply) (g : Integ)
  /-- GCB_OVERCURRENT (R60): GCB_VCC current above I_GCBLIM for t_GCBOC opens the switch, applies R50 and reports to the GCB block. -/
  | gcbOvercurrent (r : CartReply) (g : Integ)
  /-- GPIO_SET (R66): A write to GPIO.SET sets the named OUT bits. -/
  | gpioSet (ini : Ini) (v : Word)
  /-- GPIO_CLR (R66): A write to GPIO.CLR clears the named OUT bits. -/
  | gpioClr (ini : Ini) (v : Word)
  /-- GPIO_EDGE (R65): A selected edge on a filtered, synchronised GPIO pin sets its IRQ_RAW bit. -/
  | gpioEdge (n : Fin 12) (level : Bool)
  /-- ADC_GO (R67): A write of ADC.START.go starts a scan of the SCAN channels or records ADC_REFUSED. -/
  | adcGo (ini : Ini)
  /-- ADC_CAL (R68): A write of ADC.CTRL.cal, or the first go after PD13 power-up, starts calibration. -/
  | adcCal (ini : Ini) (v : Word)
  /-- ADC_CAL_DONE (R68): End of calibration sets cal_valid and cal_done and lets a waiting go proceed with results marked delayed. -/
  | adcCalDone (offset : Byte) (gain : BitVec 16)
  /-- ADC_RESULT (R69): Completion of a channel's averaged conversions writes RESULTk, with overrun and threshold events. -/
  | adcResult (volts : List Word) (vdda : Word)
  /-- SCAN_DONE (R67): End of a scan sets scan_done and, with cont set, starts the next scan. -/
  | scanDone
  /-- ADC_RESULT_READ (R69): A read of RESULTk returns the result and clears its valid and overrun bits. -/
  | adcResultRead (ini : Ini) (k : Fin 4)
  /-- HFRC_CAL_COUNT (R74): End of a count of HFRC cycles over 1,024 CK01 periods moves the fine trim one step toward 96 MHz. -/
  | hfrcCalCount (miss slow : Bool)
  /-- HFXO_STABLE (R76): HFXO reaching stability sets hfxo_ok and releases its waiting users. -/
  | hfxoStable
  /-- PLL_LOCK (R76): The PLL locking sets pll_lock and releases boost entry or a REFCLK output. -/
  | pllLock
  /-- LFXO_STABLE (R75): LFXO becoming stable after power-on reset sets lfxo_ok and takes over CK01 from LFRC. -/
  | lfxoStable
  /-- BOOST_REQ (R77): A write of PWR.BOOST.req starts boost entry on VSYS or is refused on VBAT. -/
  | boostReq (ini : Ini) (v : Word)
  /-- BOOST_SWITCH (R77): After HFXO, PLL and the VCORE step, CK07 and CK08 switch to 192 MHz and active is set. -/
  | boostSwitch
  /-- BOOST_CNT_CLR (R78): Writing PWR.BOOST.clr clears the refused count. -/
  | boostCntClr (ini : Ini) (v : Word)
  /-- DOMAIN_REQ_WRITE (R81): A write of PWR.DOMAIN.req queues domain power-ups and power-downs in sequencer order. -/
  | domainReqWrite (ini : Ini) (v : Word)
  /-- DOMAIN_POWER_UP (R81): Completion of a domain's power-up marks it on and lets the sequencer take the next domain. -/
  | domainPowerUp
  /-- DOMAIN_POWER_DOWN (R81): A domain powers down, with pin hold, cache write-back and state saving as its blocks require. -/
  | domainPowerDown
  /-- PD_WAIT_END (R92): A power-down held by ring, cipher or cartridge activity proceeds when that activity stops. -/
  | pdWaitEnd
  /-- HOLD_RELEASE (R83): Writing 1 to a PWR.HOLD bit releases the pin hold of that domain. -/
  | holdRelease (ini : Ini) (v : Word)
  /-- SLEEP_CNT_CLR (R86): Writing PWR.SLEEP.clr clears the refused count. -/
  | sleepCntClr (ini : Ini) (v : Word)
  /-- OFFACC_CLR (R82): Writing bit 16 of PWR.OFFACC clears the off-domain access count. -/
  | offaccClr (ini : Ini)
  /-- SLEEP_ENTRY (R87): When every powered core has stopped in WFI, the Y880 enters the target power state or DOZE. -/
  | sleepEntry
  /-- WAKE_EVENT (R88): An enabled wake event abandons, holds or ends a sleep entry and records WAKE_CAUSE. -/
  | wakeEvent (events : BitVec 9)
  /-- DOZE_WAKE (R90): Waking from DOZE resumes the stopped cores after their WFI. -/
  | dozeWake
  /-- HIBERNATE_WAKE (R90): Waking from HIBERNATE or SENTRY WATCH starts HFRC, powers WAKE_DOMAINS and starts core 0 on the warm path. -/
  | hibernateWake
  /-- AON_TIME_READ (R93): A read of AON.TIME_LO returns the low word and latches the high bits for that initiator. -/
  | aonTimeRead (ini : Ini)
  /-- ALARM_FIRE (R94): The time base reaching the compare value fires the alarm, raises wake event 0 and rearms when periodic. -/
  | alarmFire
  /-- ALARM_ARM (R95): A write setting ALARM_CTRL.en arms the alarm, firing at the next tick with ALARM_PAST if already passed. -/
  | alarmArm (ini : Ini) (v : Word)
  /-- EM_CLEAR (R96): Writing SNAP.EM_CFG.clr zeroes the energy meter count. -/
  | emClear (ini : Ini) (v : Word)
  /-- EM_READ (R96): A read of SNAP.EM_LO returns the low word and latches the high bits. -/
  | emRead (ini : Ini)
  /-- POWER_ON_RESET (R107): VMAIN crossing the POR threshold resets everything, loads options and latches the life cycle. -/
  | powerOnReset (vbat : Bool) (present band : BitVec 4) (straps : BitVec 2) (stage : Fin 3)
  /-- SYSTEM_RESET (R97): A system-scope reset resets all domains but PD0 pages AON, CLO, MGP and SNAP and reloads options. -/
  | systemReset (srcs : List RstSrc)
  /-- CORE_RESET (R100): A core-scope reset resets one lockstep pair, discards its dirty lines and aborts its Glasshouse stay. -/
  | coreReset (srcs : List RstSrc)
  /-- RESET_PIN_GLITCH (R102): A RESET_N low pulse shorter than the filter but wider than t_RSTGL is counted and reported to the Cloche. -/
  | resetPinGlitch
  /-- PIN_RESET (R103): RESET_N low for t_RSTFILT starts a system reset held while the pin stays low. -/
  | pinReset
  /-- RESET_PIN_STUCK (R104): RESET_N low for t_RSTSTUCK sets stuck, logs and raises MG_ALERT_N. -/
  | resetPinStuck
  /-- RESET_PIN_RELEASE (R106): RESET_N rising ends the held system reset. -/
  | resetPinRelease
  /-- SOFT_SYS (R98): SYS.RST_REQ kind system with key 0x5253 performs a system reset. -/
  | softSys (ini : Ini)
  /-- SOFT_CORE (R98): SYS.RST_REQ kind core 0 or core 1 with key 0x5253 performs a core reset. -/
  | softCore (ini : Ini) (c : CoreId)
  /-- COLD_BOOT (R109): The boot ROM cold path tests entropy, keys memory, checks options and ledger, verifies a slot and enters the image. -/
  | coldBoot (samples : List (List Bool)) (raw : BitVec 6144) (ledgerBad : Bool)
  /-- WARM_RESUME (R115): The boot ROM warm path re-keys memory, rebuilds roots, recopies segments and enters glass_resume. -/
  | warmResume
  /-- CORE1_START (R116): Setting PWR.DOMAIN.req bit 3 starts core 1 on the restart path at core1_entry or powers PD3 down. -/
  | core1Start
  /-- CORE_RESTART (R101): After a core reset, core 0 enters field_resume and core 1 enters core1_entry. -/
  | coreRestart (c : CoreId)
  /-- LC_ADVANCE_TOKEN (R131): An LC.ADVANCE write naming a token successor refuses or increments LC_FAIL and compares the token digest. -/
  | lcAdvanceToken (ini : Ini) (v : Word) (fate : EngineFate)
  /-- LC_ADVANCE_PLAIN (R130): An LC.ADVANCE write naming a plain-write successor, retire included, is judged and accepted or refused. -/
  | lcAdvancePlain (ini : Ini) (v : Word)
  /-- LC_TRANSITION (R135): An accepted transition zeroises keys where required, ends debug, programs the record page and resets with cause LC. -/
  | lcTransition
  /-- LC_BACKOFF_END (R132): The back-off period running out in AON time permits token and debug attempts again. -/
  | lcBackoffEnd
  /-- LC_STATE_CLR (R137): Writing LC.ADV_STAT.clr clears state_refused. -/
  | lcStateClr (ini : Ini)
  /-- DBG_REQ (R140): A probe write of LC.DBG_CTRL.req in FIELDED fills a 32-byte challenge and sets chal_valid. -/
  | dbgReq (ini : Ini)
  /-- DBG_GO (R141): A probe write of LC.DBG_CTRL.go verifies the debug response and grants probe level 2 or starts back-off. -/
  | dbgGo (ini : Ini) (fate : EngineFate)
  /-- DBG_REVOKE (R142): A write of LC.DBG_CTRL.revoke ends the debug grant. -/
  | dbgRevoke (ini : Ini)
  /-- PRB_LINE_RESET (R143): PRB_DIO held low for 32 or more clocks ends any probe frame without effect. -/
  | prbLineReset
  /-- PRB_READ (R145): A probe READ frame of a probe register is answered with a result code and value. -/
  | prbRead (op : BitVec 2) (reg : BitVec 6) (par : Bool)
  /-- PRB_WRITE (R145): A probe WRITE frame of a probe register without behaviour of its own is judged and applied. -/
  | prbWrite (reg : BitVec 6) (par : Bool) (v : Word) (crc : Byte)
  /-- PRB_DATA_READ (R147): A READ of probe DATA starts or collects a 32-bit memory read at ADDR through channel 6. -/
  | prbDataRead (late : Bool) (g : Integ)
  /-- PRB_DATA_WRITE (R147): A WRITE of probe DATA posts a 32-bit write at ADDR through channel 6. -/
  | prbDataWrite (v : Word) (late : Bool) (g : Integ)
  /-- PRB_ACCESS_DONE (R147): A probe memory access running past its frame completes, holding its word or failure for the next frame. -/
  | prbAccessDone (g : Integ)
  /-- PRB_HALT (R148): CCTL halt stops the selected core at its next instruction boundary, or sets halt_pending in the Glasshouse at level 2. -/
  | prbHalt
  /-- PRB_HALT_TAKEN (R148): A pending halt takes effect at the first Field instruction boundary after UNGATE or an abort. -/
  | prbHaltTaken (c : CoreId)
  /-- PRB_STEP (R148): CCTL step executes one instruction or trap on a halted core and halts again. -/
  | prbStep
  /-- PRB_RESUME (R148): CCTL resume restarts a halted core. -/
  | prbResume
  /-- PRB_RDATA_READ (R149): A READ of RDATA returns the selected register of a halted core. -/
  | prbRdataRead
  /-- PRB_RDATA_WRITE (R149): A WRITE of RDATA writes the selected register of a halted core, clearing a capability tag. -/
  | prbRdataWrite (v : Word)
  /-- PRB_RESET (R146): A probe write of RESET with key 0x5253 performs a system reset with cause PROBE. -/
  | prbReset (low : BitVec 16)
  /-- PRB_CNT_CLR (R145): Writing PRB.CNTCLR clears the probe counters. -/
  | prbCntClr (ini : Ini)
  /-- ADD (R186): rd receives rs1 + rs2 modulo 2^32. -/
  | add (c : CoreId) (rd rs1 rs2 : Fin 32)
  /-- SUB (R186): rd receives rs1 - rs2 modulo 2^32. -/
  | sub (c : CoreId) (rd rs1 rs2 : Fin 32)
  /-- AND (R186): rd receives the bitwise AND of rs1 and rs2. -/
  | and (c : CoreId) (rd rs1 rs2 : Fin 32)
  /-- OR (R186): rd receives the bitwise OR of rs1 and rs2. -/
  | or (c : CoreId) (rd rs1 rs2 : Fin 32)
  /-- XOR (R186): rd receives the bitwise XOR of rs1 and rs2. -/
  | xor (c : CoreId) (rd rs1 rs2 : Fin 32)
  /-- SLL (R186): rd receives rs1 shifted left by rs2[4:0]. -/
  | sll (c : CoreId) (rd rs1 rs2 : Fin 32)
  /-- SRL (R186): rd receives rs1 shifted logically right by rs2[4:0]. -/
  | srl (c : CoreId) (rd rs1 rs2 : Fin 32)
  /-- SRA (R186): rd receives rs1 shifted arithmetically right by rs2[4:0]. -/
  | sra (c : CoreId) (rd rs1 rs2 : Fin 32)
  /-- SLT (R186): rd receives 1 if rs1 is below rs2 signed, else 0. -/
  | slt (c : CoreId) (rd rs1 rs2 : Fin 32)
  /-- SLTU (R186): rd receives 1 if rs1 is below rs2 unsigned, else 0. -/
  | sltu (c : CoreId) (rd rs1 rs2 : Fin 32)
  /-- MUL (R186): rd receives the low 32 bits of rs1 times rs2. -/
  | mul (c : CoreId) (rd rs1 rs2 : Fin 32)
  /-- MULH (R186): rd receives the high 32 bits of the signed product. -/
  | mulh (c : CoreId) (rd rs1 rs2 : Fin 32)
  /-- MULHU (R186): rd receives the high 32 bits of the unsigned product. -/
  | mulhu (c : CoreId) (rd rs1 rs2 : Fin 32)
  /-- MULHSU (R186): rd receives the high 32 bits of signed rs1 times unsigned rs2. -/
  | mulhsu (c : CoreId) (rd rs1 rs2 : Fin 32)
  /-- DIV (R187): rd receives the signed quotient rounded toward zero, with fixed results for zero and overflow. -/
  | div (c : CoreId) (rd rs1 rs2 : Fin 32)
  /-- DIVU (R187): rd receives the unsigned quotient, or 0 for a zero divisor. -/
  | divu (c : CoreId) (rd rs1 rs2 : Fin 32)
  /-- REM (R187): rd receives the signed remainder with the sign of rs1. -/
  | rem (c : CoreId) (rd rs1 rs2 : Fin 32)
  /-- REMU (R187): rd receives the unsigned remainder, or rs1 for a zero divisor. -/
  | remu (c : CoreId) (rd rs1 rs2 : Fin 32)
  /-- ADDI (R186): rd receives rs1 plus the sign-extended imm16. -/
  | addi (c : CoreId) (rd rs1 : Fin 32) (imm : BitVec 16)
  /-- ANDI (R186): rd receives rs1 AND the zero-extended imm16. -/
  | andi (c : CoreId) (rd rs1 : Fin 32) (imm : BitVec 16)
  /-- ORI (R186): rd receives rs1 OR the zero-extended imm16. -/
  | ori (c : CoreId) (rd rs1 : Fin 32) (imm : BitVec 16)
  /-- XORI (R186): rd receives rs1 XOR the zero-extended imm16. -/
  | xori (c : CoreId) (rd rs1 : Fin 32) (imm : BitVec 16)
  /-- SLTI (R186): rd receives 1 if rs1 is below imm16 signed. -/
  | slti (c : CoreId) (rd rs1 : Fin 32) (imm : BitVec 16)
  /-- SLTIU (R186): rd receives 1 if rs1 is below the sign-extended imm16 unsigned. -/
  | sltiu (c : CoreId) (rd rs1 : Fin 32) (imm : BitVec 16)
  /-- SLLI (R186): SHIFTI with imm16[6:5] 0b00 shifts rs1 left by imm16[4:0]. -/
  | slli (c : CoreId) (rd rs1 : Fin 32) (hi : BitVec 9) (sh : BitVec 5)
  /-- SRLI (R186): SHIFTI with imm16[6:5] 0b01 shifts rs1 logically right. -/
  | srli (c : CoreId) (rd rs1 : Fin 32) (hi : BitVec 9) (sh : BitVec 5)
  /-- SRAI (R186): SHIFTI with imm16[6:5] 0b10 shifts rs1 arithmetically right. -/
  | srai (c : CoreId) (rd rs1 : Fin 32) (hi : BitVec 9) (sh : BitVec 5)
  /-- MOVHI (R186): rd receives imm16 shifted left by 16. -/
  | movhi (c : CoreId) (rd : Fin 32) (imm : BitVec 16)
  /-- CSEL (R188): rd receives rs1 if rs3 is non-zero, else rs2, in constant time without the predictor. -/
  | csel (c : CoreId) (rd rs1 rs2 rs3 : Fin 32)
  /-- LB (R189): Loads a byte through cs at rs + imm13, sign-extended, after the checks of R157. -/
  | lb (c : CoreId) (rt rs : Fin 32) (cs : Fin 8) (imm : BitVec 13) (g : Integ)
  /-- LBU (R189): Loads a byte through cs, zero-extended. -/
  | lbu (c : CoreId) (rt rs : Fin 32) (cs : Fin 8) (imm : BitVec 13) (g : Integ)
  /-- LH (R189): Loads a half-word through cs, sign-extended. -/
  | lh (c : CoreId) (rt rs : Fin 32) (cs : Fin 8) (imm : BitVec 13) (g : Integ)
  /-- LHU (R189): Loads a half-word through cs, zero-extended. -/
  | lhu (c : CoreId) (rt rs : Fin 32) (cs : Fin 8) (imm : BitVec 13) (g : Integ)
  /-- LW (R189): Loads a word through cs at rs + imm13 after the checks of R157. -/
  | lw (c : CoreId) (rt rs : Fin 32) (cs : Fin 8) (imm : BitVec 13) (g : Integ)
  /-- LDC (R190): Loads a 128-bit capability and its granule tag through cs, subject to GLASS and stale-epoch rules. -/
  | ldc (c : CoreId) (rt rs : Fin 32) (cs : Fin 8) (imm : BitVec 13) (g : Integ)
  /-- LRW (R191): Loads a word and sets this core's reservation on its granule. -/
  | lrw (c : CoreId) (rt rs : Fin 32) (cs : Fin 8) (imm : BitVec 13) (g : Integ)
  /-- SB (R189): Stores the low byte of rt through cs, clearing the granule tag. -/
  | sb (c : CoreId) (rt rs : Fin 32) (cs : Fin 8) (imm : BitVec 13) (g : Integ)
  /-- SH (R189): Stores the low half-word of rt through cs. -/
  | sh (c : CoreId) (rt rs : Fin 32) (cs : Fin 8) (imm : BitVec 13) (g : Integ)
  /-- SW (R189): Stores rt as a word through cs. -/
  | sw (c : CoreId) (rt rs : Fin 32) (cs : Fin 8) (imm : BitVec 13) (g : Integ)
  /-- STC (R190): Stores a capability register and sets or clears the granule tag, subject to LOCAL and NO_TAGMEM. -/
  | stc (c : CoreId) (rt rs : Fin 32) (cs : Fin 8) (imm : BitVec 13) (g : Integ)
  /-- SCW (R191): Stores rt only while this core holds a reservation for the granule and writes 0 or 1 to rt. -/
  | scw (c : CoreId) (rt rs : Fin 32) (cs : Fin 8) (imm : BitVec 13) (g : Integ)
  /-- BEQ (R196): Branches by 4 x imm16 when rs1 equals rs2. -/
  | beq (c : CoreId) (rs1 rs2 : Fin 32) (imm : BitVec 16)
  /-- BNE (R196): Branches when rs1 differs from rs2. -/
  | bne (c : CoreId) (rs1 rs2 : Fin 32) (imm : BitVec 16)
  /-- BLT (R196): Branches when rs1 is below rs2 signed. -/
  | blt (c : CoreId) (rs1 rs2 : Fin 32) (imm : BitVec 16)
  /-- BGE (R196): Branches when rs1 is at or above rs2 signed. -/
  | bge (c : CoreId) (rs1 rs2 : Fin 32) (imm : BitVec 16)
  /-- BLTU (R196): Branches when rs1 is below rs2 unsigned. -/
  | bltu (c : CoreId) (rs1 rs2 : Fin 32) (imm : BitVec 16)
  /-- BGEU (R196): Branches when rs1 is at or above rs2 unsigned. -/
  | bgeu (c : CoreId) (rs1 rs2 : Fin 32) (imm : BitVec 16)
  /-- JAL (R197): Writes pc + 4 to rd and jumps by 4 x imm21. -/
  | jal (c : CoreId) (rd : Fin 32) (imm : BitVec 21)
  /-- JALR (R197): Writes pc + 4 to rd and jumps to rs1 + imm16. -/
  | jalr (c : CoreId) (rd rs1 : Fin 32) (imm : BitVec 16)
  /-- CJALR (R199): Transfers to a new PCC cs at rs1 + 4 x imm9, optionally linking the old PCC into cd. -/
  | cjalr (c : CoreId) (rd rs1 : Fin 32) (cs cd : Fin 8) (lc : Bool) (imm : BitVec 9)
  /-- CMOVE (R200): Copies cs with its tag into cd, clearing the tag of a stale copy. -/
  | cmove (c : CoreId) (cd cs : Fin 32)
  /-- CCLRT (R200): Copies the bits of cs into cd with tag 0. -/
  | cclrt (c : CoreId) (cd cs : Fin 32)
  /-- CBOUND (R200): Derives cd from cs with base cs.base + off and length len, or raises DERIVE. -/
  | cbound (c : CoreId) (cd cs off len : Fin 32)
  /-- CANDP (R200): Derives cd from cs with permissions ANDed with a mask. -/
  | candp (c : CoreId) (cd cs mask : Fin 32)
  /-- CSEAL (R163): Seals cs with an object type under authority ca. -/
  | cseal (c : CoreId) (cd cs ca type : Fin 32)
  /-- CUNSEAL (R164): Unseals cs under authority ca covering its otype. -/
  | cunseal (c : CoreId) (cd cs ca : Fin 32)
  /-- CEPOCH (R201): Rebinds cs from the world's root index to a new epoch index at its current counter value. -/
  | cepoch (c : CoreId) (cd cs idx : Fin 32)
  /-- LDCAPX (R174): Loads entry ws of the world's descriptor table into cd by a checked table walk. -/
  | ldcapx (c : CoreId) (cd ws : Fin 32) (g : Integ)
  /-- CGET (R200): Writes a selected field of cs, its tag or its validity to wd. -/
  | cget (c : CoreId) (wd cs sel : Fin 32)
  /-- EBUMP (R168): Increments an epoch counter for both cores and writes a result code. -/
  | ebump (c : CoreId) (wd ws : Fin 32)
  /-- ESWEEP (R170): Starts a tag sweep of an epoch index and writes a result code. -/
  | esweep (c : CoreId) (wd ws : Fin 32)
  /-- SWEEP_DONE (R171): A sweep having visited every granule of its banks sets the sweep-done bit and records the tags cleared. -/
  | sweepDone
  /-- CPU_CNT_CLR (R167): Writing CPUn.CNTCLR clears CAPCNT, STALE and the EPOCH_STAT counters. -/
  | cpuCntClr (ini : Ini) (c : CoreId)
  /-- CHK (R203): Raises a bounds fault CHK unless off + size fits cs.length. -/
  | chk (c : CoreId) (cs off size : Fin 32)
  /-- CHKI (R203): Raises a bounds fault CHK unless off plus an immediate size fits cs.length. -/
  | chki (c : CoreId) (cs off : Fin 32) (size : BitVec 16)
  /-- CHKR (R203): Raises a bounds fault CHKR unless lo <= idx < hi. -/
  | chkr (c : CoreId) (idx lo hi : Fin 32)
  /-- CHKRI (R203): Raises a bounds fault CHKR unless idx is below an immediate limit. -/
  | chkri (c : CoreId) (idx : Fin 32) (limit : BitVec 16)
  /-- WFI (R85): Stops this core's clock until a wake; a cleared PD3 request powers core 1 down. -/
  | wfi (c : CoreId)
  /-- FENCE (R204): Completes every earlier access of this core before any later one. -/
  | fence (c : CoreId)
  /-- FENCE_R (R276): As FENCE, and makes pending SMPU rules of this core's channel active. -/
  | fenceR (c : CoreId)
  /-- FENCE_I (R204): As FENCE, and discards prefetched instructions and the running world's instruction-cache ways. -/
  | fenceI (c : CoreId)
  /-- TRAP (R204): Raises a software trap with code imm12 at level 14. -/
  | trap (c : CoreId) (imm : BitVec 12)
  /-- TRET (R213): Returns from a trap to EPCC and TPC and restores prev_mask. -/
  | tret (c : CoreId)
  /-- MFSR (R205): Reads a system register into rd. -/
  | mfsr (c : CoreId) (rd : Fin 32) (imm : BitVec 12)
  /-- MTSR (R205): Writes rs1 to a writable system register. -/
  | mtsr (c : CoreId) (rs1 : Fin 32) (imm : BitVec 12)
  /-- MASKX (R207): Returns the mask level and sets it from rs1[3:0]. -/
  | maskx (c : CoreId) (rd rs1 : Fin 32)
  /-- MASKI (R207): Returns the mask level and sets it from imm12[3:0]. -/
  | maski (c : CoreId) (rd : Fin 32) (imm : BitVec 12)
  /-- GATE (R236): A gate call through a 0xF0-sealed capability enters, starts a recovery run in, or is refused by the Col. -/
  | gate (c : CoreId) (rd cs : Fin 32)
  /-- UNGATE (R241): The occupant returns to the Field, handing a completion value and ending a call, boot or recovery stay. -/
  | ungate (c : CoreId) (rs1 : Fin 32)
  /-- INTERRUPT_ENTRY (R221): At an instruction boundary a core takes the highest pending line above its mask level and enters the interrupt vector. -/
  | interruptEntry (c : CoreId)
  /-- IMPRECISE_BUS_ERROR (R216): A pending imprecise bus error is taken at level 14 when the core runs in its world below mask 14. -/
  | impreciseBusError (c : CoreId)
  /-- POSTED_STORE_ERROR (R216): A posted store ending with a bus error sets TIMPR.pending or overflow in the issuing world's bank. -/
  | postedStoreError (c : CoreId)
  /-- SEVERE_EVENT (R217): A severe event writes SCAUSE, SPC and SVAL and enters the severe vector, or goes to the Col in the Glasshouse. -/
  | severeEvent (c : CoreId)
  /-- INTC_SW_SET (R220): A write to INTC.SW_SET activates software lines 72 to 79. -/
  | intcSwSet (ini : Ini) (v : Word)
  /-- INTC_SW_CLR (R220): A write to INTC.SW_CLR deactivates software lines. -/
  | intcSwClr (ini : Ini) (v : Word)
  /-- INTC_DEFER_CLR (R223): Writing INTC.DEFER.clr clears the deferral count. -/
  | intcDeferClr (ini : Ini)
  /-- WDOG_ENABLE (R227): A write changing a watchdog's en from 0 to 1 loads its count from LOAD and starts it. -/
  | wdogEnable (ini : Ini) (k : Fin 3) (v : Word)
  /-- WDOG_WARN (R227): A watchdog reaching 0 with grace non-zero sets warned and reloads 16 x grace ticks. -/
  | wdogWarn (k : Fin 3)
  /-- WDOG_EXPIRE (R227): A watchdog reaching 0 with no grace left performs a core or system reset. -/
  | wdogExpire (w0 w1 sw : Bool)
  /-- FEED (R228): A write to FEED with key 0x5744 reloads the watchdog, or records BAD_FEED. -/
  | feed (ini : Ini) (k : Fin 3) (v : Word)
  /-- GT_ENABLE (R229): A write changing a general timer's en from 0 to 1 loads COUNT and starts it. -/
  | gtEnable (ini : Ini) (k : Fin 4) (v : Word)
  /-- GT_EXPIRE (R229): A general timer reaching 0 sets its IRQ_RAW bit, counts an expiry and reloads or stops. -/
  | gtExpire (k : Fin 4)
  /-- GT_STAT_CLR (R229): Writing GTk_STAT.clr clears the expiry count. -/
  | gtStatClr (ini : Ini) (k : Fin 4)
  /-- COL_BUDGET_EXPIRE (R245): The budget timer reaching its limit aborts the stay and wilts the Glasshouse. -/
  | colBudgetExpire
  /-- COL_HOLDOFF_EXPIRE (R248): The holdoff after an abort passes and the next GATE may start a recovery run. -/
  | colHoldoffExpire
  /-- COL_CNT_CLR (R236): Writing COL.CNTCLR clears CNT0, CNT1 and CNT2. -/
  | colCntClr (ini : Ini)
  /-- MEMKEY_LOAD (R257): Writing SMPU.MEMKEY.load from the boot ROM draws new memory and bus keys and clears rows and tags. -/
  | memkeyLoad (ini : Ini)
  /-- COH_RETRY (R263): A coherent request answered with retry is re-presented in the next fabric cycle. -/
  | cohRetry (request : CohRequest)
  /-- SMPU_REGION_WRITE (R274): A write to RBASEn or RATTRn is judged for size, mode and overlap before it takes effect. -/
  | smpuRegionWrite (ini : Ini) (ch : Fin 8) (n : Fin 16) (attr : Bool) (v : Word)
  /-- SMPU_SYNC (R277): A write to SMPU.SYNC clears SYNC_DONE bits and starts the rule switch of DMA channels. -/
  | smpuSync (ini : Ini) (v : Word)
  /-- SYNC_DONE (R277): After the channel's checked accesses drain, it switches to its pending rules and SYNC_DONE rises. -/
  | syncDone (n : Fin 8)
  /-- SMPU_CNT_CLR (R274): Writing SMPU.CNTCLR clears REFUSE, INTEG counts and COH. -/
  | smpuCntClr (ini : Ini)
  /-- PROG (R286): FLC command PROG programs a main-array page from the buffer after the checks of R286. -/
  | prog (ini : Ini)
  /-- ERASE (R286): FLC command ERASE erases a main-array block after the checks of R286. -/
  | erase (ini : Ini)
  /-- OPT_PROG (R293): FLC command OPT_PROG programs an option page, with the commit checks for page 15. -/
  | optProg (ini : Ini)
  /-- OPT_ERASE (R286): FLC command OPT_ERASE erases option block A or B unless it is the loaded set. -/
  | optErase (ini : Ini)
  /-- FLASH_OP_DONE (R287): A program or erase ends after its pulses with OK, erase_slow or WORN and block marking. -/
  | flashOpDone (pulses : Fin 64) (verified : Bool)
  /-- FLC_CNT_CLR (R288): Writing FLC.CNTCLR clears ECC, REDUND, REFUSE and erase_slow. -/
  | flcCntClr (ini : Ini)
  /-- LEDGER_WRITE_DONE (R301): A posted ledger word store completes after its verify passes or its line moves to a spare. -/
  | ledgerWriteDone (passes : Fin 5) (verified : Bool)
  /-- CNT_READ (R308): Counter engine READ returns the counter value. -/
  | cntRead (ini : Ini) (n : BitVec 7)
  /-- CNT_INC (R306): Counter engine INC writes the next cell with value + 1. -/
  | cntInc (ini : Ini) (n : BitVec 7)
  /-- CNT_RAISE (R308): Counter engine RAISE writes CNT_ARG when it exceeds the value. -/
  | cntRaise (ini : Ini) (n : BitVec 7)
  /-- CNT_DONE (R308): A counter engine command completes and writes CNT_RES and cnt_done. -/
  | cntDone (bad : Bool) (passes : Fin 5) (verified : Bool)
  /-- LOG_SCAN (R316): At reset the event log slots are scanned for the newest entry and ready is set at the end. -/
  | logScan
  /-- LDG_CNT_CLR (R317): Writing LDG.CNTCLR clears the ledger counters and wear_warn. -/
  | ldgCntClr (ini : Ini)
  /-- HEALTH_TEST_FAIL (R321): A noise source failing a health test is excluded, counted and logged. -/
  | healthTestFail (k : Fin 4) (recent window : List Bool)
  /-- ENT_RESTART (R324): Writing ENT.CTRL.restart tests all sources and re-instantiates the DRBG from noise. -/
  | entRestart (ini : Ini) (v : Word)
  /-- TEST_NOW (R322): Writing ENT.CTRL.test_now runs the on-demand source test in state TEST. -/
  | testNow (ini : Ini) (v : Word)
  /-- ENT_TEST_DONE (R322): Completion of a start-up or on-demand test returns the entropy block to service or FAILED. -/
  | entTestDone (samples : List (List Bool))
  /-- SEED_READY (R323): A conditioned 384-bit noise seed becomes ready. -/
  | seedReady (raw : BitVec 6144)
  /-- RESEED (R326): The DRBG reseeds from a ready seed after 1,024 requests or as background reseed, releasing waiting requests. -/
  | reseed
  /-- ENT_DATA_READ (R331): A read of ENT.DATA delivers one random word, stalls in wait mode, or returns NO_DATA. -/
  | entDataRead (ini : Ini)
  /-- ENT_WAIT_TIMEOUT (R332): A stalled ENT.DATA read ends with NO_DATA after t_ENTWAIT. -/
  | entWaitTimeout
  /-- AES (R333): Cipher job op 0x01 runs AES in ECB, CBC, CTR, CCM, GCM or CMAC mode. -/
  | aes (g : Integ)
  /-- TDEA (R333): Cipher job op 0x02 runs TDEA ECB, CBC or the ISO/IEC 9797-1 MAC. -/
  | tdea (g : Integ)
  /-- HASH (R333): Cipher job op 0x03 computes SHA-256 or SHA-512. -/
  | hash (g : Integ)
  /-- HMAC (R333): Cipher job op 0x04 computes HMAC with SHA-256 or SHA-512. -/
  | hmac (g : Integ)
  /-- ECDSA_P256 (R349): Cipher job op 0x05 signs a digest, with or without a coupon, or verifies a signature. -/
  | ecdsaP256 (g : Integ) (ws : List Pulse)
  /-- ED25519 (R333): Cipher job op 0x06 signs or verifies with Ed25519. -/
  | ed25519 (g : Integ)
  /-- ECDH_P256 (R349): Cipher job op 0x07 performs P-256 key agreement, with or without a coupon. -/
  | ecdhP256 (g : Integ) (ws : List Pulse)
  /-- X25519 (R349): Cipher job op 0x08 performs X25519 key agreement. -/
  | x25519 (g : Integ) (ws : List Pulse)
  /-- KEYGEN (R343): Cipher job op 0x09 generates a key into an empty slot. -/
  | keygen
  /-- DERIVE (R343): Cipher job op 0x0A derives a key by SP 800-108 with AES-CMAC. -/
  | derive (g : Integ)
  /-- WRAP (R344): Cipher job op 0x0B wraps a wrappable slot into an AES-256-GCM blob. -/
  | wrap
  /-- UNWRAP (R344): Cipher job op 0x0C restores a blob into an empty slot. -/
  | unwrap (g : Integ)
  /-- LOAD (R344): Cipher job op 0x0D imports a plain key into a slot in BLANK, CHECKED or PERSONAL. -/
  | load (g : Integ)
  /-- ZERO_SLOT (R333): Cipher job op 0x0E clears a key slot. -/
  | zeroSlot
  /-- CPN_HOLD (R348): Cipher job op 0x0F unseals a coupon into the world's hold register without consuming it. -/
  | cpnHold
  /-- CPN_DROP (R348): Cipher job op 0x10 empties the world's hold register. -/
  | cpnDrop
  /-- PK_STEP_BOUNDARY (R340): At a public-key step boundary the engine suspends the running job for a higher-class job. -/
  | pkStepBoundary
  /-- CIPHER_JOB_DONE (R334): A cipher job completes and writes status, detail, out_len and cycles to its record. -/
  | cipherJobDone (cycles : Word) (g : Integ)
  /-- COUPON_REFILL (R350): Refill starts filling one coupon when a kind is below target and supply conditions hold. -/
  | couponRefill
  /-- COUPON_FILLED (R350): A refilled coupon record is committed in the pool. -/
  | couponFilled (ws : List Pulse)
  /-- ZEROISE (R345): Writing KEY.CTRL.zeroise clears every slot and coupon commit word and aborts a running job. -/
  | zeroise (ini : Ini)
  /-- CRY_CNT_CLR (R349): Writing CRY.CNTCLR clears CPN_CNT, CPN_CNT2 and JOBCNT. -/
  | cryCntClr (ini : Ini)
  /-- CLOCHE_DETECT (R362): Sources detecting in one CK26 cycle apply the union of their responses once in fixed order. -/
  | clocheDetect (ds : List Det)
  /-- CLOCHE_BURST (R357): A CK26 burst at a drawn offset each second evaluates sources 16 to 22 in HIBERNATE and SENTRY WATCH. -/
  | clocheBurst (reading : BitVec 16) (ds : List Det)
  /-- BIST_A (R367): A write of CLO.BIST_A starts a test of twin A of the named sources or refuses it. -/
  | bistA (ini : Ini) (v : Word)
  /-- BIST_B (R367): A write of CLO.BIST_B starts a test of twin B of the named sources or refuses it. -/
  | bistB (ini : Ini) (v : Word)
  /-- BIST_DONE (R369): A twin test ends, passing or marking the twin failed and the source dead. -/
  | bistDone (n : Fin 32) (twinB detected : Bool)
  /-- CLO_RESP_WRITE (R372): A write to CLO.RESPn under floors keeps floor bits and sens and records FLOOR. -/
  | cloRespWrite (ini : Ini) (n : Fin 32) (v : Word)
  /-- CLO_CNT_CLR (R360): Writing CLO.CNTCLR clears the detection counts and REFUSE. -/
  | cloCntClr (ini : Ini)
  /-- ENABLE (R390): Ring command ENABLE moves a DISABLED ring to RUN after its checks. -/
  | enable (ini : Ini) (n : Fin 96)
  /-- PAUSE (R391): Ring command PAUSE moves a running ring to PAUSING. -/
  | pause (ini : Ini) (n : Fin 96)
  /-- RESUME (R389): Ring command RESUME returns a PAUSED ring to RUN. -/
  | resume (ini : Ini) (n : Fin 96)
  /-- DISABLE (R389): Ring command DISABLE disables a PAUSED or HALTED ring and zeroes its indices. -/
  | disable (ini : Ini) (n : Fin 96)
  /-- CLRCNT (R389): Ring command CLRCNT clears DEFER and REFUSE. -/
  | clrcnt (ini : Ini) (n : Fin 96)
  /-- RING_PAUSED (R391): A PAUSING ring finishes its work in progress and becomes PAUSED. -/
  | ringPaused (n : Fin 96)
  /-- IDX_WRITE (R387): A write of IDX.pidx moves the producer or release index, or is refused with BOUNDS or STATE. -/
  | idxWrite (ini : Ini) (n : Fin 96) (v : Word)
  /-- RING_CFG_WRITE (R377): A write to CFG, DBASE, SBASE or SLEN of a ring not DISABLED is refused with RING_LIVE. -/
  | ringCfgWrite (ini : Ini) (n : Fin 96) (which : Fin 4) (v : Word)
  /-- DESCRIPTOR_SERVICE (R393): The Trellis takes one descriptor or transmit frame from the eligible ring of highest effective class. -/
  | descriptorService (aged : List (Fin 96)) (g : Integ) (ws : List Pulse)
  /-- DESCRIPTOR_COMPLETE (R379): The Trellis writes the buffer, then the descriptor, then advances cidx. -/
  | descriptorComplete (g : Integ)
  /-- GROUP_HOLDOFF_EXPIRE (R398): holdoff_us passing since a group's first pending completion sets the group active. -/
  | groupHoldoffExpire (g : Fin 32)
  /-- GSTAT_ACK (R397): Writing 1 to GSTAT.active clears active, pending and halt of a group. -/
  | gstatAck (ini : Ini) (g : Fin 32)
  /-- TRL_CNT_CLR (R396): Writing TRL.CNTCLR clears DEFCNT, DCACHE, HALT_RING and HALT_ADDR. -/
  | trlCntClr (ini : Ini)
  /-- FRAME_CLASSIFY (R406): Riddle parses a frame, matches the key and drops, forwards, copies or punts it. -/
  | frameClassify
  /-- WRITE (R415): RDLT command WRITE copies the staged value, mask and action into a rule. -/
  | write (ini : Ini)
  /-- READ (R415): RDLT command READ copies a rule into the staging registers. -/
  | read (ini : Ini)
  /-- RULE_DISABLE (R415): RDLT command DISABLE clears en of a rule. -/
  | ruleDisable (ini : Ini)
  /-- DFLT_WRITE (R417): A write to RDL.DFLT0 - DFLT2 or RDL.MIRROR is refused with BAD_ACTION for reserved encodings. -/
  | dfltWrite (ini : Ini) (k : Fin 4) (v : Word)
  /-- RDL_CNT_CLR (R406): Writing RDL.CNTCLR clears FRAMES to PFAIL and the rule hit counts. -/
  | rdlCntClr (ini : Ini)
  /-- SIEVE_DECIDE (R420): The wake sieve judges a radio frame IGNORE, QUEUE or WAKE while PD11 is off. -/
  | sieveDecide
  /-- SIEVE_AGE_EXPIRE (R422): The oldest queued frame waiting SV_QCFG.age units makes the queue condition hold. -/
  | sieveAgeExpire
  /-- SIEVE_HANDOFF (R423): After PD11 is up the sieve hands queued frames to Riddle in arrival order. -/
  | sieveHandoff
  /-- SV_CNT_CLR (R420): Writing RLP.SV_CNTCLR clears sieve counters and hits. -/
  | svCntClr (ini : Ini)
  /-- ETH_RX_FRAME (R429): An Ethernet port filters and checks a received frame and passes it to Riddle. -/
  | ethRxFrame (p : Fin 2) (bytes : List Byte) (whole rxer : Bool) (ticks : Word)
  /-- ETH_TX_FRAME (R433): An Ethernet port accepts a ring or forward frame, pads it and transmits it with FCS. -/
  | ethTxFrame (p : Fin 2)
  /-- REFCLK_LOST (R436): No reference clock edge for 1 µs clears ref_ok and cuts frames in progress. -/
  | refclkLost (p : Fin 2) (rxing txing : Bool)
  /-- REFCLK_RETURN (R436): The first reference edge after a loss resumes the port. -/
  | refclkReturn (p : Fin 2)
  /-- MDIO_CMD (R438): A write of ETH0.MDIO_CMD starts a Clause 22 read or write frame or returns BUSY or RANGE. -/
  | mdioCmd (ini : Ini) (v : Word)
  /-- MDIO_DONE (R438): An MDIO frame ends and sets its result code and mdio_done. -/
  | mdioDone (data : BitVec 16) (ack : Bool)
  /-- LINK_POLL (R439): Every poll interval the controller reads PHY register 1 and updates STAT.link. -/
  | linkPoll (p : Fin 2) (r : Option Bool)
  /-- ETH_CNT_CLR (R429): Writing ETHn.CNTCLR clears the port counters. -/
  | ethCntClr (ini : Ini) (port : Fin 2)
  /-- RL_WAKE (R443): RL_WAKE rising arms the radio front end after t_SENRC. -/
  | rlWake
  /-- RL_RX_FRAME (R444): A radio link frame is received, CRC-checked and passed to the sieve or Riddle. -/
  | rlRxFrame (bytes : List Byte) (whole : Bool) (ticks : Word)
  /-- RL_TX_ARM (R448): The port accepts a ring frame, builds its header and CRC and arms it. -/
  | rlTxArm
  /-- SLOT_WINDOW_TEST (R454): At the predicted start the armed frame is sent, or held back with SLOT_MISS. -/
  | slotWindowTest
  /-- RL_TX_END (R447): After the tail, RL_TXEN falls and the frame ends with OK. -/
  | rlTxEnd
  /-- W_CLOSE (R456): Reaching W_close lowers RL_TXEN and cuts a frame in progress with ABORTED. -/
  | wClose
  /-- RL_CLK_LOST (R456): RL_CLK silent for t_RLCLK lowers RL_TXEN and cuts the frame with CLK_LOST. -/
  | rlClkLost
  /-- REFERENCE_EXPIRE (R451): A slot reference older than bcn_max becomes invalid. -/
  | referenceExpire
  /-- RLP_CNT_CLR (R455): Writing RLP.CNTCLR clears the radio counters. -/
  | rlpCntClr (ini : Ini)
  /-- CARTRIDGE_INSERT (R461): GCB_DET_N low for t_GCBDEB declares a cartridge present. -/
  | cartridgeInsert
  /-- CARTRIDGE_REMOVE (R462): GCB_DET_N high for t_GCBRM declares removal and opens the cartridge supply. -/
  | cartridgeRemove (r : CartReply) (g : Integ)
  /-- GCB_PWR_ON (R487): A write of GCB.CTRL.pwr from 0 to 1 enters POWERING or is refused. -/
  | gcbPwrOn (ini : Ini) (v : Word)
  /-- GCB_PWR_OFF (R487): A write of GCB.CTRL.pwr from 1 to 0 powers the cartridge off after work in progress. -/
  | gcbPwrOff (ini : Ini) (v : Word)
  /-- GCB_POWER_READY (R488): After t_GCBPU and 80 clocks the host enters ON and sets pwr_ready. -/
  | gcbPowerReady
  /-- GCB_RESUME (R487): Writing GCB.CTRL.resume returns a STOPPED host to ON. -/
  | gcbResume (ini : Ini) (v : Word)
  /-- OC_CLR (R487): Writing GCB.CTRL.oc_clr clears STAT.oc. -/
  | ocClr (ini : Ini) (v : Word)
  /-- CART_RESET (R475): CART descriptor with index 0 sends RESET, expecting no response. -/
  | cartReset
  /-- HELLO (R477): CART command HELLO checks band and readiness and moves the cartridge to IDENT. -/
  | hello
  /-- HELLO_RETRY (R482): A HELLO answered with ready 0 is resent after 250 µs until ready or timeout. -/
  | helloRetry
  /-- SET_BUS (R489): CART command SET_BUS changes bus width and speed after 8 clocks. -/
  | setBus
  /-- READ_ID (R475): CART command READ_ID reads the 32-byte identification record. -/
  | readId
  /-- CART_STATUS (R476): CART command STATUS returns the status word in any powered state. -/
  | cartStatus
  /-- SET_COUNT (R481): CART command SET_COUNT sets the block count of the next multi-block command. -/
  | setCount
  /-- READ_SINGLE (R475): CART command READ_SINGLE reads one 512-byte block. -/
  | readSingle
  /-- READ_MULTI (R481): CART command READ_MULTI reads blocks until the count or a host STOP. -/
  | readMulti
  /-- WRITE_SINGLE (R474): CART command WRITE_SINGLE writes one 512-byte block and awaits its token. -/
  | writeSingle
  /-- WRITE_MULTI (R481): CART command WRITE_MULTI writes blocks until the count or a host STOP. -/
  | writeMulti
  /-- CART_STOP (R475): CART command STOP ends a transfer. -/
  | cartStop
  /-- RPA_REQUEST (R493): CART command RPA_REQUEST sends a 512-byte replay-protected request frame. -/
  | rpaRequest
  /-- RPA_RESULT (R494): CART command RPA_RESULT reads the whole result frame before judging the status. -/
  | rpaResult
  /-- LOCK_CTRL (R498): CART command LOCK_CTRL sends a 64-byte password lock operation. -/
  | lockCtrl
  /-- CART_RESPONSE (R482): A cartridge command ends with its response or data and completes the descriptor with the first applicable code. -/
  | cartResponse (r : CartReply) (g : Integ)
  /-- CART_BUSY_END (R484): The cartridge releasing DAT0 ends programming and lets the next command start. -/
  | cartBusyEnd
  /-- CART_TIMEOUT (R482): No response, no data start, or DAT0 low past its limit completes the descriptor with TIMEOUT. -/
  | cartTimeout (r : CartReply) (g : Integ)
  /-- GCB_CNT_CLR (R486): Writing GCB.CNTCLR clears CNT0 and CNT1. -/
  | gcbCntClr (ini : Ini)
  /-- STATUS (R511): Host link frame STATUS returns 16 status bytes and a CRC. -/
  | status (op : Byte) (mode3 : Bool)
  /-- MSG_WRITE (R513): Host link frame MSG_WRITE delivers a message into an inbound mailbox, judged at HL_CS_N rising. -/
  | msgWrite (quad mode3 : Bool) (body : List Byte) (g : Integ)
  /-- MSG_READ (R514): Host link frame MSG_READ returns the presented message of an outbound mailbox. -/
  | msgRead (quad mode3 : Bool) (body : List Byte) (missing : List Nat) (g : Integ)
  /-- MSG_ACK (R515): Host link frame MSG_ACK completes the presented outbound message. -/
  | msgAck (quad mode3 : Bool) (body : List Byte)
  /-- IRQ_CLR (R517): Host link frame IRQ_CLR clears latched host interrupt bits. -/
  | irqClr (mode3 : Bool) (body : List Byte)
  /-- DOORBELL (R517): A firmware write to HLK.DOORBELL latches the doorbell host interrupt. -/
  | doorbell (ini : Ini)
  /-- HLK_CNT_CLR (R513): Writing HLK.CNTCLR clears CNT0 to CNT2. -/
  | hlkCntClr (ini : Ini)
  /-- MGP_WRITE (R523): A management write transaction sets the window and pointer and applies its bytes at the STOP. -/
  | mgpWrite (bytes : List Byte)
  /-- MGP_READ (R524): A management read transaction sends bytes from the current window and pointer. -/
  | mgpRead (pos : List Byte) (k : Nat)
  /-- MGP_TIMEOUT (R520): MG_SCL low for t_MGTO abandons the target transaction. -/
  | mgpTimeout
  /-- SYS_RESET (R529): Management command SYS_RESET writes its result and performs a system reset with cause MGMT. -/
  | sysReset
  /-- RSTPIN_MASK (R105): Management command RSTPIN_MASK masks a stuck reset pin and releases the held reset. -/
  | rstpinMask
  /-- RETIRE (R529): Management command RETIRE starts the retire transition with method 4. -/
  | retire
  /-- OPEN (R529): Management command OPEN opens a session for the given seconds. -/
  | openSession
  /-- CLOSE (R530): Management command CLOSE ends the session without a MAC. -/
  | closeSession
  /-- MGP_SESSION_EXPIRE (R530): A management session ends when its time runs out. -/
  | mgpSessionExpire
  /-- MGP_BACKOFF_END (R529): The management command back-off period ends. -/
  | mgpBackoffEnd
  /-- MKEY_LOAD (R531): The Glasshouse write of MGP.MKEY3 completes the key and sets key_loaded. -/
  | mkeyLoad (ini : Ini) (v : Word)
  /-- IN_POST (R532): A management write of IN_POST posts an inbound message and sets full. -/
  | inPost (v : Word)
  /-- TAKE (R532): Firmware writing MGP.MBIN_CTL.take empties the inbound mailbox. -/
  | take (ini : Ini)
  /-- MBOUT_POST (R532): Firmware writing MGP.MBOUT_CTL.post presents an outbound message. -/
  | mboutPost (ini : Ini) (len : Byte)
  /-- OUT_ACK (R532): A management write of OUT_ACK empties OUT and sets mbout_taken. -/
  | outAck (v : Word)
  /-- ALERT_CLR (R533): A write to window 4 CLR or to MGP.ALERT clears latched alert bits. -/
  | alertClr (ini : Option Ini) (v : Word)
  /-- ALERT_FW (R533): Writing MGP.ALERT_FW.raise raises alert source 6. -/
  | alertFw (ini : Ini)
  /-- MC_GO (R535): A write of MGP.MC_CMD with go starts a controller transfer when the bus is free. -/
  | mcGo (ini : Ini) (v : Word) (free : Bool)
  /-- MC_RETRY (R536): After lost arbitration the port retries the transfer at the next STOP. -/
  | mcRetry
  /-- MC_DONE (R537): A controller transfer ends with OK, ABSENT, ABORTED, TIMEOUT, CRC or BUSY. -/
  | mcDone (e : McEnd)
  /-- MGP_CNT_CLR (R527): Writing MGP.CNTCLR clears MGP.CNT. -/
  | mgpCntClr (ini : Ini)
  /-- FIRE (R538): A write of SNAP.TRIG.fire raises a software snapshot trigger event. -/
  | fire (ini : Ini)
  /-- SNAP_FIRING (R539): The sequencer fires the common trigger and every enabled page captures its snapshot. -/
  | snapFiring
  /-- SNAP_MERGED_FIRE (R541): Trigger events merged within t_SNAPGAP fire once at the end of the interval. -/
  | snapMergedFire
  /-- SNAP_CFG_WRITE (R540): Any write to SNAP_CFG clears held and sets en and hold. -/
  | snapCfgWrite (ini : Ini) (p : Fin 32) (v : Word)
  /-- MON_SAMPLE (R542): A monitor takes a sample into its bins, minimum, maximum, count and sum. -/
  | monSample (p : Fin 32) (v : Word)
  /-- MON_CLEAR (R544): A write of MON_CTRL.clear, or a change of quantity, clears the monitor statistics. -/
  | monClear (ini : Ini) (p : Fin 32) (select : Bool) (v : Word)
  /-- LOG_WRITE (R546): The logger writes the oldest queued entry to its ledger slot with commit word last. -/
  | logWrite (passes : Fin 5) (verified : Bool)
  /-- LOG_WR1 (R548): A Glasshouse write of SNAP.LOG_WR1 queues a FIRMWARE log entry. -/
  | logWr1 (ini : Ini) (v : Word)
  /-- TRACE_RECORD_WRITE (R550): A trace record leaves the FIFO and is written to the trace RAM, byte 0 last. -/
  | traceRecordWrite
  /-- SWREC (R549): A write of TRC.SWREC queues an SW trace record. -/
  | swrec (ini : Ini) (v : Word)
  /-- TRC_CLR (R549): Writing TRC.CTRL.clr starts zeroing WPTR, LOST, full and every type byte. -/
  | trcClr (ini : Ini) (v : Word)
  /-- TRC_CLR_DONE (R549): The trace clear completes within 512 CK24 cycles and clearing drops. -/
  | trcClrDone
  /-- TEST_PIN_CHANGE (R46): TEST rising holds the Y880 in reset and TEST falling releases it. -/
  | testPinChange (high : Bool)
  /-- RL_WAKE_FALL (R443): RL_WAKE falling with no frame in progress disarms the radio front end. -/
  | rlWakeFall
  /-- MC_BUS_FREE (R535): A go waiting for a busy bus starts the controller transfer when a STOP is seen or the lines stay high for t_MGBUF. -/
  | mcBusFree
  /-- CLOCHE_TEMP_SAMPLE (R358): Once per millisecond in RUN and DOZE the temperature source samples and updates CLO.TEMP.reading. -/
  | clocheTempSample (reading : BitVec 16)
  /-- CLOCHE_GENERATOR_RESEED (R357): Once per second while PD9 is on, the Cloche draws a DRBG word to reseed its PD0 burst-offset generator. -/
  | clocheGeneratorReseed
  /-- JITTER_DRBG_REQUEST (R330): Every 65,536 core cycles of a running core the jitter generator takes one DRBG request. -/
  | jitterDrbgRequest (c : CoreId)
  /-- VBAT_OK_CHANGE (R51): VBAT crossing V_BATDET changes PWR.PATH.vbat_ok, and with it the VBAT sample value and the VBAT Cloche window. -/
  | vbatOkChange (ok : Bool)
  /-- COUPON_POOL_SCAN (R349): The pool scan that follows each PD9 power-up ends and sets the usable counts in CRY.CPN_STAT. -/
  | couponPoolScan
  /-- RESERVED_OPCODE (R183): The core executes a word whose major opcode or fn is reserved, or whose must-be-0 field is not 0, and raises the illegal opcode fault. -/
  | reservedOpcode (c : CoreId) (word : Word)
  /-- FETCH_FAULT (R158): A sequential fetch outside PCC, or one that fails the checks of R157, faults before any instruction is decoded. -/
  | fetchFault (c : CoreId)
  deriving DecidableEq, Repr

end Sys2Proof
end

