-- ==== Sys2Proof/WellFormed.lean ====
section
/-!
DEFINITION. Which commands can come from the table: what a constructor's types do not say of its operands. A command that fails its
check names nothing that can happen at the hardware; `exec` is total all the same.
-/
namespace Sys2Proof

/-- Causes of R98 that have system scope, and those of core scope; a lockup has either (SYS.LOCKUP.action). -/
def systemCauses : List Nat := [0x03, 0x04, 0x06, 0x08, 0x0A, 0x0B, 0x0C, 0x0D, 0x0E]
def coreCauses : List Nat := [0x05, 0x07, 0x08, 0x09]

/-- A reset source with the scope of its cause (R98). -/
def RstSrc.wellFormed (r : RstSrc) : Bool := if r.core.isSome then coreCauses.contains r.cause else systemCauses.contains r.cause

/-- Detections of one cycle: each source once, seen by a twin at least (R352). -/
def detsWellFormed (ds : List Det) : Bool := decide (ds.map (·.src)).Nodup && ds.all fun d => d.a || d.b

/-- What a cartridge sends: a CRC for each active line of a block, one or four (R470 to R472). -/
def CartReply.wellFormed (r : CartReply) : Bool := r.blocks.all fun b => decide (b.crc.length = 1 ∨ b.crc.length = 4)

/-- The end of a controller transfer: at most the 32 bytes that it may read (R535). -/
def McEnd.wellFormed : McEnd → Bool
  | .absent _ => true
  | .nack _ => true
  | .timeout _ got => decide (got.length ≤ 32)
  | .complete got _ => decide (got.length ≤ 32)

/-- A command whose operands can occur. -/
def Instr.wellFormed : Instr → Bool
  | .iogrpChange _ _ r _ => r.wellFormed
  | .gcbOvercurrent r _ => r.wellFormed
  | .adcResult volts _ => !volts.isEmpty
  | .systemReset srcs => srcs.all RstSrc.wellFormed && srcs.any (·.core.isNone)
  | .coreReset srcs => srcs.all RstSrc.wellFormed && !srcs.isEmpty && srcs.all (·.core.isSome)
  | .prbRead op _ _ => decide (op ≠ 2)
  | .clocheDetect ds => detsWellFormed ds
  | .clocheBurst _ ds => detsWellFormed ds
  | .descriptorService aged _ _ => decide aged.Nodup
  | .ethRxFrame _ bytes _ _ _ => !bytes.isEmpty
  | .rlRxFrame bytes _ _ => !bytes.isEmpty
  | .cartridgeRemove r _ => r.wellFormed
  | .cartResponse r _ => r.frame.isSome && r.wellFormed
  | .cartTimeout r _ => r.wellFormed
  | .msgRead _ _ _ missing _ => decide missing.Nodup
  | .mgpWrite bytes => !bytes.isEmpty
  | .mgpRead pos k => decide (pos.length ≤ 3) && decide (0 < k)
  | .mcDone e => e.wellFormed
  | .registerWrite .. | .ownerWrite .. | .ownerClrCnt .. | .softLock .. | .unlock .. | .hardLock .. | .faultClear .. | .vsysRise
  | .vsysGained | .vsysLost | .forceVbatWrite .. | .pathCntClr .. | .shipWake .. | .vbatSample .. | .gpioSet .. | .gpioClr ..
  | .gpioEdge .. | .adcGo .. | .adcCal .. | .adcCalDone .. | .scanDone | .adcResultRead .. | .hfrcCalCount .. | .hfxoStable | .pllLock
  | .lfxoStable | .boostReq .. | .boostSwitch | .boostCntClr .. | .domainReqWrite .. | .domainPowerUp | .domainPowerDown | .pdWaitEnd
  | .holdRelease .. | .sleepCntClr .. | .offaccClr .. | .sleepEntry | .wakeEvent .. | .dozeWake | .hibernateWake | .aonTimeRead ..
  | .alarmFire | .alarmArm .. | .emClear .. | .emRead .. | .powerOnReset .. | .resetPinGlitch | .pinReset | .resetPinStuck
  | .resetPinRelease | .softSys .. | .softCore .. | .coldBoot .. | .warmResume | .core1Start | .coreRestart .. | .lcAdvanceToken ..
  | .lcAdvancePlain .. | .lcTransition | .lcBackoffEnd | .lcStateClr .. | .dbgReq .. | .dbgGo .. | .dbgRevoke .. | .prbLineReset
  | .prbWrite .. | .prbDataRead .. | .prbDataWrite .. | .prbAccessDone .. | .prbHalt | .prbHaltTaken .. | .prbStep | .prbResume
  | .prbRdataRead | .prbRdataWrite .. | .prbReset .. | .prbCntClr .. | .add .. | .sub .. | .and .. | .or .. | .xor .. | .sll ..
  | .srl .. | .sra .. | .slt .. | .sltu .. | .mul .. | .mulh .. | .mulhu .. | .mulhsu .. | .div .. | .divu .. | .rem .. | .remu ..
  | .addi .. | .andi .. | .ori .. | .xori .. | .slti .. | .sltiu .. | .slli .. | .srli .. | .srai .. | .movhi .. | .csel .. | .lb ..
  | .lbu .. | .lh .. | .lhu .. | .lw .. | .ldc .. | .lrw .. | .sb .. | .sh .. | .sw .. | .stc .. | .scw .. | .beq .. | .bne ..
  | .blt .. | .bge .. | .bltu .. | .bgeu .. | .jal .. | .jalr .. | .cjalr .. | .cmove .. | .cclrt .. | .cbound .. | .candp ..
  | .cseal .. | .cunseal .. | .cepoch .. | .ldcapx .. | .cget .. | .ebump .. | .esweep .. | .sweepDone | .cpuCntClr .. | .chk ..
  | .chki .. | .chkr .. | .chkri .. | .wfi .. | .fence .. | .fenceR .. | .fenceI .. | .trap .. | .tret .. | .mfsr .. | .mtsr ..
  | .maskx .. | .maski .. | .gate .. | .ungate .. | .interruptEntry .. | .impreciseBusError .. | .postedStoreError .. | .severeEvent ..
  | .intcSwSet .. | .intcSwClr .. | .intcDeferClr .. | .wdogEnable .. | .wdogWarn .. | .wdogExpire .. | .feed .. | .gtEnable ..
  | .gtExpire .. | .gtStatClr .. | .colBudgetExpire | .colHoldoffExpire | .colCntClr .. | .memkeyLoad .. | .cohRetry ..
  | .smpuRegionWrite .. | .smpuSync .. | .syncDone .. | .smpuCntClr .. | .prog .. | .erase .. | .optProg .. | .optErase ..
  | .flashOpDone .. | .flcCntClr .. | .ledgerWriteDone .. | .cntRead .. | .cntInc .. | .cntRaise .. | .cntDone .. | .logScan
  | .ldgCntClr .. | .healthTestFail .. | .entRestart .. | .testNow .. | .entTestDone .. | .seedReady .. | .reseed | .entDataRead ..
  | .entWaitTimeout | .aes .. | .tdea .. | .hash .. | .hmac .. | .ecdsaP256 .. | .ed25519 .. | .ecdhP256 .. | .x25519 .. | .keygen
  | .derive .. | .wrap | .unwrap .. | .load .. | .zeroSlot | .cpnHold | .cpnDrop | .pkStepBoundary | .cipherJobDone .. | .couponRefill
  | .couponFilled .. | .zeroise .. | .cryCntClr .. | .bistA .. | .bistB .. | .bistDone .. | .cloRespWrite .. | .cloCntClr ..
  | .enable .. | .pause .. | .resume .. | .disable .. | .clrcnt .. | .ringPaused .. | .idxWrite .. | .ringCfgWrite ..
  | .descriptorComplete .. | .groupHoldoffExpire .. | .gstatAck .. | .trlCntClr .. | .frameClassify | .write .. | .read ..
  | .ruleDisable .. | .dfltWrite .. | .rdlCntClr .. | .sieveDecide | .sieveAgeExpire | .sieveHandoff | .svCntClr .. | .ethTxFrame ..
  | .refclkLost .. | .refclkReturn .. | .mdioCmd .. | .mdioDone .. | .linkPoll .. | .ethCntClr .. | .rlWake | .rlTxArm
  | .slotWindowTest | .rlTxEnd | .wClose | .rlClkLost | .referenceExpire | .rlpCntClr .. | .cartridgeInsert | .gcbPwrOn ..
  | .gcbPwrOff .. | .gcbPowerReady | .gcbResume .. | .ocClr .. | .cartReset | .hello | .helloRetry | .setBus | .readId | .cartStatus
  | .setCount | .readSingle | .readMulti | .writeSingle | .writeMulti | .cartStop | .rpaRequest | .rpaResult | .lockCtrl | .cartBusyEnd
  | .gcbCntClr .. | .status .. | .msgWrite .. | .msgAck .. | .irqClr .. | .doorbell .. | .hlkCntClr .. | .mgpTimeout | .sysReset
  | .rstpinMask | .retire | .openSession | .closeSession | .mgpSessionExpire | .mgpBackoffEnd | .mkeyLoad .. | .inPost .. | .take ..
  | .mboutPost .. | .outAck .. | .alertClr .. | .alertFw .. | .mcGo .. | .mcRetry | .mgpCntClr .. | .fire .. | .snapFiring
  | .snapMergedFire | .snapCfgWrite .. | .monSample .. | .monClear .. | .logWrite .. | .logWr1 .. | .traceRecordWrite | .swrec ..
  | .trcClr .. | .trcClrDone | .testPinChange .. | .rlWakeFall | .mcBusFree | .clocheTempSample .. | .clocheGeneratorReseed
  | .jitterDrbgRequest .. | .vbatOkChange .. | .couponPoolScan | .reservedOpcode .. | .fetchFault .. => true

end Sys2Proof
end

