-- ==== Sys2Proof/Decode.lean ====
section
/-!
DEFINITION. Words that spell commands: the instruction words of the Xestov core by their formats (R180 to R183), which word stands for which
instruction, and the words of the command table, which gives none of its rows any bits.
-/
namespace Sys2Proof.Machine
open Sys2Proof

/-- A 5-bit field of an instruction word, from bit `lo`. -/
def fieldOf (w lo : Nat) : Nat := bitsOf w (lo + 4) lo

/-- OP's fn values (R186). -/
def opFn (fn : Nat) : Bool := decide (fn ≤ 9 ∨ (0x10 ≤ fn ∧ fn ≤ 0x13) ∨ (0x18 ≤ fn ∧ fn ≤ 0x1B))

/-- A CAP word whose fn is reserved, or whose unused fields are not 0 (R183, R200). -/
def capReserved (w : Nat) : Bool :=
  let c := fieldOf w 11
  let d := fieldOf w 6
  match bitsOf w 5 0 with
  | 0x00 | 0x01 | 0x07 | 0x10 | 0x11 => decide (c ≠ 0 ∨ d ≠ 0)
  | 0x02 | 0x04 => false
  | 0x03 | 0x05 | 0x06 => decide (d ≠ 0)
  | 0x08 => decide (d ≠ 0 ∨ 8 ≤ c)
  | _ => true

/-- A SYS word whose fn is reserved, or whose unused fields are not 0 (R183, R204). -/
def sysReserved (w : Nat) : Bool :=
  let rd := fieldOf w 21
  let rs1 := fieldOf w 16
  let imm := bitsOf w 15 4
  match bitsOf w 3 0 with
  | 0 | 1 | 2 | 3 | 5 => decide (rd ≠ 0 ∨ rs1 ≠ 0 ∨ imm ≠ 0)
  | 4 => decide (rd ≠ 0 ∨ rs1 ≠ 0)
  | 6 => decide (rs1 ≠ 0)
  | 7 => decide (rd ≠ 0)
  | 8 | 10 => decide (imm ≠ 0)
  | 9 => decide (rs1 ≠ 0 ∨ 16 ≤ imm)
  | 11 => decide (rd ≠ 0 ∨ imm ≠ 0)
  | _ => true

/-- A word with a reserved major opcode or fn, or with a field that must be 0 and is not (R183). -/
def reservedWord (w : Nat) : Bool :=
  match bitsOf w 31 26 with
  | 0x01 => !opFn (bitsOf w 10 0)
  | 0x08 => decide (bitsOf w 15 7 ≠ 0 ∨ bitsOf w 6 5 = 3)
  | 0x09 => decide (fieldOf w 16 ≠ 0)
  | 0x0A => decide (bitsOf w 5 0 ≠ 0)
  | 0x02 | 0x03 | 0x04 | 0x05 | 0x06 | 0x07 => false
  | 0x10 | 0x11 | 0x12 | 0x13 | 0x14 | 0x15 | 0x16 => false
  | 0x18 | 0x19 | 0x1A | 0x1B | 0x1C => false
  | 0x20 | 0x21 | 0x22 | 0x23 | 0x24 | 0x25 => false
  | 0x28 | 0x29 => false
  | 0x2A => decide (bitsOf w 9 9 = 0 ∧ bitsOf w 12 10 ≠ 0)
  | 0x30 => capReserved w
  | 0x31 | 0x33 => decide (bitsOf w 10 0 ≠ 0)
  | 0x32 => false
  | 0x34 => decide (fieldOf w 21 ≠ 0)
  | 0x38 => sysReserved w
  | _ => true

end Sys2Proof.Machine

namespace Sys2Proof
open Sys2Proof.Machine

/-- A 5-bit field of a word, from bit `lo`, as a register. -/
def regAt (w lo : Nat) : Fin 32 := Fin.ofNat 32 (fieldOf w lo)

/-- A 3-bit field of a word, from bit `lo`, as a capability register. -/
def capAt (w lo : Nat) : Fin 8 := Fin.ofNat 8 (bitsOf w (lo + 2) lo)

/-- The low 16 bits of a word: imm16 of formats I and B. -/
def imm16 (w : Nat) : BitVec 16 := BitVec.ofNat 16 w

/-- OP words (format R, op 0x01), by fn (R186). -/
def decodeOp (c : CoreId) (w : Nat) : Option Instr :=
  let rd := regAt w 21
  let rs1 := regAt w 16
  let rs2 := regAt w 11
  match bitsOf w 10 0 with
  | 0x00 => some (.add c rd rs1 rs2)
  | 0x01 => some (.sub c rd rs1 rs2)
  | 0x02 => some (.and c rd rs1 rs2)
  | 0x03 => some (.or c rd rs1 rs2)
  | 0x04 => some (.xor c rd rs1 rs2)
  | 0x05 => some (.sll c rd rs1 rs2)
  | 0x06 => some (.srl c rd rs1 rs2)
  | 0x07 => some (.sra c rd rs1 rs2)
  | 0x08 => some (.slt c rd rs1 rs2)
  | 0x09 => some (.sltu c rd rs1 rs2)
  | 0x10 => some (.mul c rd rs1 rs2)
  | 0x11 => some (.mulh c rd rs1 rs2)
  | 0x12 => some (.mulhu c rd rs1 rs2)
  | 0x13 => some (.mulhsu c rd rs1 rs2)
  | 0x18 => some (.div c rd rs1 rs2)
  | 0x19 => some (.divu c rd rs1 rs2)
  | 0x1A => some (.rem c rd rs1 rs2)
  | 0x1B => some (.remu c rd rs1 rs2)
  | _ => none

/-- CAP words (format Q, op 0x30), by fn (R200). -/
def decodeCap (c : CoreId) (w : Nat) : Option Instr :=
  let a := regAt w 21
  let b := regAt w 16
  let x := regAt w 11
  let d := regAt w 6
  match bitsOf w 5 0 with
  | 0x00 => some (.cmove c a b)
  | 0x01 => some (.cclrt c a b)
  | 0x02 => some (.cbound c a b x d)
  | 0x03 => some (.candp c a b x)
  | 0x04 => some (.cseal c a b x d)
  | 0x05 => some (.cunseal c a b x)
  | 0x06 => some (.cepoch c a b x)
  | 0x07 => some (.ldcapx c a b .ok)
  | 0x08 => some (.cget c a b x)
  | 0x10 => some (.ebump c a b)
  | 0x11 => some (.esweep c a b)
  | _ => none

/-- SYS words (format S, op 0x38), by fn (R204). -/
def decodeSys (c : CoreId) (w : Nat) : Option Instr :=
  let rd := regAt w 21
  let rs1 := regAt w 16
  let imm : BitVec 12 := BitVec.ofNat 12 (w / 2 ^ 4)
  match bitsOf w 3 0 with
  | 0x0 => some (.wfi c)
  | 0x1 => some (.fence c)
  | 0x2 => some (.fenceR c)
  | 0x3 => some (.fenceI c)
  | 0x4 => some (.trap c imm)
  | 0x5 => some (.tret c)
  | 0x6 => some (.mfsr c rd imm)
  | 0x7 => some (.mtsr c rs1 imm)
  | 0x8 => some (.maskx c rd rs1)
  | 0x9 => some (.maski c rd imm)
  | 0xA => some (.gate c rd rs1)
  | 0xB => some (.ungate c rs1)
  | _ => none

/-- Words of format M, by major opcode (R189). A load or store finds its memory sound. -/
def decodeMem (c : CoreId) (w : Nat) : Option Instr :=
  let rt := regAt w 21
  let rs := regAt w 16
  let cs := capAt w 13
  let imm : BitVec 13 := BitVec.ofNat 13 w
  match bitsOf w 31 26 with
  | 0x10 => some (.lb c rt rs cs imm .ok)
  | 0x11 => some (.lh c rt rs cs imm .ok)
  | 0x12 => some (.lw c rt rs cs imm .ok)
  | 0x13 => some (.lbu c rt rs cs imm .ok)
  | 0x14 => some (.lhu c rt rs cs imm .ok)
  | 0x15 => some (.ldc c rt rs cs imm .ok)
  | 0x16 => some (.lrw c rt rs cs imm .ok)
  | 0x18 => some (.sb c rt rs cs imm .ok)
  | 0x19 => some (.sh c rt rs cs imm .ok)
  | 0x1A => some (.sw c rt rs cs imm .ok)
  | 0x1B => some (.stc c rt rs cs imm .ok)
  | 0x1C => some (.scw c rt rs cs imm .ok)
  | _ => none

/-- Words of the other formats, by major opcode (R186, R196, R197, R199, R203). -/
def decodeMajor (c : CoreId) (w : Nat) : Option Instr :=
  let a := regAt w 21
  let b := regAt w 16
  let imm := imm16 w
  match bitsOf w 31 26 with
  | 0x01 => decodeOp c w
  | 0x02 => some (.addi c a b imm)
  | 0x03 => some (.andi c a b imm)
  | 0x04 => some (.ori c a b imm)
  | 0x05 => some (.xori c a b imm)
  | 0x06 => some (.slti c a b imm)
  | 0x07 => some (.sltiu c a b imm)
  | 0x08 =>
    let hi : BitVec 9 := BitVec.ofNat 9 (w / 2 ^ 7)
    let sh : BitVec 5 := BitVec.ofNat 5 w
    match bitsOf w 6 5 with
    | 0 => some (.slli c a b hi sh)
    | 1 => some (.srli c a b hi sh)
    | 2 => some (.srai c a b hi sh)
    | _ => none
  | 0x09 => some (.movhi c a imm)
  | 0x0A => some (.csel c a b (regAt w 11) (regAt w 6))
  | 0x20 => some (.beq c a b imm)
  | 0x21 => some (.bne c a b imm)
  | 0x22 => some (.blt c a b imm)
  | 0x23 => some (.bge c a b imm)
  | 0x24 => some (.bltu c a b imm)
  | 0x25 => some (.bgeu c a b imm)
  | 0x28 => some (.jal c a (BitVec.ofNat 21 w))
  | 0x29 => some (.jalr c a b imm)
  | 0x2A => some (.cjalr c a b (capAt w 13) (capAt w 10) (bitAt w 9) (BitVec.ofNat 9 w))
  | 0x30 => decodeCap c w
  | 0x31 => some (.chk c a b (regAt w 11))
  | 0x32 => some (.chki c a b imm)
  | 0x33 => some (.chkr c a b (regAt w 11))
  | 0x34 => some (.chkri c b imm)
  | 0x38 => decodeSys c w
  | _ => decodeMem c w

/-- The instruction of core `c` that a 32-bit word spells (R180 to R182); none for a word that R183 makes illegal, which RESERVED_OPCODE
stands for. -/
def decodeWord (c : CoreId) (w : Word) : Option Instr := if reservedWord w.toNat then none else decodeMajor c w.toNat

/-- The command that a word of `nbits` bits spells by the table: none does. -/
def decodeTableWord (_nbits _w : Nat) : Option Instr := none

end Sys2Proof
end

