-- ==== Sys2Proof/Config.lean ====
section
/-!
DEFINITION. What the spec leaves open. Each constant is opaque: no proof can see its value, so a claim about the model
holds whatever it is. The names and the log entries that introduce them:
romByte (log 3), capsLow (log 5), freeWord, freeNat and freeByte (log 6), freeGranules (log 9), uid and hfrcTrim (log 41), rootKey and couponKey
(log 42), conditionKey (log 74), the Cloche's limits and offsets (log 77).
-/
namespace Sys2Proof

/-- Byte `a` of the boot ROM: the spec gives the boot ROM's behaviour, not its code (log 3). -/
opaque Config.romByte : Nat → Byte

/-- CAPS[23:0] of page `p`, which R24 leaves to each block and no block chapter states (log 5). -/
opaque Config.capsLow : Nat → BitVec 24

/-- A value the spec does not state, drawn fresh for each number of State.fresh (log 6). -/
opaque Config.freeWord : Nat → Word

/-- A natural number the spec does not state, drawn fresh for each number of State.fresh (log 6). -/
opaque Config.freeNat : Nat → Nat

/-- Numbers of SRAM granules that draw `n` gives, where physical errors show that no command tells of (log 9). -/
opaque Config.freeGranules : Nat → List Nat

/-- Limits of the supply monitors of this part in mV, each between the minimum and the maximum of ch. 23: V_CLOVC, V_CLOBAT(lo), V_CLOBAT(hi)
and V_CLOSYS (log 77). -/
opaque Config.cloVc : Nat
opaque Config.cloBatLo : Nat
opaque Config.cloBatHi : Nat
opaque Config.cloSys : Nat

/-- The place in second `sec` at which the Cloche's generator, last reseeded with `seed`, puts the burst (R357), and where the fixed
sequence of FAILED puts it (R324, R358; log 77). -/
opaque Config.cloOffset (seed sec : Nat) : Nat
opaque Config.cloFixed (sec : Nat) : Nat

/-- Byte `i` of the byte string that draw `n` gives where contents are undefined (log 6). -/
opaque Config.freeByte : Nat → Nat → Byte

/-- The device identifier of the factory row, which differs from part to part (log 41). -/
opaque Config.uid : BitVec 64

/-- The coarse HFRC trim of the factory row (log 41). -/
opaque Config.hfrcTrim : BitVec 8

/-- The root key that the device secret and zgen give slot 0; R342 does not state the derivation (log 42). -/
opaque Config.rootKey : Nat → BitVec 256

/-- The coupon sealing key that the device secret and zgen give slot 1 (log 42). -/
opaque Config.couponKey : Nat → BitVec 256

/-- The key of the conditioner's CBC-MAC, which SP 800-90B leaves to the maker and R323 does not state (log 74). -/
opaque Config.conditionKey : BitVec 256

end Sys2Proof
end

