-- ==== Sys2Proof/Machine/PinTable.lean ====
section
/-!
DEFINITION. The pins of the Y880 (R45): each pin's type, power domain, reset state, internal pull, pin numbers and I/O group, as the
pin table gives them.
-/
namespace Sys2Proof.Machine

/-- A pin by its name; pins that come in numbered series carry their number, those of the Ethernet ports their port. -/
inductive Pin where
  | vbat | vsys | vmain | lx | pgnd | vcore | vcapAon | xlIn | xlOut | shipwkN | resetN | test | vddioS | mgScl | mgSda | mgAlertN
  | mgAddr (k : Fin 2) | prbClk | prbDio | rlClk | rlFs | rlRxd | rlTxd | rlTxen | rlWake | vss | gcbVcc | vddioC | gcbDetN | gcbClk | gcbCmd
  | gcbDat (k : Fin 4) | xhIn | xhOut | vdda | gpio (n : Fin 12) | vddioH | hlSck | hlCsN | hlIo (k : Fin 4) | hlIrqN | mdc | mdio
  | vddioE | rmiiRefclk (p : Fin 2) | rmiiTxen (p : Fin 2) | rmiiTxd (p : Fin 2) (k : Fin 2) | rmiiRxd (p : Fin 2) (k : Fin 2)
  | rmiiCrsDv (p : Fin 2) | rmiiRxer (p : Fin 2) | ep
  deriving DecidableEq, Repr

/-- The type codes of the pin table. -/
inductive PinType where
  | supply | switchedSupply | ground | analogue | input | output | bidir | openDrain | openDrainBidir | strap | inOrOut | bidirOrAnalogue
  deriving DecidableEq, Repr

/-- The reset states of the pin table: an input with its receiver on, high impedance, driven low, a supply off and discharged. -/
inductive PinReset where
  | none | input | z | low | off
  deriving DecidableEq, Repr

/-- The internal pulls of the pin table. -/
inductive PinPull where
  | none | up | down | upToVbat | downWhileSampled | upWhileGcbVcc
  deriving DecidableEq, Repr

/-- The I/O groups, in the bit order of PWR.IOGRP. -/
inductive IoGroup where
  | e | s | c | h
  deriving DecidableEq, Repr

/-- The bit of an I/O group in PWR.IOGRP. -/
def IoGroup.bit : IoGroup → Nat
  | .e => 0 | .s => 1 | .c => 2 | .h => 3

/-- What a pin's driver does: a level, high impedance, or the bits of a clock or of a frame in progress, which commands carry (log 12). -/
inductive Drive where
  | low | high | z | toggles
  deriving DecidableEq, Repr

/-- What a pin's pull does. -/
inductive Pull where
  | none | up | down
  deriving DecidableEq, Repr

/-- What a pin shows: driver and pull. -/
structure PinOut where
  drive : Drive
  pull : Pull
  deriving DecidableEq, Repr

/-- One row of the pin table. -/
structure PinRow where
  nums : List Nat
  type : PinType
  domain : Option Nat
  reset : PinReset
  pull : PinPull
  deriving DecidableEq, Repr

/-- The row of a pin in the pin table (R45). -/
def Pin.row : Pin → PinRow
  | .vbat => ⟨[1], .supply, none, .none, .none⟩
  | .vsys => ⟨[2], .supply, none, .none, .none⟩
  | .vmain => ⟨[3, 4], .supply, none, .none, .none⟩
  | .lx => ⟨[5, 6], .supply, none, .none, .none⟩
  | .pgnd => ⟨[7, 8], .ground, none, .none, .none⟩
  | .vcore => ⟨[9, 31, 66], .supply, none, .none, .none⟩
  | .vcapAon => ⟨[10], .supply, none, .none, .none⟩
  | .xlIn => ⟨[11], .analogue, some 0, .none, .none⟩
  | .xlOut => ⟨[12], .analogue, some 0, .none, .none⟩
  | .shipwkN => ⟨[13], .input, some 0, .input, .upToVbat⟩
  | .resetN => ⟨[14], .input, some 0, .input, .up⟩
  | .test => ⟨[15], .input, some 0, .input, .down⟩
  | .vddioS => ⟨[16], .supply, none, .none, .none⟩
  | .mgScl => ⟨[17], .openDrainBidir, some 0, .z, .none⟩
  | .mgSda => ⟨[18], .openDrainBidir, some 0, .z, .none⟩
  | .mgAlertN => ⟨[19], .openDrain, some 0, .z, .none⟩
  | .mgAddr k => ⟨[20 + k], .strap, some 0, .input, .downWhileSampled⟩
  | .prbClk => ⟨[22], .input, some 13, .input, .down⟩
  | .prbDio => ⟨[23], .bidir, some 13, .input, .up⟩
  | .rlClk => ⟨[24], .input, some 1, .input, .down⟩
  | .rlFs => ⟨[25], .input, some 1, .input, .down⟩
  | .rlRxd => ⟨[26], .input, some 1, .input, .down⟩
  | .rlTxd => ⟨[27], .output, some 1, .low, .none⟩
  | .rlTxen => ⟨[28], .output, some 1, .low, .down⟩
  | .rlWake => ⟨[29], .input, some 1, .input, .down⟩
  | .vss => ⟨[30, 41, 67, 88], .ground, none, .none, .none⟩
  | .gcbVcc => ⟨[32], .switchedSupply, some 12, .off, .none⟩
  | .vddioC => ⟨[33], .supply, none, .none, .none⟩
  | .gcbDetN => ⟨[34], .input, some 0, .input, .up⟩
  | .gcbClk => ⟨[35], .output, some 12, .low, .none⟩
  | .gcbCmd => ⟨[36], .bidir, some 12, .low, .upWhileGcbVcc⟩
  | .gcbDat k => ⟨[37 + k], .bidir, some 12, .low, .upWhileGcbVcc⟩
  | .xhIn => ⟨[42], .analogue, some 0, .none, .none⟩
  | .xhOut => ⟨[43], .analogue, some 0, .none, .none⟩
  | .vdda => ⟨[44], .supply, none, .none, .none⟩
  | .gpio n =>
    if 8 ≤ n.val then ⟨[37 + n], .bidirOrAnalogue, some 13, .input, .none⟩ else ⟨[49 + n], .bidir, some 13, .input, .down⟩
  | .vddioH => ⟨[57, 65], .supply, none, .none, .none⟩
  | .hlSck => ⟨[58], .input, some 13, .input, .down⟩
  | .hlCsN => ⟨[59], .input, some 13, .input, .up⟩
  | .hlIo k => ⟨[60 + k], .bidir, some 13, .z, .up⟩
  | .hlIrqN => ⟨[64], .openDrain, some 13, .z, .none⟩
  | .mdc => ⟨[68], .output, some 11, .low, .none⟩
  | .mdio => ⟨[69], .bidir, some 11, .z, .up⟩
  | .vddioE => ⟨[70, 79], .supply, none, .none, .none⟩
  | .rmiiRefclk p => ⟨[71 + 9 * p], .inOrOut, some 11, .input, .none⟩
  | .rmiiTxen p => ⟨[72 + 9 * p], .output, some 11, .low, .down⟩
  | .rmiiTxd p k => ⟨[73 + 9 * p + k], .output, some 11, .low, .none⟩
  | .rmiiRxd p k => ⟨[75 + 9 * p + k], .input, some 11, .input, .down⟩
  | .rmiiCrsDv p => ⟨[77 + 9 * p], .input, some 11, .input, .down⟩
  | .rmiiRxer p => ⟨[78 + 9 * p], .input, some 11, .input, .down⟩
  | .ep => ⟨[], .ground, none, .none, .none⟩

/-- The power domain of a pin; supplies and grounds have none. -/
def Pin.domain (p : Pin) : Option Nat := p.row.domain

/-- The first pin number of a pin; the exposed pad has none. -/
def Pin.num (p : Pin) : Nat := p.row.nums.headD 0

/-- The I/O group of a pin, by its number (R45): 11 to 29 S, 32 to 40 C, 45 to 64 H, 68 to 87 E. -/
def Pin.group (p : Pin) : Option IoGroup :=
  if p.domain.isNone then none
  else if 11 ≤ p.num ∧ p.num ≤ 29 then some .s
  else if 32 ≤ p.num ∧ p.num ≤ 40 then some .c
  else if 45 ≤ p.num ∧ p.num ≤ 64 then some .h
  else if 68 ≤ p.num ∧ p.num ≤ 87 then some .e
  else none

/-- Every pin that has a power domain. -/
def Pin.all : List Pin :=
  [.xlIn, .xlOut, .shipwkN, .resetN, .test, .mgScl, .mgSda, .mgAlertN, .mgAddr 0, .mgAddr 1, .prbClk, .prbDio, .rlClk, .rlFs, .rlRxd,
    .rlTxd, .rlTxen, .rlWake, .gcbVcc, .gcbDetN, .gcbClk, .gcbCmd, .gcbDat 0, .gcbDat 1, .gcbDat 2, .gcbDat 3, .xhIn, .xhOut] ++
  [.gpio 0, .gpio 1, .gpio 2, .gpio 3, .gpio 4, .gpio 5, .gpio 6, .gpio 7, .gpio 8, .gpio 9, .gpio 10, .gpio 11,
    .hlSck, .hlCsN, .hlIo 0, .hlIo 1, .hlIo 2, .hlIo 3, .hlIrqN, .mdc, .mdio] ++
  [.rmiiRefclk 0, .rmiiTxen 0, .rmiiTxd 0 0, .rmiiTxd 0 1, .rmiiRxd 0 0, .rmiiRxd 0 1, .rmiiCrsDv 0, .rmiiRxer 0,
    .rmiiRefclk 1, .rmiiTxen 1, .rmiiTxd 1 0, .rmiiTxd 1 1, .rmiiRxd 1 0, .rmiiRxd 1 1, .rmiiCrsDv 1, .rmiiRxer 1]

/-- The pins of a power domain. -/
def pinsOf (d : Nat) : List Pin := Pin.all.filter fun p => decide (p.domain = some d)

end Sys2Proof.Machine
end

