-- ==== Sys2Proof/Machine/Fields.lean ====
section
/-!
DEFINITION. Names for the registers (R.PAGE.REGISTER, a byte address) and fields (F.PAGE.REGISTER.field) of the
register tables of the chapters, and of the common page header (R24, offsets from the page base: R.HDR, F.HDR).
A series is named by its first register; CPU and ETH name page 0 of their pair (the other page lies 0x1000 further on).
-/
namespace Sys2Proof.Machine

def R.PWR.PATH : Nat := 0x40001100
def F.PWR.PATH.vbat_ok : Fld := ⟨0x40001100, 0, 0⟩
def F.PWR.PATH.vsys_ok : Fld := ⟨0x40001100, 1, 1⟩
def F.PWR.PATH.src : Fld := ⟨0x40001100, 2, 2⟩
def F.PWR.PATH.force_vbat : Fld := ⟨0x40001100, 3, 3⟩
def F.PWR.PATH.switch_cnt : Fld := ⟨0x40001100, 15, 8⟩
def F.PWR.PATH.clr : Fld := ⟨0x40001100, 16, 16⟩
def R.PWR.VBAT : Nat := 0x40001104
def F.PWR.VBAT.vbat_mv : Fld := ⟨0x40001104, 11, 0⟩
def F.PWR.VBAT.low_mv : Fld := ⟨0x40001104, 27, 16⟩
def R.PWR.IOGRP : Nat := 0x40001108
def F.PWR.IOGRP.present : Fld := ⟨0x40001108, 3, 0⟩
def F.PWR.IOGRP.band : Fld := ⟨0x40001108, 11, 8⟩
def R.PWR.BUCK : Nat := 0x4000110c
def F.PWR.BUCK.mode : Fld := ⟨0x4000110c, 1, 0⟩
def F.PWR.BUCK.pfm : Fld := ⟨0x4000110c, 2, 2⟩
def R.GPIO.DIR : Nat := 0x4001a100
def F.GPIO.DIR.oe : Fld := ⟨0x4001a100, 11, 0⟩
def R.GPIO.OUT : Nat := 0x4001a104
def F.GPIO.OUT.out : Fld := ⟨0x4001a104, 11, 0⟩
def R.GPIO.SET : Nat := 0x4001a108
def F.GPIO.SET.set : Fld := ⟨0x4001a108, 11, 0⟩
def R.GPIO.CLR : Nat := 0x4001a10c
def F.GPIO.CLR.clr : Fld := ⟨0x4001a10c, 11, 0⟩
def R.GPIO.IN : Nat := 0x4001a110
def F.GPIO.IN.in : Fld := ⟨0x4001a110, 11, 0⟩
def R.GPIO.PULL : Nat := 0x4001a114
def F.GPIO.PULL.pull : Fld := ⟨0x4001a114, 23, 0⟩
def R.GPIO.OD : Nat := 0x4001a118
def F.GPIO.OD.od : Fld := ⟨0x4001a118, 11, 0⟩
def R.GPIO.EDGE : Nat := 0x4001a11c
def F.GPIO.EDGE.edge : Fld := ⟨0x4001a11c, 23, 0⟩
def R.GPIO.ANA : Nat := 0x4001a120
def F.GPIO.ANA.ana : Fld := ⟨0x4001a120, 3, 0⟩
def R.GPIO.FILT : Nat := 0x4001a124
def F.GPIO.FILT.filt : Fld := ⟨0x4001a124, 11, 0⟩
def R.ADC.CTRL : Nat := 0x4001b010
def F.ADC.CTRL.en : Fld := ⟨0x4001b010, 0, 0⟩
def F.ADC.CTRL.cal : Fld := ⟨0x4001b010, 1, 1⟩
def F.ADC.CTRL.cont : Fld := ⟨0x4001b010, 2, 2⟩
def F.ADC.CTRL.avg : Fld := ⟨0x4001b010, 6, 4⟩
def R.ADC.STAT : Nat := 0x4001b014
def F.ADC.STAT.busy : Fld := ⟨0x4001b014, 0, 0⟩
def F.ADC.STAT.calibrating : Fld := ⟨0x4001b014, 1, 1⟩
def F.ADC.STAT.cal_valid : Fld := ⟨0x4001b014, 2, 2⟩
def R.ADC.SCAN : Nat := 0x4001b100
def F.ADC.SCAN.channels : Fld := ⟨0x4001b100, 3, 0⟩
def R.ADC.START : Nat := 0x4001b104
def F.ADC.START.go : Fld := ⟨0x4001b104, 0, 0⟩
def R.ADC.RESULT : Nat := 0x4001b108
def F.ADC.RESULT.value : Fld := ⟨0x4001b108, 11, 0⟩
def F.ADC.RESULT.valid : Fld := ⟨0x4001b108, 16, 16⟩
def F.ADC.RESULT.delayed : Fld := ⟨0x4001b108, 17, 17⟩
def F.ADC.RESULT.overrun : Fld := ⟨0x4001b108, 18, 18⟩
def R.ADC.THR : Nat := 0x4001b118
def F.ADC.THR.lo : Fld := ⟨0x4001b118, 11, 0⟩
def F.ADC.THR.hi : Fld := ⟨0x4001b118, 27, 16⟩
def R.ADC.CAL : Nat := 0x4001b11c
def F.ADC.CAL.offset : Fld := ⟨0x4001b11c, 7, 0⟩
def F.ADC.CAL.gain : Fld := ⟨0x4001b11c, 23, 8⟩
def R.PWR.SLEEP : Nat := 0x40001110
def F.PWR.SLEEP.target : Fld := ⟨0x40001110, 2, 0⟩
def F.PWR.SLEEP.glass_ok : Fld := ⟨0x40001110, 3, 3⟩
def F.PWR.SLEEP.refused : Fld := ⟨0x40001110, 15, 8⟩
def F.PWR.SLEEP.clr : Fld := ⟨0x40001110, 16, 16⟩
def R.PWR.DOMAIN : Nat := 0x40001114
def F.PWR.DOMAIN.on : Fld := ⟨0x40001114, 29, 16⟩
def R.PWR.WAKE_CAUSE : Nat := 0x40001124
def F.PWR.WAKE_CAUSE.event : Fld := ⟨0x40001124, 6, 0⟩
def F.PWR.WAKE_CAUSE.intc : Fld := ⟨0x40001124, 7, 7⟩
def F.PWR.WAKE_CAUSE.cloche : Fld := ⟨0x40001124, 8, 8⟩
def F.PWR.WAKE_CAUSE.abandoned : Fld := ⟨0x40001124, 16, 16⟩
def F.PWR.WAKE_CAUSE.from : Fld := ⟨0x40001124, 18, 17⟩
def R.PWR.HFRC : Nat := 0x4000112c
def F.PWR.HFRC.coarse : Fld := ⟨0x4000112c, 7, 0⟩
def F.PWR.HFRC.fine : Fld := ⟨0x4000112c, 15, 8⟩
def F.PWR.HFRC.cal_en : Fld := ⟨0x4000112c, 16, 16⟩
def F.PWR.HFRC.cal_done : Fld := ⟨0x4000112c, 17, 17⟩
def R.PWR.XO : Nat := 0x40001130
def F.PWR.XO.fw_req : Fld := ⟨0x40001130, 0, 0⟩
def F.PWR.XO.hfxo_ok : Fld := ⟨0x40001130, 1, 1⟩
def F.PWR.XO.pll_lock : Fld := ⟨0x40001130, 2, 2⟩
def F.PWR.XO.lfxo_ok : Fld := ⟨0x40001130, 3, 3⟩
def F.PWR.XO.lf_src : Fld := ⟨0x40001130, 4, 4⟩
def F.PWR.XO.users : Fld := ⟨0x40001130, 12, 8⟩
def R.PWR.BOOST : Nat := 0x40001134
def F.PWR.BOOST.req : Fld := ⟨0x40001134, 0, 0⟩
def F.PWR.BOOST.active : Fld := ⟨0x40001134, 1, 1⟩
def F.PWR.BOOST.dropped : Fld := ⟨0x40001134, 2, 2⟩
def F.PWR.BOOST.refused : Fld := ⟨0x40001134, 15, 8⟩
def F.PWR.BOOST.clr : Fld := ⟨0x40001134, 16, 16⟩
def R.AON.TIME_LO : Nat := 0x40002100
def F.AON.TIME_LO.time : Fld := ⟨0x40002100, 31, 0⟩
def R.AON.TIME_HI : Nat := 0x40002104
def F.AON.TIME_HI.time : Fld := ⟨0x40002104, 15, 0⟩
def R.AON.ALARM_LO : Nat := 0x40002108
def F.AON.ALARM_LO.cmp : Fld := ⟨0x40002108, 31, 0⟩
def R.AON.ALARM_HI : Nat := 0x4000210c
def F.AON.ALARM_HI.cmp : Fld := ⟨0x4000210c, 15, 0⟩
def R.AON.ALARM_CTRL : Nat := 0x40002110
def F.AON.ALARM_CTRL.en : Fld := ⟨0x40002110, 0, 0⟩
def F.AON.ALARM_CTRL.periodic : Fld := ⟨0x40002110, 1, 1⟩
def F.AON.ALARM_CTRL.fired : Fld := ⟨0x40002110, 2, 2⟩
def R.AON.PERIOD : Nat := 0x40002114
def F.AON.PERIOD.ticks : Fld := ⟨0x40002114, 31, 0⟩
def R.SNAP.EM_CFG : Nat := 0x4001d180
def F.SNAP.EM_CFG.src : Fld := ⟨0x4001d180, 1, 0⟩
def F.SNAP.EM_CFG.run : Fld := ⟨0x4001d180, 2, 2⟩
def F.SNAP.EM_CFG.clr : Fld := ⟨0x4001d180, 3, 3⟩
def R.SNAP.EM_LO : Nat := 0x4001d184
def F.SNAP.EM_LO.lo : Fld := ⟨0x4001d184, 31, 0⟩
def R.SNAP.EM_HI : Nat := 0x4001d188
def F.SNAP.EM_HI.hi : Fld := ⟨0x4001d188, 15, 0⟩
def R.SYS.RST_CAUSE : Nat := 0x40000100
def F.SYS.RST_CAUSE.cause : Fld := ⟨0x40000100, 7, 0⟩
def F.SYS.RST_CAUSE.scope : Fld := ⟨0x40000100, 11, 8⟩
def F.SYS.RST_CAUSE.sys_count : Fld := ⟨0x40000100, 23, 16⟩
def R.SYS.RST_HIST : Nat := 0x40000104
def F.SYS.RST_HIST.hist : Fld := ⟨0x40000104, 31, 0⟩
def R.SYS.RST_REQ : Nat := 0x40000108
def F.SYS.RST_REQ.kind : Fld := ⟨0x40000108, 1, 0⟩
def F.SYS.RST_REQ.key : Fld := ⟨0x40000108, 31, 16⟩
def R.SYS.RSTPIN : Nat := 0x4000010c
def F.SYS.RSTPIN.level : Fld := ⟨0x4000010c, 0, 0⟩
def F.SYS.RSTPIN.held : Fld := ⟨0x4000010c, 1, 1⟩
def F.SYS.RSTPIN.stuck : Fld := ⟨0x4000010c, 2, 2⟩
def F.SYS.RSTPIN.masked : Fld := ⟨0x4000010c, 3, 3⟩
def F.SYS.RSTPIN.glitch_cnt : Fld := ⟨0x4000010c, 15, 8⟩
def R.SYS.BOOT_STAT : Nat := 0x40000110
def F.SYS.BOOT_STAT.code_a : Fld := ⟨0x40000110, 7, 0⟩
def F.SYS.BOOT_STAT.code_b : Fld := ⟨0x40000110, 15, 8⟩
def F.SYS.BOOT_STAT.slot : Fld := ⟨0x40000110, 16, 16⟩
def F.SYS.BOOT_STAT.unsigned : Fld := ⟨0x40000110, 17, 17⟩
def F.SYS.BOOT_STAT.option_set : Fld := ⟨0x40000110, 18, 18⟩
def F.SYS.BOOT_STAT.option_default : Fld := ⟨0x40000110, 19, 19⟩
def F.SYS.BOOT_STAT.fail_cnt : Fld := ⟨0x40000110, 21, 20⟩
def F.SYS.BOOT_STAT.halted : Fld := ⟨0x40000110, 22, 22⟩
def F.SYS.BOOT_STAT.cause : Fld := ⟨0x40000110, 31, 24⟩
def R.SYS.BOOT_IMG : Nat := 0x40000114
def F.SYS.BOOT_IMG.first_blk : Fld := ⟨0x40000114, 5, 0⟩
def F.SYS.BOOT_IMG.last_blk : Fld := ⟨0x40000114, 13, 8⟩
def F.SYS.BOOT_IMG.valid : Fld := ⟨0x40000114, 16, 16⟩
def R.SYS.RESUME : Nat := 0x40000118
def F.SYS.RESUME.valid : Fld := ⟨0x40000118, 0, 0⟩
def R.SYS.SEC_VER : Nat := 0x4000011c
def F.SYS.SEC_VER.version : Fld := ⟨0x4000011c, 15, 0⟩
def F.SYS.SEC_VER.operator : Fld := ⟨0x4000011c, 31, 16⟩
def R.SYS.LOCKUP : Nat := 0x40000120
def F.SYS.LOCKUP.action : Fld := ⟨0x40000120, 0, 0⟩
def F.SYS.LOCKUP.count : Fld := ⟨0x40000120, 15, 8⟩
def R.PRB.STAT : Nat := 0x4001f014
def F.PRB.STAT.attached : Fld := ⟨0x4001f014, 0, 0⟩
def F.PRB.STAT.halted0 : Fld := ⟨0x4001f014, 1, 1⟩
def F.PRB.STAT.halted1 : Fld := ⟨0x4001f014, 2, 2⟩
def F.PRB.STAT.level : Fld := ⟨0x4001f014, 6, 4⟩
def R.PRB.CNT : Nat := 0x4001f100
def F.PRB.CNT.frames : Fld := ⟨0x4001f100, 15, 0⟩
def F.PRB.CNT.parity : Fld := ⟨0x4001f100, 23, 16⟩
def F.PRB.CNT.refused : Fld := ⟨0x4001f100, 31, 24⟩
def R.PRB.CNTCLR : Nat := 0x4001f104
def F.PRB.CNTCLR.clr : Fld := ⟨0x4001f104, 0, 0⟩
def R.LC.STATE : Nat := 0x40003100
def F.LC.STATE.state : Fld := ⟨0x40003100, 2, 0⟩
def F.LC.STATE.next_page : Fld := ⟨0x40003100, 14, 8⟩
def F.LC.STATE.unsigned_glass : Fld := ⟨0x40003100, 16, 16⟩
def F.LC.STATE.unsigned_field : Fld := ⟨0x40003100, 17, 17⟩
def F.LC.STATE.glass_avail : Fld := ⟨0x40003100, 18, 18⟩
def F.LC.STATE.floors : Fld := ⟨0x40003100, 19, 19⟩
def F.LC.STATE.probe : Fld := ⟨0x40003100, 22, 20⟩
def F.LC.STATE.retire_only : Fld := ⟨0x40003100, 23, 23⟩
def R.LC.UID_LO : Nat := 0x40003104
def F.LC.UID_LO.uid : Fld := ⟨0x40003104, 31, 0⟩
def R.LC.UID_HI : Nat := 0x40003108
def F.LC.UID_HI.uid : Fld := ⟨0x40003108, 31, 0⟩
def R.LC.ADVANCE : Nat := 0x40003110
def F.LC.ADVANCE.target : Fld := ⟨0x40003110, 2, 0⟩
def F.LC.ADVANCE.key : Fld := ⟨0x40003110, 31, 16⟩
def R.LC.ADV_STAT : Nat := 0x40003114
def F.LC.ADV_STAT.result : Fld := ⟨0x40003114, 7, 0⟩
def F.LC.ADV_STAT.busy : Fld := ⟨0x40003114, 8, 8⟩
def F.LC.ADV_STAT.state_refused : Fld := ⟨0x40003114, 23, 16⟩
def F.LC.ADV_STAT.clr : Fld := ⟨0x40003114, 24, 24⟩
def R.LC.FAILS : Nat := 0x40003118
def F.LC.FAILS.count : Fld := ⟨0x40003118, 15, 0⟩
def F.LC.FAILS.backoff : Fld := ⟨0x40003118, 31, 16⟩
def R.LC.TOKEN : Nat := 0x40003120
def F.LC.TOKEN.token : Fld := ⟨0x40003120, 31, 0⟩
def R.LC.DBG_CTRL : Nat := 0x40003140
def F.LC.DBG_CTRL.req : Fld := ⟨0x40003140, 0, 0⟩
def F.LC.DBG_CTRL.go : Fld := ⟨0x40003140, 1, 1⟩
def F.LC.DBG_CTRL.revoke : Fld := ⟨0x40003140, 2, 2⟩
def F.LC.DBG_CTRL.granted : Fld := ⟨0x40003140, 5, 5⟩
def F.LC.DBG_CTRL.chal_valid : Fld := ⟨0x40003140, 6, 6⟩
def F.LC.DBG_CTRL.result : Fld := ⟨0x40003140, 15, 8⟩
def R.LC.CHAL : Nat := 0x40003160
def F.LC.CHAL.chal : Fld := ⟨0x40003160, 31, 0⟩
def R.LC.DBG_KEY : Nat := 0x40003180
def F.LC.DBG_KEY.key : Fld := ⟨0x40003180, 31, 0⟩
def R.LC.DBG_SIG : Nat := 0x400031c0
def F.LC.DBG_SIG.sig : Fld := ⟨0x400031c0, 31, 0⟩
def R.CPU.RUN : Nat := 0x40008100
def F.CPU.RUN.running : Fld := ⟨0x40008100, 0, 0⟩
def F.CPU.RUN.wfi : Fld := ⟨0x40008100, 1, 1⟩
def F.CPU.RUN.world : Fld := ⟨0x40008100, 2, 2⟩
def F.CPU.RUN.mask : Fld := ⟨0x40008100, 7, 4⟩
def R.CPU.CAPCNT : Nat := 0x40008104
def F.CPU.CAPCNT.cap_faults : Fld := ⟨0x40008104, 15, 0⟩
def F.CPU.CAPCNT.bounds_faults : Fld := ⟨0x40008104, 31, 16⟩
def R.CPU.CNTCLR : Nat := 0x40008108
def F.CPU.CNTCLR.clr : Fld := ⟨0x40008108, 0, 0⟩
def R.CPU.STALE : Nat := 0x4000810c
def F.CPU.STALE.count : Fld := ⟨0x4000810c, 15, 0⟩
def R.CPU.EPOCH_STAT : Nat := 0x40008110
def F.CPU.EPOCH_STAT.result : Fld := ⟨0x40008110, 7, 0⟩
def F.CPU.EPOCH_STAT.state_refused : Fld := ⟨0x40008110, 15, 8⟩
def F.CPU.EPOCH_STAT.busy_refused : Fld := ⟨0x40008110, 23, 16⟩
def R.CPU.SWEEP : Nat := 0x40008114
def F.CPU.SWEEP.index : Fld := ⟨0x40008114, 5, 0⟩
def F.CPU.SWEEP.busy : Fld := ⟨0x40008114, 8, 8⟩
def F.CPU.SWEEP.cleared : Fld := ⟨0x40008114, 31, 16⟩
def R.CPU.SWEEP_DONE_LO : Nat := 0x40008118
def F.CPU.SWEEP_DONE_LO.done : Fld := ⟨0x40008118, 31, 0⟩
def R.CPU.SWEEP_DONE_HI : Nat := 0x4000811c
def F.CPU.SWEEP_DONE_HI.done : Fld := ⟨0x4000811c, 31, 0⟩
def R.CPU.EPOCH : Nat := 0x40008140
def F.CPU.EPOCH.counters : Fld := ⟨0x40008140, 31, 0⟩
def R.INTC.SW_SET : Nat := 0x4000b100
def F.INTC.SW_SET.set : Fld := ⟨0x4000b100, 7, 0⟩
def R.INTC.SW_CLR : Nat := 0x4000b104
def F.INTC.SW_CLR.clr : Fld := ⟨0x4000b104, 7, 0⟩
def R.INTC.PEND : Nat := 0x4000b108
def F.INTC.PEND.pend : Fld := ⟨0x4000b108, 31, 0⟩
def R.INTC.CORE0_STAT : Nat := 0x4000b118
def F.INTC.CORE0_STAT.line : Fld := ⟨0x4000b118, 6, 0⟩
def F.INTC.CORE0_STAT.valid : Fld := ⟨0x4000b118, 7, 7⟩
def F.INTC.CORE0_STAT.prio : Fld := ⟨0x4000b118, 11, 8⟩
def F.INTC.CORE0_STAT.mask : Fld := ⟨0x4000b118, 15, 12⟩
def R.INTC.DEFER : Nat := 0x4000b120
def F.INTC.DEFER.count : Fld := ⟨0x4000b120, 15, 0⟩
def F.INTC.DEFER.clr : Fld := ⟨0x4000b120, 16, 16⟩
def R.INTC.LINE : Nat := 0x4000b200
def F.INTC.LINE.prio : Fld := ⟨0x4000b200, 3, 0⟩
def F.INTC.LINE.target : Fld := ⟨0x4000b200, 5, 4⟩
def F.INTC.LINE.world : Fld := ⟨0x4000b200, 6, 6⟩
def F.INTC.LINE.edge : Fld := ⟨0x4000b200, 7, 7⟩
def F.INTC.LINE.pending : Fld := ⟨0x4000b200, 8, 8⟩
def F.INTC.LINE.latched : Fld := ⟨0x4000b200, 10, 9⟩
def R.TMR.WD_CTRL : Nat := 0x4001c100
def F.TMR.WD_CTRL.en : Fld := ⟨0x4001c100, 0, 0⟩
def F.TMR.WD_CTRL.grace : Fld := ⟨0x4001c100, 15, 8⟩
def R.TMR.WD_LOAD : Nat := 0x4001c104
def F.TMR.WD_LOAD.reload : Fld := ⟨0x4001c104, 23, 0⟩
def R.TMR.WD_FEED : Nat := 0x4001c108
def F.TMR.WD_FEED.key : Fld := ⟨0x4001c108, 15, 0⟩
def R.TMR.WD_STAT : Nat := 0x4001c10c
def F.TMR.WD_STAT.count : Fld := ⟨0x4001c10c, 23, 0⟩
def F.TMR.WD_STAT.warned : Fld := ⟨0x4001c10c, 24, 24⟩
def F.TMR.WD_STAT.running : Fld := ⟨0x4001c10c, 25, 25⟩
def F.TMR.WD_STAT.bad_feeds : Fld := ⟨0x4001c10c, 31, 28⟩
def R.TMR.GT_CTRL : Nat := 0x4001c140
def F.TMR.GT_CTRL.en : Fld := ⟨0x4001c140, 0, 0⟩
def F.TMR.GT_CTRL.periodic : Fld := ⟨0x4001c140, 1, 1⟩
def F.TMR.GT_CTRL.src : Fld := ⟨0x4001c140, 2, 2⟩
def R.TMR.GT_LOAD : Nat := 0x4001c144
def F.TMR.GT_LOAD.reload : Fld := ⟨0x4001c144, 31, 0⟩
def R.TMR.GT_COUNT : Nat := 0x4001c148
def F.TMR.GT_COUNT.count : Fld := ⟨0x4001c148, 31, 0⟩
def R.TMR.GT_STAT : Nat := 0x4001c14c
def F.TMR.GT_STAT.running : Fld := ⟨0x4001c14c, 0, 0⟩
def F.TMR.GT_STAT.expiries : Fld := ⟨0x4001c14c, 15, 8⟩
def F.TMR.GT_STAT.clr : Fld := ⟨0x4001c14c, 16, 16⟩
def R.COL.CFG : Nat := 0x4000a100
def F.COL.CFG.flush_field : Fld := ⟨0x4000a100, 0, 0⟩
def F.COL.CFG.entry_mask : Fld := ⟨0x4000a100, 7, 4⟩
def F.COL.CFG.max_recover : Fld := ⟨0x4000a100, 15, 8⟩
def R.COL.BUDGET : Nat := 0x4000a104
def F.COL.BUDGET.call_us : Fld := ⟨0x4000a104, 15, 0⟩
def R.COL.BUDGET2 : Nat := 0x4000a108
def F.COL.BUDGET2.boot : Fld := ⟨0x4000a108, 15, 0⟩
def F.COL.BUDGET2.recover : Fld := ⟨0x4000a108, 31, 16⟩
def R.COL.HOLDOFF : Nat := 0x4000a10c
def F.COL.HOLDOFF.units : Fld := ⟨0x4000a10c, 15, 0⟩
def R.COL.CUR : Nat := 0x4000a110
def F.COL.CUR.elapsed_us : Fld := ⟨0x4000a110, 15, 0⟩
def R.COL.GATEBASE : Nat := 0x4000a114
def F.COL.GATEBASE.base : Fld := ⟨0x4000a114, 31, 0⟩
def R.COL.WILT : Nat := 0x4000a118
def F.COL.WILT.cause : Fld := ⟨0x4000a118, 7, 0⟩
def F.COL.WILT.core : Fld := ⟨0x4000a118, 8, 8⟩
def F.COL.WILT.count : Fld := ⟨0x4000a118, 23, 16⟩
def F.COL.WILT.failed : Fld := ⟨0x4000a118, 31, 24⟩
def R.COL.WILT_PC : Nat := 0x4000a11c
def F.COL.WILT_PC.pc : Fld := ⟨0x4000a11c, 31, 0⟩
def R.COL.CNT0 : Nat := 0x4000a120
def F.COL.CNT0.calls : Fld := ⟨0x4000a120, 15, 0⟩
def F.COL.CNT0.busy : Fld := ⟨0x4000a120, 31, 16⟩
def R.COL.CNT1 : Nat := 0x4000a124
def F.COL.CNT1.absent : Fld := ⟨0x4000a124, 15, 0⟩
def F.COL.CNT1.state : Fld := ⟨0x4000a124, 23, 16⟩
def F.COL.CNT1.aborted : Fld := ⟨0x4000a124, 31, 24⟩
def R.COL.CNT2 : Nat := 0x4000a128
def F.COL.CNT2.stripped : Fld := ⟨0x4000a128, 15, 0⟩
def R.COL.CNTCLR : Nat := 0x4000a12c
def F.COL.CNTCLR.clr : Fld := ⟨0x4000a12c, 0, 0⟩
def R.SMPU.CHCTRL : Nat := 0x40007100
def F.SMPU.CHCTRL.check : Fld := ⟨0x40007100, 0, 0⟩
def R.SMPU.PEND : Nat := 0x40007120
def F.SMPU.PEND.pend : Fld := ⟨0x40007120, 7, 0⟩
def R.SMPU.SYNC : Nat := 0x40007124
def F.SMPU.SYNC.sync : Fld := ⟨0x40007124, 7, 0⟩
def R.SMPU.SYNC_DONE : Nat := 0x40007128
def F.SMPU.SYNC_DONE.done : Fld := ⟨0x40007128, 7, 0⟩
def R.SMPU.REFUSE : Nat := 0x4000712c
def F.SMPU.REFUSE.overlap : Fld := ⟨0x4000712c, 15, 0⟩
def F.SMPU.REFUSE.other : Fld := ⟨0x4000712c, 31, 16⟩
def R.SMPU.MFAULT : Nat := 0x40007140
def F.SMPU.MFAULT.cause : Fld := ⟨0x40007140, 7, 0⟩
def F.SMPU.MFAULT.region : Fld := ⟨0x40007140, 11, 8⟩
def F.SMPU.MFAULT.world : Fld := ⟨0x40007140, 12, 12⟩
def F.SMPU.MFAULT.write : Fld := ⟨0x40007140, 13, 13⟩
def F.SMPU.MFAULT.fetch : Fld := ⟨0x40007140, 14, 14⟩
def F.SMPU.MFAULT.valid : Fld := ⟨0x40007140, 15, 15⟩
def F.SMPU.MFAULT.count : Fld := ⟨0x40007140, 31, 16⟩
def R.SMPU.MFADDR : Nat := 0x40007160
def F.SMPU.MFADDR.addr : Fld := ⟨0x40007160, 31, 0⟩
def R.SMPU.MEMKEY : Nat := 0x40007180
def F.SMPU.MEMKEY.load : Fld := ⟨0x40007180, 0, 0⟩
def F.SMPU.MEMKEY.loaded : Fld := ⟨0x40007180, 1, 1⟩
def R.SMPU.INTEG : Nat := 0x40007184
def F.SMPU.INTEG.sram : Fld := ⟨0x40007184, 14, 0⟩
def F.SMPU.INTEG.addr_valid : Fld := ⟨0x40007184, 15, 15⟩
def F.SMPU.INTEG.beat : Fld := ⟨0x40007184, 30, 16⟩
def R.SMPU.INTADDR : Nat := 0x40007188
def F.SMPU.INTADDR.addr : Fld := ⟨0x40007188, 31, 0⟩
def R.SMPU.COH : Nat := 0x4000718c
def F.SMPU.COH.retries : Fld := ⟨0x4000718c, 15, 0⟩
def F.SMPU.COH.evict_cancel : Fld := ⟨0x4000718c, 31, 16⟩
def R.SMPU.CNTCLR : Nat := 0x40007190
def F.SMPU.CNTCLR.clr : Fld := ⟨0x40007190, 0, 0⟩
def R.SMPU.RBASE : Nat := 0x40007400
def F.SMPU.RBASE.base : Fld := ⟨0x40007400, 31, 5⟩
def R.SMPU.RATTR : Nat := 0x40007404
def F.SMPU.RATTR.en : Fld := ⟨0x40007404, 0, 0⟩
def F.SMPU.RATTR.mode : Fld := ⟨0x40007404, 1, 1⟩
def F.SMPU.RATTR.size : Fld := ⟨0x40007404, 7, 2⟩
def F.SMPU.RATTR.r : Fld := ⟨0x40007404, 8, 8⟩
def F.SMPU.RATTR.w : Fld := ⟨0x40007404, 9, 9⟩
def F.SMPU.RATTR.x : Fld := ⟨0x40007404, 10, 10⟩
def F.SMPU.RATTR.glass_only : Fld := ⟨0x40007404, 11, 11⟩
def F.SMPU.RATTR.srd : Fld := ⟨0x40007404, 23, 16⟩
def R.FLC.CTRL : Nat := 0x40005010
def F.FLC.CTRL.redund : Fld := ⟨0x40005010, 0, 0⟩
def R.FLC.STAT : Nat := 0x40005014
def F.FLC.STAT.busy : Fld := ⟨0x40005014, 0, 0⟩
def F.FLC.STAT.bank : Fld := ⟨0x40005014, 1, 1⟩
def F.FLC.STAT.erase_slow : Fld := ⟨0x40005014, 2, 2⟩
def R.FLC.CMD : Nat := 0x40005100
def F.FLC.CMD.op : Fld := ⟨0x40005100, 2, 0⟩
def F.FLC.CMD.key : Fld := ⟨0x40005100, 31, 16⟩
def R.FLC.ADDR : Nat := 0x40005104
def F.FLC.ADDR.addr : Fld := ⟨0x40005104, 31, 0⟩
def R.FLC.RESULT : Nat := 0x40005108
def F.FLC.RESULT.code : Fld := ⟨0x40005108, 7, 0⟩
def F.FLC.RESULT.target : Fld := ⟨0x40005108, 14, 8⟩
def F.FLC.RESULT.pulses : Fld := ⟨0x40005108, 23, 16⟩
def R.FLC.WPROT : Nat := 0x4000510c
def F.FLC.WPROT.prot : Fld := ⟨0x4000510c, 31, 0⟩
def R.FLC.WORN : Nat := 0x40005114
def F.FLC.WORN.worn : Fld := ⟨0x40005114, 31, 0⟩
def R.FLC.ECC : Nat := 0x4000511c
def F.FLC.ECC.corrected : Fld := ⟨0x4000511c, 15, 0⟩
def F.FLC.ECC.uncorr : Fld := ⟨0x4000511c, 31, 16⟩
def R.FLC.REDUND : Nat := 0x40005120
def F.FLC.REDUND.count : Fld := ⟨0x40005120, 15, 0⟩
def R.FLC.REFUSE : Nat := 0x40005124
def F.FLC.REFUSE.busy : Fld := ⟨0x40005124, 7, 0⟩
def F.FLC.REFUSE.state : Fld := ⟨0x40005124, 15, 8⟩
def F.FLC.REFUSE.locked : Fld := ⟨0x40005124, 23, 16⟩
def F.FLC.REFUSE.other : Fld := ⟨0x40005124, 31, 24⟩
def R.FLC.CNTCLR : Nat := 0x40005128
def F.FLC.CNTCLR.clr : Fld := ⟨0x40005128, 0, 0⟩
def R.FLC.BUF : Nat := 0x40005200
def F.FLC.BUF.data : Fld := ⟨0x40005200, 31, 0⟩
def R.LDG.CNT_CMD : Nat := 0x40006100
def F.LDG.CNT_CMD.number : Fld := ⟨0x40006100, 6, 0⟩
def F.LDG.CNT_CMD.op : Fld := ⟨0x40006100, 9, 8⟩
def R.LDG.CNT_ARG : Nat := 0x40006104
def F.LDG.CNT_ARG.arg : Fld := ⟨0x40006104, 31, 0⟩
def R.LDG.CNT_VAL : Nat := 0x4000610c
def F.LDG.CNT_VAL.val : Fld := ⟨0x4000610c, 31, 0⟩
def R.LDG.CNT_RES : Nat := 0x40006114
def F.LDG.CNT_RES.code : Fld := ⟨0x40006114, 7, 0⟩
def F.LDG.CNT_RES.busy : Fld := ⟨0x40006114, 8, 8⟩
def F.LDG.CNT_RES.seq : Fld := ⟨0x40006114, 31, 16⟩
def R.LDG.CNT_REFUSE : Nat := 0x40006118
def F.LDG.CNT_REFUSE.busy : Fld := ⟨0x40006118, 7, 0⟩
def F.LDG.CNT_REFUSE.state : Fld := ⟨0x40006118, 15, 8⟩
def F.LDG.CNT_REFUSE.auth : Fld := ⟨0x40006118, 23, 16⟩
def F.LDG.CNT_REFUSE.other : Fld := ⟨0x40006118, 31, 24⟩
def R.LDG.WEAR : Nat := 0x4000611c
def F.LDG.WEAR.last_line : Fld := ⟨0x4000611c, 11, 0⟩
def F.LDG.WEAR.warn_count : Fld := ⟨0x4000611c, 23, 16⟩
def R.LDG.SPARE : Nat := 0x40006120
def F.LDG.SPARE.used : Fld := ⟨0x40006120, 8, 0⟩
def R.LDG.RETRY : Nat := 0x40006124
def F.LDG.RETRY.passes : Fld := ⟨0x40006124, 15, 0⟩
def F.LDG.RETRY.failed : Fld := ⟨0x40006124, 31, 16⟩
def R.LDG.INTEG : Nat := 0x40006128
def F.LDG.INTEG.count : Fld := ⟨0x40006128, 15, 0⟩
def R.LDG.CNTCLR : Nat := 0x4000612c
def F.LDG.CNTCLR.clr : Fld := ⟨0x4000612c, 0, 0⟩
def R.LDG.LOGPOS : Nat := 0x40006130
def F.LDG.LOGPOS.slot : Fld := ⟨0x40006130, 9, 0⟩
def F.LDG.LOGPOS.seq : Fld := ⟨0x40006130, 31, 16⟩
def R.LDG.REFUSE : Nat := 0x40006134
def F.LDG.REFUSE.access : Fld := ⟨0x40006134, 15, 0⟩
def R.ENT.CTRL : Nat := 0x4000d010
def F.ENT.CTRL.mode : Fld := ⟨0x4000d010, 0, 0⟩
def F.ENT.CTRL.restart : Fld := ⟨0x4000d010, 1, 1⟩
def F.ENT.CTRL.test_now : Fld := ⟨0x4000d010, 2, 2⟩
def R.ENT.STAT : Nat := 0x4000d014
def F.ENT.STAT.state : Fld := ⟨0x4000d014, 2, 0⟩
def F.ENT.STAT.src_ok : Fld := ⟨0x4000d014, 7, 4⟩
def F.ENT.STAT.avail : Fld := ⟨0x4000d014, 12, 8⟩
def F.ENT.STAT.seed_ready : Fld := ⟨0x4000d014, 13, 13⟩
def R.ENT.DATA : Nat := 0x4000d100
def F.ENT.DATA.data : Fld := ⟨0x4000d100, 31, 0⟩
def R.ENT.REQCNT : Nat := 0x4000d104
def F.ENT.REQCNT.since : Fld := ⟨0x4000d104, 10, 0⟩
def F.ENT.REQCNT.reseeds : Fld := ⟨0x4000d104, 31, 16⟩
def R.ENT.HEALTH : Nat := 0x4000d108
def F.ENT.HEALTH.fails : Fld := ⟨0x4000d108, 31, 0⟩
def R.ENT.WAIT : Nat := 0x4000d10c
def F.ENT.WAIT.stalls : Fld := ⟨0x4000d10c, 15, 0⟩
def F.ENT.WAIT.no_data : Fld := ⟨0x4000d10c, 31, 16⟩
def R.ENT.CHAIN : Nat := 0x4000d110
def F.ENT.CHAIN.count : Fld := ⟨0x4000d110, 6, 0⟩
def R.CRY.CPN_CFG : Nat := 0x4000e100
def F.CRY.CPN_CFG.ecdsa_target : Fld := ⟨0x4000e100, 7, 0⟩
def F.CRY.CPN_CFG.ecdh_target : Fld := ⟨0x4000e100, 15, 8⟩
def F.CRY.CPN_CFG.ecdh_kind : Fld := ⟨0x4000e100, 16, 16⟩
def F.CRY.CPN_CFG.field_ok : Fld := ⟨0x4000e100, 28, 28⟩
def F.CRY.CPN_CFG.refill_en : Fld := ⟨0x4000e100, 29, 29⟩
def R.CRY.CPN_CFG2 : Nat := 0x4000e104
def F.CRY.CPN_CFG2.reserve : Fld := ⟨0x4000e104, 7, 0⟩
def F.CRY.CPN_CFG2.low_mark : Fld := ⟨0x4000e104, 15, 8⟩
def R.CRY.CPN_STAT : Nat := 0x4000e108
def F.CRY.CPN_STAT.ecdsa_ready : Fld := ⟨0x4000e108, 8, 0⟩
def F.CRY.CPN_STAT.ecdh_ready : Fld := ⟨0x4000e108, 24, 16⟩
def F.CRY.CPN_STAT.refilling : Fld := ⟨0x4000e108, 25, 25⟩
def F.CRY.CPN_STAT.held : Fld := ⟨0x4000e108, 27, 26⟩
def R.CRY.CPN_CNT : Nat := 0x4000e10c
def F.CRY.CPN_CNT.consumed : Fld := ⟨0x4000e10c, 15, 0⟩
def F.CRY.CPN_CNT.refused_quota : Fld := ⟨0x4000e10c, 31, 16⟩
def R.CRY.CPN_CNT2 : Nat := 0x4000e110
def F.CRY.CPN_CNT2.full_fallbacks : Fld := ⟨0x4000e110, 15, 0⟩
def F.CRY.CPN_CNT2.unseal_failed : Fld := ⟨0x4000e110, 31, 16⟩
def R.CRY.CM : Nat := 0x4000e114
def F.CRY.CM.aes_mask : Fld := ⟨0x4000e114, 0, 0⟩
def F.CRY.CM.pk_blind : Fld := ⟨0x4000e114, 1, 1⟩
def F.CRY.CM.shuffle : Fld := ⟨0x4000e114, 2, 2⟩
def F.CRY.CM.dummy : Fld := ⟨0x4000e114, 5, 3⟩
def R.CRY.JOBCNT : Nat := 0x4000e118
def F.CRY.JOBCNT.jobs : Fld := ⟨0x4000e118, 15, 0⟩
def F.CRY.JOBCNT.deferrals : Fld := ⟨0x4000e118, 31, 16⟩
def R.CRY.CNTCLR : Nat := 0x4000e11c
def F.CRY.CNTCLR.clr : Fld := ⟨0x4000e11c, 0, 0⟩
def R.KEY.CTRL : Nat := 0x4000f010
def F.KEY.CTRL.zeroise : Fld := ⟨0x4000f010, 0, 0⟩
def R.KEY.STAT : Nat := 0x4000f014
def F.KEY.STAT.zgen : Fld := ⟨0x4000f014, 7, 0⟩
def F.KEY.STAT.zeroised : Fld := ⟨0x4000f014, 8, 8⟩
def R.KEY.ATTR : Nat := 0x4000f100
def F.KEY.ATTR.valid : Fld := ⟨0x4000f100, 0, 0⟩
def F.KEY.ATTR.type : Fld := ⟨0x4000f100, 3, 1⟩
def F.KEY.ATTR.field : Fld := ⟨0x4000f100, 4, 4⟩
def F.KEY.ATTR.usage : Fld := ⟨0x4000f100, 12, 5⟩
def F.KEY.ATTR.wrappable : Fld := ⟨0x4000f100, 13, 13⟩
def F.KEY.ATTR.hw : Fld := ⟨0x4000f100, 14, 14⟩
def F.KEY.ATTR.len : Fld := ⟨0x4000f100, 22, 16⟩
def R.CLO.RESP : Nat := 0x4000c100
def F.CLO.RESP.resp : Fld := ⟨0x4000c100, 8, 0⟩
def F.CLO.RESP.sens : Fld := ⟨0x4000c100, 15, 12⟩
def F.CLO.RESP.en : Fld := ⟨0x4000c100, 16, 16⟩
def R.CLO.ALARM : Nat := 0x4000c180
def F.CLO.ALARM.alarm : Fld := ⟨0x4000c180, 31, 0⟩
def R.CLO.BIST_A : Nat := 0x4000c184
def F.CLO.BIST_A.run : Fld := ⟨0x4000c184, 31, 0⟩
def R.CLO.BIST_B : Nat := 0x4000c188
def F.CLO.BIST_B.run : Fld := ⟨0x4000c188, 31, 0⟩
def R.CLO.TWFAIL_A : Nat := 0x4000c18c
def F.CLO.TWFAIL_A.fail : Fld := ⟨0x4000c18c, 31, 0⟩
def R.CLO.TWFAIL_B : Nat := 0x4000c190
def F.CLO.TWFAIL_B.fail : Fld := ⟨0x4000c190, 31, 0⟩
def R.CLO.TEMP : Nat := 0x4000c194
def F.CLO.TEMP.t_hi : Fld := ⟨0x4000c194, 7, 0⟩
def F.CLO.TEMP.t_lo : Fld := ⟨0x4000c194, 15, 8⟩
def F.CLO.TEMP.reading : Fld := ⟨0x4000c194, 31, 16⟩
def R.CLO.LASTDET : Nat := 0x4000c198
def F.CLO.LASTDET.source : Fld := ⟨0x4000c198, 4, 0⟩
def F.CLO.LASTDET.twins : Fld := ⟨0x4000c198, 6, 5⟩
def F.CLO.LASTDET.detail : Fld := ⟨0x4000c198, 15, 8⟩
def R.CLO.REFUSE : Nat := 0x4000c19c
def F.CLO.REFUSE.floor : Fld := ⟨0x4000c19c, 7, 0⟩
def F.CLO.REFUSE.bist : Fld := ⟨0x4000c19c, 15, 8⟩
def R.CLO.CNT : Nat := 0x4000c1a0
def F.CLO.CNT.count : Fld := ⟨0x4000c1a0, 31, 0⟩
def R.CLO.CNTCLR : Nat := 0x4000c1c0
def F.CLO.CNTCLR.clr : Fld := ⟨0x4000c1c0, 0, 0⟩
def R.CLO.DEAD : Nat := 0x4000c1c4
def F.CLO.DEAD.dead : Fld := ⟨0x4000c1c4, 31, 0⟩
def R.RING.CFG : Nat := 0x40011100
def F.RING.CFG.lsize : Fld := ⟨0x40011100, 3, 0⟩
def F.RING.CFG.class : Fld := ⟨0x40011100, 5, 4⟩
def F.RING.CFG.world : Fld := ⟨0x40011100, 6, 6⟩
def F.RING.CFG.client : Fld := ⟨0x40011100, 11, 8⟩
def F.RING.CFG.group : Fld := ⟨0x40011100, 16, 12⟩
def F.RING.CFG.irq : Fld := ⟨0x40011100, 18, 17⟩
def F.RING.CFG.fixed : Fld := ⟨0x40011100, 19, 19⟩
def F.RING.CFG.keep : Fld := ⟨0x40011100, 20, 20⟩
def R.RING.DBASE : Nat := 0x40011104
def F.RING.DBASE.base : Fld := ⟨0x40011104, 31, 0⟩
def R.RING.SBASE : Nat := 0x40011108
def F.RING.SBASE.base : Fld := ⟨0x40011108, 31, 0⟩
def R.RING.SLEN : Nat := 0x4001110c
def F.RING.SLEN.len : Fld := ⟨0x4001110c, 31, 0⟩
def R.RING.IDX : Nat := 0x40011110
def F.RING.IDX.pidx : Fld := ⟨0x40011110, 15, 0⟩
def F.RING.IDX.cidx : Fld := ⟨0x40011110, 31, 16⟩
def R.RING.CTL : Nat := 0x40011114
def F.RING.CTL.cmd : Fld := ⟨0x40011114, 2, 0⟩
def F.RING.CTL.state : Fld := ⟨0x40011114, 2, 0⟩
def F.RING.CTL.result : Fld := ⟨0x40011114, 15, 8⟩
def F.RING.CTL.halt_cause : Fld := ⟨0x40011114, 23, 16⟩
def R.RING.DEFER : Nat := 0x40011118
def F.RING.DEFER.class : Fld := ⟨0x40011118, 15, 0⟩
def F.RING.DEFER.engine : Fld := ⟨0x40011118, 31, 16⟩
def R.RING.REFUSE : Nat := 0x4001111c
def F.RING.REFUSE.full : Fld := ⟨0x4001111c, 7, 0⟩
def F.RING.REFUSE.bounds : Fld := ⟨0x4001111c, 15, 8⟩
def F.RING.REFUSE.range : Fld := ⟨0x4001111c, 23, 16⟩
def F.RING.REFUSE.state : Fld := ⟨0x4001111c, 31, 24⟩
def R.TRL.SCHED : Nat := 0x40010100
def F.TRL.SCHED.age_us : Fld := ⟨0x40010100, 15, 0⟩
def R.TRL.HALTED : Nat := 0x40010104
def F.TRL.HALTED.halted : Fld := ⟨0x40010104, 31, 0⟩
def R.TRL.ACTIVE : Nat := 0x40010110
def F.TRL.ACTIVE.active : Fld := ⟨0x40010110, 31, 0⟩
def R.TRL.DEFCNT : Nat := 0x4001011c
def F.TRL.DEFCNT.per_class : Fld := ⟨0x4001011c, 31, 0⟩
def R.TRL.DCACHE : Nat := 0x40010120
def F.TRL.DCACHE.hits : Fld := ⟨0x40010120, 15, 0⟩
def F.TRL.DCACHE.misses : Fld := ⟨0x40010120, 31, 16⟩
def R.TRL.CNTCLR : Nat := 0x40010124
def F.TRL.CNTCLR.clr : Fld := ⟨0x40010124, 0, 0⟩
def R.TRL.HALT_RING : Nat := 0x40010128
def F.TRL.HALT_RING.ring : Fld := ⟨0x40010128, 6, 0⟩
def F.TRL.HALT_RING.valid : Fld := ⟨0x40010128, 8, 8⟩
def R.TRL.HALT_ADDR : Nat := 0x4001012c
def F.TRL.HALT_ADDR.addr : Fld := ⟨0x4001012c, 31, 0⟩
def R.RING.SNAPSEL : Nat := 0x40011e00
def F.RING.SNAPSEL.rings : Fld := ⟨0x40011e00, 31, 0⟩
def R.RDL.CTRL : Nat := 0x40012010
def F.RDL.CTRL.bypass : Fld := ⟨0x40012010, 0, 0⟩
def R.RDL.DFLT : Nat := 0x40012100
def F.RDL.DFLT.action : Fld := ⟨0x40012100, 31, 0⟩
def R.RDL.MIRROR : Nat := 0x4001210c
def F.RDL.MIRROR.ring_base : Fld := ⟨0x4001210c, 10, 4⟩
def F.RDL.MIRROR.gsize : Fld := ⟨0x4001210c, 13, 11⟩
def F.RDL.MIRROR.glass : Fld := ⟨0x4001210c, 23, 23⟩
def R.RDL.HSEED : Nat := 0x40012110
def F.RDL.HSEED.seed : Fld := ⟨0x40012110, 31, 0⟩
def R.RDL.UDEF : Nat := 0x40012114
def F.RDL.UDEF.offset : Fld := ⟨0x40012114, 7, 0⟩
def F.RDL.UDEF.base : Fld := ⟨0x40012114, 9, 8⟩
def F.RDL.UDEF.ports : Fld := ⟨0x40012114, 12, 10⟩
def R.RDL.FRAMES : Nat := 0x40012120
def F.RDL.FRAMES.frames : Fld := ⟨0x40012120, 31, 0⟩
def R.RDL.HITS : Nat := 0x40012124
def F.RDL.HITS.hits : Fld := ⟨0x40012124, 31, 0⟩
def R.RDL.LOSS : Nat := 0x40012128
def F.RDL.LOSS.cpu_refused : Fld := ⟨0x40012128, 7, 0⟩
def F.RDL.LOSS.fwd_lost : Fld := ⟨0x40012128, 15, 8⟩
def F.RDL.LOSS.misroute : Fld := ⟨0x40012128, 23, 16⟩
def F.RDL.LOSS.hairpin : Fld := ⟨0x40012128, 31, 24⟩
def R.RDL.PFAIL : Nat := 0x4001212c
def F.RDL.PFAIL.count : Fld := ⟨0x4001212c, 15, 0⟩
def F.RDL.PFAIL.last : Fld := ⟨0x4001212c, 19, 16⟩
def R.RDL.CNTCLR : Nat := 0x40012150
def F.RDL.CNTCLR.clr : Fld := ⟨0x40012150, 0, 0⟩
def R.RDLT.SEL : Nat := 0x40013100
def F.RDLT.SEL.rule : Fld := ⟨0x40013100, 7, 0⟩
def R.RDLT.VAL : Nat := 0x40013104
def F.RDLT.VAL.value : Fld := ⟨0x40013104, 31, 0⟩
def R.RDLT.MSK : Nat := 0x40013118
def F.RDLT.MSK.mask : Fld := ⟨0x40013118, 31, 0⟩
def R.RDLT.ACT : Nat := 0x4001312c
def F.RDLT.ACT.action : Fld := ⟨0x4001312c, 31, 0⟩
def R.RDLT.CMD : Nat := 0x40013130
def F.RDLT.CMD.op : Fld := ⟨0x40013130, 1, 0⟩
def R.RDLT.RES : Nat := 0x40013134
def F.RDLT.RES.code : Fld := ⟨0x40013134, 7, 0⟩
def F.RDLT.RES.refused : Fld := ⟨0x40013134, 15, 8⟩
def R.RDLT.EN : Nat := 0x40013140
def F.RDLT.EN.en : Fld := ⟨0x40013140, 31, 0⟩
def R.RDLT.HIT : Nat := 0x40013200
def F.RDLT.HIT.hits : Fld := ⟨0x40013200, 31, 0⟩
def R.RLP.SV_CFG : Nat := 0x40016800
def F.RLP.SV_CFG.dflt : Fld := ⟨0x40016800, 1, 0⟩
def F.RLP.SV_CFG.en : Fld := ⟨0x40016800, 2, 2⟩
def R.RLP.SV_UDEF : Nat := 0x40016804
def F.RLP.SV_UDEF.offset : Fld := ⟨0x40016804, 9, 0⟩
def R.RLP.SV_QCFG : Nat := 0x4001680c
def F.RLP.SV_QCFG.count : Fld := ⟨0x4001680c, 3, 0⟩
def F.RLP.SV_QCFG.age : Fld := ⟨0x4001680c, 15, 8⟩
def R.RLP.SV_QSTAT : Nat := 0x40016810
def F.RLP.SV_QSTAT.frames : Fld := ⟨0x40016810, 3, 0⟩
def F.RLP.SV_QSTAT.bytes : Fld := ⟨0x40016810, 16, 4⟩
def F.RLP.SV_QSTAT.cond : Fld := ⟨0x40016810, 17, 17⟩
def R.RLP.SV_CNT0 : Nat := 0x40016814
def F.RLP.SV_CNT0.wake : Fld := ⟨0x40016814, 15, 0⟩
def F.RLP.SV_CNT0.queue : Fld := ⟨0x40016814, 31, 16⟩
def R.RLP.SV_CNT1 : Nat := 0x40016818
def F.RLP.SV_CNT1.ignore : Fld := ⟨0x40016818, 15, 0⟩
def F.RLP.SV_CNT1.lost : Fld := ⟨0x40016818, 31, 16⟩
def R.RLP.SV_HIT : Nat := 0x40016820
def F.RLP.SV_HIT.hits : Fld := ⟨0x40016820, 31, 0⟩
def R.RLP.SV_CNTCLR : Nat := 0x40016840
def F.RLP.SV_CNTCLR.clr : Fld := ⟨0x40016840, 0, 0⟩
def R.RLP.SV_RULE : Nat := 0x40016900
def F.RLP.SV_RULE.value0 : Fld := ⟨0x40016900, 31, 0⟩
def F.RLP.SV_RULE.value1 : Fld := ⟨0x40016904, 31, 0⟩
def F.RLP.SV_RULE.value2 : Fld := ⟨0x40016908, 31, 0⟩
def F.RLP.SV_RULE.mask0 : Fld := ⟨0x4001690c, 31, 0⟩
def F.RLP.SV_RULE.mask1 : Fld := ⟨0x40016910, 31, 0⟩
def F.RLP.SV_RULE.mask2 : Fld := ⟨0x40016914, 31, 0⟩
def F.RLP.SV_RULE.decision : Fld := ⟨0x40016918, 1, 0⟩
def F.RLP.SV_RULE.en : Fld := ⟨0x40016918, 2, 2⟩
def R.ETH.CTRL : Nat := 0x40014010
def F.ETH.CTRL.en : Fld := ⟨0x40014010, 0, 0⟩
def F.ETH.CTRL.speed : Fld := ⟨0x40014010, 1, 1⟩
def F.ETH.CTRL.ref_out : Fld := ⟨0x40014010, 2, 2⟩
def F.ETH.CTRL.promisc : Fld := ⟨0x40014010, 3, 3⟩
def F.ETH.CTRL.mcast : Fld := ⟨0x40014010, 4, 4⟩
def F.ETH.CTRL.pass_bad : Fld := ⟨0x40014010, 5, 5⟩
def F.ETH.CTRL.keep_fcs : Fld := ⟨0x40014010, 6, 6⟩
def R.ETH.STAT : Nat := 0x40014014
def F.ETH.STAT.running : Fld := ⟨0x40014014, 0, 0⟩
def F.ETH.STAT.link : Fld := ⟨0x40014014, 1, 1⟩
def F.ETH.STAT.ref_ok : Fld := ⟨0x40014014, 2, 2⟩
def R.ETH.MAC_HI : Nat := 0x40014100
def F.ETH.MAC_HI.addr : Fld := ⟨0x40014100, 15, 0⟩
def R.ETH.MAC_LO : Nat := 0x40014104
def F.ETH.MAC_LO.addr : Fld := ⟨0x40014104, 31, 0⟩
def R.ETH.RXTS : Nat := 0x40014108
def F.ETH.RXTS.ts : Fld := ⟨0x40014108, 31, 0⟩
def R.ETH.RXCNT : Nat := 0x4001410c
def F.ETH.RXCNT.frames : Fld := ⟨0x4001410c, 31, 0⟩
def R.ETH.TXCNT : Nat := 0x40014110
def F.ETH.TXCNT.frames : Fld := ⟨0x40014110, 31, 0⟩
def R.ETH.RXERR : Nat := 0x40014114
def F.ETH.RXERR.all : Fld := ⟨0x40014114, 31, 0⟩
def R.ETH.RXDROP : Nat := 0x40014118
def F.ETH.RXDROP.filtered : Fld := ⟨0x40014118, 15, 0⟩
def R.ETH.ERR2 : Nat := 0x4001411c
def F.ETH.ERR2.overrun : Fld := ⟨0x4001411c, 15, 0⟩
def F.ETH.ERR2.tx_abort : Fld := ⟨0x4001411c, 31, 16⟩
def R.ETH.CNTCLR : Nat := 0x40014120
def F.ETH.CNTCLR.clr : Fld := ⟨0x40014120, 0, 0⟩
def R.ETH.POLL : Nat := 0x40014124
def F.ETH.POLL.phyad : Fld := ⟨0x40014124, 4, 0⟩
def F.ETH.POLL.interval : Fld := ⟨0x40014124, 15, 8⟩
def R.ETH.MDIO_CMD : Nat := 0x40014140
def F.ETH.MDIO_CMD.data : Fld := ⟨0x40014140, 15, 0⟩
def F.ETH.MDIO_CMD.reg : Fld := ⟨0x40014140, 20, 16⟩
def F.ETH.MDIO_CMD.phy : Fld := ⟨0x40014140, 25, 21⟩
def F.ETH.MDIO_CMD.op : Fld := ⟨0x40014140, 27, 26⟩
def F.ETH.MDIO_CMD.no_pre : Fld := ⟨0x40014140, 28, 28⟩
def R.ETH.MDIO_RES : Nat := 0x40014144
def F.ETH.MDIO_RES.data : Fld := ⟨0x40014144, 15, 0⟩
def F.ETH.MDIO_RES.code : Fld := ⟨0x40014144, 23, 16⟩
def F.ETH.MDIO_RES.busy : Fld := ⟨0x40014144, 24, 24⟩
def R.RLP.CTRL : Nat := 0x40016010
def F.RLP.CTRL.rx_en : Fld := ⟨0x40016010, 0, 0⟩
def F.RLP.CTRL.tx_en : Fld := ⟨0x40016010, 1, 1⟩
def F.RLP.CTRL.hdr_in_buf : Fld := ⟨0x40016010, 2, 2⟩
def F.RLP.CTRL.rate : Fld := ⟨0x40016010, 12, 8⟩
def F.RLP.CTRL.fwd_type : Fld := ⟨0x40016010, 23, 16⟩
def R.RLP.STAT : Nat := 0x40016014
def F.RLP.STAT.armed : Fld := ⟨0x40016014, 0, 0⟩
def F.RLP.STAT.ref_valid : Fld := ⟨0x40016014, 1, 1⟩
def F.RLP.STAT.tx_state : Fld := ⟨0x40016014, 4, 2⟩
def R.RLP.ADDR : Nat := 0x40016100
def F.RLP.ADDR.addr : Fld := ⟨0x40016100, 15, 0⟩
def R.RLP.BCN_MATCH : Nat := 0x40016104
def F.RLP.BCN_MATCH.type : Fld := ⟨0x40016104, 7, 0⟩
def F.RLP.BCN_MATCH.mask : Fld := ⟨0x40016104, 15, 8⟩
def F.RLP.BCN_MATCH.en : Fld := ⟨0x40016104, 16, 16⟩
def R.RLP.SLOT_OFF : Nat := 0x40016108
def F.RLP.SLOT_OFF.off : Fld := ⟨0x40016108, 23, 0⟩
def R.RLP.SLOT_LEN : Nat := 0x4001610c
def F.RLP.SLOT_LEN.len : Fld := ⟨0x4001610c, 15, 0⟩
def F.RLP.SLOT_LEN.guard : Fld := ⟨0x4001610c, 31, 16⟩
def R.RLP.SLOT_CFG : Nat := 0x40016110
def F.RLP.SLOT_CFG.mode : Fld := ⟨0x40016110, 0, 0⟩
def F.RLP.SLOT_CFG.retry : Fld := ⟨0x40016110, 1, 1⟩
def F.RLP.SLOT_CFG.tol : Fld := ⟨0x40016110, 15, 4⟩
def F.RLP.SLOT_CFG.bcn_max : Fld := ⟨0x40016110, 31, 16⟩
def R.RLP.BCN_TIME : Nat := 0x40016114
def F.RLP.BCN_TIME.ref : Fld := ⟨0x40016114, 31, 0⟩
def R.RLP.BCN_INFO : Nat := 0x40016118
def F.RLP.BCN_INFO.seq : Fld := ⟨0x40016118, 7, 0⟩
def F.RLP.BCN_INFO.addr : Fld := ⟨0x40016118, 23, 8⟩
def F.RLP.BCN_INFO.valid : Fld := ⟨0x40016118, 24, 24⟩
def R.RLP.ST_NOW : Nat := 0x4001611c
def F.RLP.ST_NOW.count : Fld := ⟨0x4001611c, 31, 0⟩
def R.RLP.TX_STAT : Nat := 0x40016120
def F.RLP.TX_STAT.result : Fld := ⟨0x40016120, 7, 0⟩
def F.RLP.TX_STAT.cause : Fld := ⟨0x40016120, 15, 8⟩
def F.RLP.TX_STAT.seq : Fld := ⟨0x40016120, 23, 16⟩
def R.RLP.TX_COOKIE : Nat := 0x40016124
def F.RLP.TX_COOKIE.cookie : Fld := ⟨0x40016124, 31, 0⟩
def R.RLP.TX_WHEN : Nat := 0x40016128
def F.RLP.TX_WHEN.count : Fld := ⟨0x40016128, 31, 0⟩
def R.RLP.TXCNT : Nat := 0x4001612c
def F.RLP.TXCNT.sent : Fld := ⟨0x4001612c, 15, 0⟩
def F.RLP.TXCNT.slot_miss : Fld := ⟨0x4001612c, 31, 16⟩
def R.RLP.RXCNT : Nat := 0x40016130
def F.RLP.RXCNT.frames : Fld := ⟨0x40016130, 15, 0⟩
def F.RLP.RXCNT.beacons : Fld := ⟨0x40016130, 31, 16⟩
def R.RLP.RXERR : Nat := 0x40016134
def F.RLP.RXERR.all : Fld := ⟨0x40016134, 31, 0⟩
def R.RLP.TXSEQ : Nat := 0x40016138
def F.RLP.TXSEQ.next : Fld := ⟨0x40016138, 7, 0⟩
def R.RLP.CNTCLR : Nat := 0x4001613c
def F.RLP.CNTCLR.clr : Fld := ⟨0x4001613c, 0, 0⟩
def R.GCB.CTRL : Nat := 0x40017010
def F.GCB.CTRL.pwr : Fld := ⟨0x40017010, 0, 0⟩
def F.GCB.CTRL.busy_wait : Fld := ⟨0x40017010, 1, 1⟩
def F.GCB.CTRL.resume : Fld := ⟨0x40017010, 2, 2⟩
def F.GCB.CTRL.oc_clr : Fld := ⟨0x40017010, 3, 3⟩
def R.GCB.STAT : Nat := 0x40017014
def F.GCB.STAT.state : Fld := ⟨0x40017014, 2, 0⟩
def F.GCB.STAT.present : Fld := ⟨0x40017014, 3, 3⟩
def F.GCB.STAT.oc : Fld := ⟨0x40017014, 4, 4⟩
def F.GCB.STAT.dat0 : Fld := ⟨0x40017014, 5, 5⟩
def F.GCB.STAT.vddio_c : Fld := ⟨0x40017014, 6, 6⟩
def F.GCB.STAT.busy : Fld := ⟨0x40017014, 7, 7⟩
def F.GCB.STAT.width : Fld := ⟨0x40017014, 9, 8⟩
def F.GCB.STAT.speed : Fld := ⟨0x40017014, 11, 10⟩
def R.GCB.RESP : Nat := 0x40017100
def F.GCB.RESP.status : Fld := ⟨0x40017100, 31, 0⟩
def R.GCB.STOP_AT : Nat := 0x40017104
def F.GCB.STOP_AT.ring : Fld := ⟨0x40017104, 6, 0⟩
def F.GCB.STOP_AT.valid : Fld := ⟨0x40017104, 7, 7⟩
def F.GCB.STOP_AT.index : Fld := ⟨0x40017104, 23, 8⟩
def F.GCB.STOP_AT.code : Fld := ⟨0x40017104, 31, 24⟩
def R.GCB.COUNT : Nat := 0x40017108
def F.GCB.COUNT.count : Fld := ⟨0x40017108, 15, 0⟩
def R.GCB.TMO : Nat := 0x4001710c
def F.GCB.TMO.read : Fld := ⟨0x4001710c, 7, 0⟩
def F.GCB.TMO.busy_ms : Fld := ⟨0x4001710c, 31, 16⟩
def R.GCB.CNT0 : Nat := 0x40017110
def F.GCB.CNT0.commands : Fld := ⟨0x40017110, 15, 0⟩
def F.GCB.CNT0.crc : Fld := ⟨0x40017110, 31, 16⟩
def R.GCB.CNT1 : Nat := 0x40017114
def F.GCB.CNT1.timeout : Fld := ⟨0x40017114, 7, 0⟩
def F.GCB.CNT1.state : Fld := ⟨0x40017114, 15, 8⟩
def F.GCB.CNT1.removals : Fld := ⟨0x40017114, 23, 16⟩
def F.GCB.CNT1.oc : Fld := ⟨0x40017114, 31, 24⟩
def R.GCB.CNTCLR : Nat := 0x40017118
def F.GCB.CNTCLR.clr : Fld := ⟨0x40017118, 0, 0⟩
def R.HLK.CTRL : Nat := 0x40018010
def F.HLK.CTRL.en : Fld := ⟨0x40018010, 0, 0⟩
def F.HLK.CTRL.quad_en : Fld := ⟨0x40018010, 1, 1⟩
def F.HLK.CTRL.ready : Fld := ⟨0x40018010, 2, 2⟩
def F.HLK.CTRL.session : Fld := ⟨0x40018010, 15, 8⟩
def R.HLK.STAT : Nat := 0x40018014
def F.HLK.STAT.cs : Fld := ⟨0x40018014, 0, 0⟩
def F.HLK.STAT.mode3 : Fld := ⟨0x40018014, 1, 1⟩
def R.HLK.MBDIR : Nat := 0x40018100
def F.HLK.MBDIR.dir : Fld := ⟨0x40018100, 7, 0⟩
def R.HLK.LASTWR : Nat := 0x40018104
def F.HLK.LASTWR.code : Fld := ⟨0x40018104, 7, 0⟩
def F.HLK.LASTWR.mbox : Fld := ⟨0x40018104, 10, 8⟩
def F.HLK.LASTWR.dup : Fld := ⟨0x40018104, 11, 11⟩
def F.HLK.LASTWR.seq : Fld := ⟨0x40018104, 23, 16⟩
def R.HLK.LASTRD : Nat := 0x40018108
def F.HLK.LASTRD.code : Fld := ⟨0x40018108, 7, 0⟩
def F.HLK.LASTRD.mbox : Fld := ⟨0x40018108, 10, 8⟩
def R.HLK.INSEQ : Nat := 0x4001810c
def F.HLK.INSEQ.seq : Fld := ⟨0x4001810c, 31, 0⟩
def R.HLK.INSEQ_V : Nat := 0x40018114
def F.HLK.INSEQ_V.valid : Fld := ⟨0x40018114, 7, 0⟩
def R.HLK.OUTSEQ : Nat := 0x40018118
def F.HLK.OUTSEQ.seq : Fld := ⟨0x40018118, 31, 0⟩
def R.HLK.HOSTIRQ : Nat := 0x40018120
def F.HLK.HOSTIRQ.raw : Fld := ⟨0x40018120, 3, 0⟩
def F.HLK.HOSTIRQ.en : Fld := ⟨0x40018120, 11, 8⟩
def R.HLK.DOORBELL : Nat := 0x40018124
def F.HLK.DOORBELL.ring : Fld := ⟨0x40018124, 0, 0⟩
def R.HLK.CNT0 : Nat := 0x40018128
def F.HLK.CNT0.frames : Fld := ⟨0x40018128, 15, 0⟩
def F.HLK.CNT0.crc : Fld := ⟨0x40018128, 31, 16⟩
def R.HLK.CNT1 : Nat := 0x4001812c
def F.HLK.CNT1.quota : Fld := ⟨0x4001812c, 7, 0⟩
def F.HLK.CNT1.bounds : Fld := ⟨0x4001812c, 15, 8⟩
def F.HLK.CNT1.aborted : Fld := ⟨0x4001812c, 23, 16⟩
def F.HLK.CNT1.bad_frame : Fld := ⟨0x4001812c, 31, 24⟩
def R.HLK.CNT2 : Nat := 0x40018130
def F.HLK.CNT2.underrun : Fld := ⟨0x40018130, 7, 0⟩
def F.HLK.CNT2.state : Fld := ⟨0x40018130, 15, 8⟩
def F.HLK.CNT2.dup : Fld := ⟨0x40018130, 23, 16⟩
def R.HLK.CNTCLR : Nat := 0x40018134
def F.HLK.CNTCLR.clr : Fld := ⟨0x40018134, 0, 0⟩
def R.MGP.CFG : Nat := 0x40019010
def F.MGP.CFG.pec : Fld := ⟨0x40019010, 0, 0⟩
def R.MGP.STAT : Nat := 0x40019014
def F.MGP.STAT.target_busy : Fld := ⟨0x40019014, 0, 0⟩
def F.MGP.STAT.mc_busy : Fld := ⟨0x40019014, 1, 1⟩
def F.MGP.STAT.session : Fld := ⟨0x40019014, 2, 2⟩
def F.MGP.STAT.key_loaded : Fld := ⟨0x40019014, 3, 3⟩
def R.MGP.TADDR : Nat := 0x40019100
def F.MGP.TADDR.addr : Fld := ⟨0x40019100, 6, 0⟩
def R.MGP.MKEY : Nat := 0x40019104
def F.MGP.MKEY.key : Fld := ⟨0x40019104, 31, 0⟩
def R.MGP.MNONCE : Nat := 0x40019114
def F.MGP.MNONCE.nonce : Fld := ⟨0x40019114, 31, 0⟩
def R.MGP.MSEQ : Nat := 0x4001911c
def F.MGP.MSEQ.seq : Fld := ⟨0x4001911c, 31, 0⟩
def R.MGP.CMDSTAT : Nat := 0x40019120
def F.MGP.CMDSTAT.result : Fld := ⟨0x40019120, 31, 0⟩
def R.MGP.SESSION : Nat := 0x40019124
def F.MGP.SESSION.left : Fld := ⟨0x40019124, 11, 0⟩
def R.MGP.ALERT : Nat := 0x40019128
def F.MGP.ALERT.alert : Fld := ⟨0x40019128, 7, 0⟩
def F.MGP.ALERT.en : Fld := ⟨0x40019128, 15, 8⟩
def R.MGP.ALERT_FW : Nat := 0x4001912c
def F.MGP.ALERT_FW.raise : Fld := ⟨0x4001912c, 0, 0⟩
def R.MGP.MBIN : Nat := 0x40019140
def F.MGP.MBIN.data : Fld := ⟨0x40019140, 31, 0⟩
def R.MGP.MBIN_CTL : Nat := 0x40019180
def F.MGP.MBIN_CTL.full : Fld := ⟨0x40019180, 0, 0⟩
def F.MGP.MBIN_CTL.take : Fld := ⟨0x40019180, 8, 8⟩
def F.MGP.MBIN_CTL.len : Fld := ⟨0x40019180, 23, 16⟩
def R.MGP.MBOUT : Nat := 0x400191c0
def F.MGP.MBOUT.data : Fld := ⟨0x400191c0, 31, 0⟩
def R.MGP.MBOUT_CTL : Nat := 0x40019200
def F.MGP.MBOUT_CTL.post : Fld := ⟨0x40019200, 0, 0⟩
def F.MGP.MBOUT_CTL.len : Fld := ⟨0x40019200, 15, 8⟩
def R.MGP.MC_CFG : Nat := 0x40019240
def F.MGP.MC_CFG.speed : Fld := ⟨0x40019240, 1, 0⟩
def F.MGP.MC_CFG.retries : Fld := ⟨0x40019240, 4, 2⟩
def F.MGP.MC_CFG.pec : Fld := ⟨0x40019240, 5, 5⟩
def F.MGP.MC_CFG.timeout_ms : Fld := ⟨0x40019240, 15, 8⟩
def R.MGP.MC_CMD : Nat := 0x40019244
def F.MGP.MC_CMD.addr : Fld := ⟨0x40019244, 6, 0⟩
def F.MGP.MC_CMD.wlen : Fld := ⟨0x40019244, 13, 8⟩
def F.MGP.MC_CMD.rlen : Fld := ⟨0x40019244, 21, 16⟩
def F.MGP.MC_CMD.go : Fld := ⟨0x40019244, 31, 31⟩
def R.MGP.MC_TX : Nat := 0x40019250
def F.MGP.MC_TX.data : Fld := ⟨0x40019250, 31, 0⟩
def R.MGP.MC_RX : Nat := 0x40019270
def F.MGP.MC_RX.data : Fld := ⟨0x40019270, 31, 0⟩
def R.MGP.MC_RES : Nat := 0x40019290
def F.MGP.MC_RES.code : Fld := ⟨0x40019290, 7, 0⟩
def F.MGP.MC_RES.wdone : Fld := ⟨0x40019290, 13, 8⟩
def F.MGP.MC_RES.rdone : Fld := ⟨0x40019290, 21, 16⟩
def F.MGP.MC_RES.busy : Fld := ⟨0x40019290, 24, 24⟩
def F.MGP.MC_RES.arb_lost : Fld := ⟨0x40019290, 31, 28⟩
def R.MGP.CNT : Nat := 0x40019294
def F.MGP.CNT.pec_err : Fld := ⟨0x40019294, 7, 0⟩
def F.MGP.CNT.bad_window : Fld := ⟨0x40019294, 15, 8⟩
def F.MGP.CNT.timeouts : Fld := ⟨0x40019294, 23, 16⟩
def F.MGP.CNT.refused : Fld := ⟨0x40019294, 31, 24⟩
def R.MGP.CNTCLR : Nat := 0x40019298
def F.MGP.CNTCLR.clr : Fld := ⟨0x40019298, 0, 0⟩
def R.SNAP.TRIG : Nat := 0x4001d100
def F.SNAP.TRIG.fire : Fld := ⟨0x4001d100, 0, 0⟩
def R.SNAP.TRIG_EN : Nat := 0x4001d104
def F.SNAP.TRIG_EN.sw : Fld := ⟨0x4001d104, 0, 0⟩
def F.SNAP.TRIG_EN.cloche : Fld := ⟨0x4001d104, 1, 1⟩
def F.SNAP.TRIG_EN.rl_wake : Fld := ⟨0x4001d104, 2, 2⟩
def F.SNAP.TRIG_EN.txen_rise : Fld := ⟨0x4001d104, 3, 3⟩
def F.SNAP.TRIG_EN.txen_fall : Fld := ⟨0x4001d104, 4, 4⟩
def F.SNAP.TRIG_EN.beacon : Fld := ⟨0x4001d104, 5, 5⟩
def F.SNAP.TRIG_EN.alarm : Fld := ⟨0x4001d104, 6, 6⟩
def F.SNAP.TRIG_EN.swline : Fld := ⟨0x4001d104, 7, 7⟩
def F.SNAP.TRIG_EN.gpio : Fld := ⟨0x4001d104, 8, 8⟩
def F.SNAP.TRIG_EN.wdog : Fld := ⟨0x4001d104, 9, 9⟩
def F.SNAP.TRIG_EN.lockup : Fld := ⟨0x4001d104, 10, 10⟩
def F.SNAP.TRIG_EN.gpio_sel : Fld := ⟨0x4001d104, 19, 16⟩
def F.SNAP.TRIG_EN.gpio_fall : Fld := ⟨0x4001d104, 20, 20⟩
def R.SNAP.TRIG_STAT : Nat := 0x4001d108
def F.SNAP.TRIG_STAT.seq : Fld := ⟨0x4001d108, 15, 0⟩
def F.SNAP.TRIG_STAT.merged : Fld := ⟨0x4001d108, 23, 16⟩
def F.SNAP.TRIG_STAT.pending : Fld := ⟨0x4001d108, 24, 24⟩
def R.SNAP.MON_SAT : Nat := 0x4001d10c
def F.SNAP.MON_SAT.sat : Fld := ⟨0x4001d10c, 31, 0⟩
def R.SNAP.LOG_CTRL : Nat := 0x4001d110
def F.SNAP.LOG_CTRL.hold : Fld := ⟨0x4001d110, 0, 0⟩
def F.SNAP.LOG_CTRL.hold_slot : Fld := ⟨0x4001d110, 25, 16⟩
def R.SNAP.LOG_STAT : Nat := 0x4001d114
def F.SNAP.LOG_STAT.queued : Fld := ⟨0x4001d114, 3, 0⟩
def F.SNAP.LOG_STAT.lost : Fld := ⟨0x4001d114, 31, 16⟩
def R.SNAP.LOG_WR0 : Nat := 0x4001d118
def F.SNAP.LOG_WR0.code : Fld := ⟨0x4001d118, 7, 0⟩
def R.SNAP.LOG_WR1 : Nat := 0x4001d11c
def F.SNAP.LOG_WR1.detail : Fld := ⟨0x4001d11c, 31, 0⟩
def R.TRC.CTRL : Nat := 0x4001e010
def F.TRC.CTRL.en : Fld := ⟨0x4001e010, 0, 0⟩
def F.TRC.CTRL.mode : Fld := ⟨0x4001e010, 1, 1⟩
def F.TRC.CTRL.retain : Fld := ⟨0x4001e010, 2, 2⟩
def F.TRC.CTRL.glass : Fld := ⟨0x4001e010, 3, 3⟩
def F.TRC.CTRL.irq : Fld := ⟨0x4001e010, 4, 4⟩
def F.TRC.CTRL.trap : Fld := ⟨0x4001e010, 5, 5⟩
def F.TRC.CTRL.col : Fld := ⟨0x4001e010, 6, 6⟩
def F.TRC.CTRL.ring : Fld := ⟨0x4001e010, 7, 7⟩
def F.TRC.CTRL.snap : Fld := ⟨0x4001e010, 8, 8⟩
def F.TRC.CTRL.clr : Fld := ⟨0x4001e010, 9, 9⟩
def R.TRC.STAT : Nat := 0x4001e014
def F.TRC.STAT.full : Fld := ⟨0x4001e014, 0, 0⟩
def F.TRC.STAT.clearing : Fld := ⟨0x4001e014, 1, 1⟩
def R.TRC.WPTR : Nat := 0x4001e100
def F.TRC.WPTR.next : Fld := ⟨0x4001e100, 8, 0⟩
def F.TRC.WPTR.wraps : Fld := ⟨0x4001e100, 31, 16⟩
def R.TRC.SWREC : Nat := 0x4001e104
def F.TRC.SWREC.data : Fld := ⟨0x4001e104, 31, 0⟩
def R.TRC.LOST : Nat := 0x4001e108
def F.TRC.LOST.count : Fld := ⟨0x4001e108, 15, 0⟩
def R.TRC.RING_SEL : Nat := 0x4001e10c
def F.TRC.RING_SEL.lo : Fld := ⟨0x4001e10c, 6, 0⟩
def F.TRC.RING_SEL.hi : Fld := ⟨0x4001e10c, 14, 8⟩
def R.PWR.HOLD : Nat := 0x40001118
def F.PWR.HOLD.h1 : Fld := ⟨0x40001118, 1, 1⟩
def F.PWR.HOLD.h13_11 : Fld := ⟨0x40001118, 13, 11⟩
def R.PWR.CLKRUN : Nat := 0x4000111c
def F.PWR.CLKRUN.run : Fld := ⟨0x4000111c, 26, 0⟩
def R.PWR.WAKE_EN : Nat := 0x40001120
def F.PWR.WAKE_EN.en : Fld := ⟨0x40001120, 6, 0⟩
def R.PWR.WAKE_DOMAINS : Nat := 0x40001128
def F.PWR.WAKE_DOMAINS.lo : Fld := ⟨0x40001128, 1, 0⟩
def F.PWR.WAKE_DOMAINS.d2 : Fld := ⟨0x40001128, 2, 2⟩
def F.PWR.WAKE_DOMAINS.d9_3 : Fld := ⟨0x40001128, 9, 3⟩
def F.PWR.WAKE_DOMAINS.d10 : Fld := ⟨0x40001128, 10, 10⟩
def F.PWR.WAKE_DOMAINS.d13_11 : Fld := ⟨0x40001128, 13, 11⟩
def R.PWR.OFFACC : Nat := 0x40001138
def F.PWR.OFFACC.count : Fld := ⟨0x40001138, 15, 0⟩
def F.PWR.OFFACC.clr : Fld := ⟨0x40001138, 16, 16⟩
def R.PWR.STAT : Nat := 0x40001014
def F.PWR.STAT.pd_wait : Fld := ⟨0x40001014, 0, 0⟩
def F.PWR.DOMAIN.req0 : Fld := ⟨0x40001114, 0, 0⟩
def F.PWR.DOMAIN.req1 : Fld := ⟨0x40001114, 1, 1⟩
def F.PWR.DOMAIN.req2 : Fld := ⟨0x40001114, 2, 2⟩
def F.PWR.DOMAIN.req5_3 : Fld := ⟨0x40001114, 5, 3⟩
def F.PWR.DOMAIN.req6 : Fld := ⟨0x40001114, 6, 6⟩
def F.PWR.DOMAIN.req8_7 : Fld := ⟨0x40001114, 8, 7⟩
def F.PWR.DOMAIN.req9 : Fld := ⟨0x40001114, 9, 9⟩
def F.PWR.DOMAIN.req10 : Fld := ⟨0x40001114, 10, 10⟩
def F.PWR.DOMAIN.req13_11 : Fld := ⟨0x40001114, 13, 11⟩
def F.PWR.DOMAIN.req : Fld := ⟨0x40001114, 13, 0⟩
def F.PWR.WAKE_DOMAINS.domains : Fld := ⟨0x40001128, 13, 0⟩
def F.PWR.HOLD.hold : Fld := ⟨0x40001118, 13, 0⟩
def R.COL.STAT : Nat := 0x4000a014
def F.COL.STAT.present : Fld := ⟨0x4000a014, 0, 0⟩
def F.COL.STAT.held : Fld := ⟨0x4000a014, 1, 1⟩
def F.COL.STAT.occupant : Fld := ⟨0x4000a014, 2, 2⟩
def F.COL.STAT.mode : Fld := ⟨0x4000a014, 4, 3⟩
def F.COL.STAT.wilted : Fld := ⟨0x4000a014, 5, 5⟩
def F.COL.STAT.closed : Fld := ⟨0x4000a014, 6, 6⟩
def F.COL.STAT.recover_due : Fld := ⟨0x4000a014, 7, 7⟩
def R.INTC.CORE1_STAT : Nat := 0x4000b11c
def F.INTC.CORE1_STAT.line : Fld := ⟨0x4000b11c, 6, 0⟩
def F.INTC.CORE1_STAT.valid : Fld := ⟨0x4000b11c, 7, 7⟩
def F.INTC.CORE1_STAT.prio : Fld := ⟨0x4000b11c, 11, 8⟩
def F.INTC.CORE1_STAT.mask : Fld := ⟨0x4000b11c, 15, 12⟩
def R.HDR.ID : Nat := 0x00000000
def F.HDR.ID.id : Fld := ⟨0x00000000, 31, 0⟩
def R.HDR.CAPS : Nat := 0x00000004
def F.HDR.CAPS.caps : Fld := ⟨0x00000004, 31, 0⟩
def R.HDR.OWNER : Nat := 0x00000008
def F.HDR.OWNER.owner : Fld := ⟨0x00000008, 1, 0⟩
def F.HDR.OWNER.reassignable : Fld := ⟨0x00000008, 2, 2⟩
def F.HDR.OWNER.locked : Fld := ⟨0x00000008, 3, 3⟩
def F.HDR.OWNER.clr_cnt : Fld := ⟨0x00000008, 4, 4⟩
def F.HDR.OWNER.world_refused : Fld := ⟨0x00000008, 23, 16⟩
def F.HDR.OWNER.lock_refused : Fld := ⟨0x00000008, 31, 24⟩
def R.HDR.LOCK : Nat := 0x0000000c
def F.HDR.LOCK.state : Fld := ⟨0x0000000c, 1, 0⟩
def F.HDR.LOCK.locker : Fld := ⟨0x0000000c, 2, 2⟩
def F.HDR.LOCK.bad_keys : Fld := ⟨0x0000000c, 6, 4⟩
def F.HDR.LOCK.key : Fld := ⟨0x0000000c, 15, 0⟩
def F.HDR.LOCK.cmd : Fld := ⟨0x0000000c, 31, 16⟩
def R.HDR.CTRL : Nat := 0x00000010
def F.HDR.CTRL.none : Fld := ⟨0x00000010, 31, 0⟩
def R.HDR.STAT : Nat := 0x00000014
def F.HDR.STAT.fault : Fld := ⟨0x00000014, 31, 31⟩
def F.HDR.STAT.locked : Fld := ⟨0x00000014, 30, 30⟩
def R.HDR.IRQ_RAW : Nat := 0x00000018
def F.HDR.IRQ_RAW.raw : Fld := ⟨0x00000018, 31, 0⟩
def F.HDR.IRQ_RAW.access_fault : Fld := ⟨0x00000018, 31, 31⟩
def R.HDR.IRQ_EN : Nat := 0x0000001c
def F.HDR.IRQ_EN.en : Fld := ⟨0x0000001c, 31, 0⟩
def R.HDR.IRQ_PEND : Nat := 0x00000020
def F.HDR.IRQ_PEND.pend : Fld := ⟨0x00000020, 31, 0⟩
def R.HDR.FAULT : Nat := 0x00000024
def F.HDR.FAULT.cause : Fld := ⟨0x00000024, 7, 0⟩
def F.HDR.FAULT.initiator : Fld := ⟨0x00000024, 11, 8⟩
def F.HDR.FAULT.world : Fld := ⟨0x00000024, 12, 12⟩
def F.HDR.FAULT.write : Fld := ⟨0x00000024, 13, 13⟩
def F.HDR.FAULT.overflow : Fld := ⟨0x00000024, 30, 30⟩
def F.HDR.FAULT.valid : Fld := ⟨0x00000024, 31, 31⟩
def R.HDR.FAULT_ADDR : Nat := 0x00000028
def F.HDR.FAULT_ADDR.addr : Fld := ⟨0x00000028, 31, 0⟩
def R.HDR.SNAP_CFG : Nat := 0x0000002c
def F.HDR.SNAP_CFG.en : Fld := ⟨0x0000002c, 0, 0⟩
def F.HDR.SNAP_CFG.hold : Fld := ⟨0x0000002c, 1, 1⟩
def F.HDR.SNAP_CFG.held : Fld := ⟨0x0000002c, 2, 2⟩
def R.HDR.SNAP_SEQ : Nat := 0x00000070
def F.HDR.SNAP_SEQ.seq : Fld := ⟨0x00000070, 15, 0⟩
def F.HDR.SNAP_SEQ.skew : Fld := ⟨0x00000070, 23, 16⟩
def R.HDR.MON_SEL : Nat := 0x00000074
def F.HDR.MON_SEL.quantity : Fld := ⟨0x00000074, 7, 0⟩
def F.HDR.MON_SEL.bin_shift : Fld := ⟨0x00000074, 12, 8⟩
def R.HDR.MON_MIN : Nat := 0x00000078
def F.HDR.MON_MIN.min : Fld := ⟨0x00000078, 31, 0⟩
def R.HDR.MON_MAX : Nat := 0x0000007c
def F.HDR.MON_MAX.max : Fld := ⟨0x0000007c, 31, 0⟩
def R.HDR.MON_COUNT : Nat := 0x000000c0
def F.HDR.MON_COUNT.count : Fld := ⟨0x000000c0, 31, 0⟩
def R.HDR.MON_SUM : Nat := 0x000000c4
def F.HDR.MON_SUM.sum : Fld := ⟨0x000000c4, 31, 0⟩
def R.HDR.MON_CTRL : Nat := 0x000000c8
def F.HDR.MON_CTRL.run : Fld := ⟨0x000000c8, 0, 0⟩
def F.HDR.MON_CTRL.clear : Fld := ⟨0x000000c8, 1, 1⟩
def F.HDR.MON_CTRL.bin_base : Fld := ⟨0x000000c8, 31, 16⟩
def R.HDR.SNAP : Nat := 0x00000030
def F.HDR.SNAP.val : Fld := ⟨0x00000030, 31, 0⟩
def R.HDR.MON_BIN : Nat := 0x00000080
def F.HDR.MON_BIN.bin : Fld := ⟨0x00000080, 31, 0⟩
def R.RING.GCFG : Nat := 0x40011d00
def F.RING.GCFG.count : Fld := ⟨0x40011d00, 7, 0⟩
def F.RING.GCFG.holdoff_us : Fld := ⟨0x40011d00, 23, 8⟩
def F.RING.GCFG.world : Fld := ⟨0x40011d00, 24, 24⟩
def F.RING.GCFG.en : Fld := ⟨0x40011d00, 25, 25⟩
def R.RING.GSTAT : Nat := 0x40011d04
def F.RING.GSTAT.pending : Fld := ⟨0x40011d04, 7, 0⟩
def F.RING.GSTAT.active : Fld := ⟨0x40011d04, 8, 8⟩
def F.RING.GSTAT.halt : Fld := ⟨0x40011d04, 9, 9⟩
def R.OPT.SET : Nat := 0x40004100
def F.OPT.SET.loaded : Fld := ⟨0x40004100, 0, 0⟩
def F.OPT.SET.default : Fld := ⟨0x40004100, 1, 1⟩
def R.OPT.SEQ : Nat := 0x40004104
def F.OPT.SEQ.seq : Fld := ⟨0x40004104, 31, 0⟩
def R.OPT.CFG : Nat := 0x40004108
def F.OPT.CFG.pref_slot : Fld := ⟨0x40004108, 7, 0⟩
def F.OPT.CFG.lockup_action : Fld := ⟨0x40004108, 15, 8⟩
def R.OPT.SLOTS : Nat := 0x4000410c
def F.OPT.SLOTS.a_first : Fld := ⟨0x4000410c, 7, 0⟩
def F.OPT.SLOTS.a_last : Fld := ⟨0x4000410c, 15, 8⟩
def F.OPT.SLOTS.b_first : Fld := ⟨0x4000410c, 23, 16⟩
def F.OPT.SLOTS.b_last : Fld := ⟨0x4000410c, 31, 24⟩
def R.OPT.KEYD : Nat := 0x40004120
def F.OPT.KEYD.digest : Fld := ⟨0x40004120, 31, 0⟩
def R.OPT.TOKD : Nat := 0x400041a0
def F.OPT.TOKD.digest : Fld := ⟨0x400041a0, 31, 0⟩
def R.OPT.DBGD : Nat := 0x40004200
def F.OPT.DBGD.digest : Fld := ⟨0x40004200, 31, 0⟩
def R.OPT.FLOOR : Nat := 0x40004220
def F.OPT.FLOOR.floor : Fld := ⟨0x40004220, 31, 0⟩
def R.OPT.HFRC_TRIM : Nat := 0x40004260
def F.OPT.HFRC_TRIM.coarse : Fld := ⟨0x40004260, 7, 0⟩
def R.LDG.STAT : Nat := 0x40006014
def F.LDG.STAT.busy : Fld := ⟨0x40006014, 0, 0⟩
def F.LDG.STAT.wear_warn : Fld := ⟨0x40006014, 1, 1⟩
def F.LDG.STAT.spares_low : Fld := ⟨0x40006014, 2, 2⟩
def F.LDG.STAT.spares_out : Fld := ⟨0x40006014, 3, 3⟩
def F.LDG.STAT.ready : Fld := ⟨0x40006014, 4, 4⟩

end Sys2Proof.Machine
end

