-- ==== Sys2Proof/Machine/RegTable.lean ====
section
/-!
DEFINITION. The registers each page holds: offset, how many and how far apart, and which bits a plain write stores (RW, RWL),
clears by 1 (W1C), only the Glasshouse writes (/G), a page lock protects (RWL), and every reset but power-on keeps (RWS).
The access codes are those of 00_scope.md; the rows are the register tables of the chapters. An offset of no row is a hole (R22).
-/
namespace Sys2Proof.Machine

/-- One row of a page's register table: `n` registers, `stride` bytes apart, from page offset `off`. -/
structure RegInfo where
  off : Nat
  n : Nat
  stride : Nat
  rw : Word
  w1c : Word
  g : Word
  lk : Word
  rws : Word
  deriving DecidableEq, Repr

/-- The registers of the common page header (R24). OWNER, LOCK and FAULT have write rules of their own. -/
def hdrRegs : List RegInfo := [
  ⟨0x0, 1, 4, 0x0, 0x0, 0x0, 0x0, 0x0⟩,
  ⟨0x4, 1, 4, 0x0, 0x0, 0x0, 0x0, 0x0⟩,
  ⟨0x8, 1, 4, 0x0, 0x0, 0x0, 0x0, 0x0⟩,
  ⟨0xc, 1, 4, 0x0, 0x0, 0x0, 0x0, 0x0⟩,
  ⟨0x10, 1, 4, 0x0, 0x0, 0x0, 0x0, 0x0⟩,
  ⟨0x14, 1, 4, 0x0, 0x0, 0x0, 0x0, 0x0⟩,
  ⟨0x18, 1, 4, 0x0, 0xffffffff, 0x0, 0x0, 0x0⟩,
  ⟨0x1c, 1, 4, 0xffffffff, 0x0, 0x0, 0x0, 0x0⟩,
  ⟨0x20, 1, 4, 0x0, 0x0, 0x0, 0x0, 0x0⟩,
  ⟨0x24, 1, 4, 0x0, 0x80000000, 0x0, 0x0, 0x0⟩,
  ⟨0x28, 1, 4, 0x0, 0x0, 0x0, 0x0, 0x0⟩,
  ⟨0x2c, 1, 4, 0x3, 0x0, 0x0, 0x0, 0x0⟩,
  ⟨0x30, 16, 4, 0x0, 0x0, 0x0, 0x0, 0x0⟩,
  ⟨0x70, 1, 4, 0x0, 0x0, 0x0, 0x0, 0x0⟩,
  ⟨0x74, 1, 4, 0x1fff, 0x0, 0x0, 0x0, 0x0⟩,
  ⟨0x78, 1, 4, 0x0, 0x0, 0x0, 0x0, 0x0⟩,
  ⟨0x7c, 1, 4, 0x0, 0x0, 0x0, 0x0, 0x0⟩,
  ⟨0x80, 16, 4, 0x0, 0x0, 0x0, 0x0, 0x0⟩,
  ⟨0xc0, 1, 4, 0x0, 0x0, 0x0, 0x0, 0x0⟩,
  ⟨0xc4, 1, 4, 0x0, 0x0, 0x0, 0x0, 0x0⟩,
  ⟨0xc8, 1, 4, 0xffff0001, 0x0, 0x0, 0x0, 0x0⟩]

/-- The block registers of page SYS. -/
def regsSYS : List RegInfo := [
  ⟨0x100, 1, 4, 0x0, 0x0, 0x0, 0x0, 0xff0000⟩,
  ⟨0x104, 1, 4, 0x0, 0x0, 0x0, 0x0, 0xffffffff⟩,
  ⟨0x108, 1, 4, 0x0, 0x0, 0x0, 0x0, 0x0⟩,
  ⟨0x10c, 1, 4, 0x0, 0x0, 0x0, 0x0, 0xff0c⟩,
  ⟨0x110, 1, 4, 0x0, 0x0, 0x0, 0x0, 0x300000⟩,
  ⟨0x114, 1, 4, 0x0, 0x0, 0x0, 0x0, 0x0⟩,
  ⟨0x118, 1, 4, 0x0, 0x0, 0x0, 0x0, 0x0⟩,
  ⟨0x11c, 1, 4, 0x0, 0x0, 0x0, 0x0, 0x0⟩,
  ⟨0x120, 1, 4, 0x0, 0x0, 0x0, 0x0, 0xff00⟩]

/-- The block registers of page PWR. -/
def regsPWR : List RegInfo := [
  ⟨0x14, 1, 4, 0x0, 0x0, 0x0, 0x0, 0x0⟩,
  ⟨0x100, 1, 4, 0x8, 0x0, 0x8, 0x0, 0x0⟩,
  ⟨0x104, 1, 4, 0xfff0000, 0x0, 0x0, 0x0, 0x0⟩,
  ⟨0x108, 1, 4, 0x0, 0x0, 0x0, 0x0, 0x0⟩,
  ⟨0x10c, 1, 4, 0x3, 0x0, 0x0, 0x0, 0x0⟩,
  ⟨0x110, 1, 4, 0xf, 0x0, 0x8, 0x0, 0x0⟩,
  ⟨0x114, 1, 4, 0x3bfa, 0x0, 0x240, 0x0, 0x0⟩,
  ⟨0x118, 1, 4, 0x0, 0x3802, 0x0, 0x0, 0x0⟩,
  ⟨0x11c, 1, 4, 0x0, 0x0, 0x0, 0x0, 0x0⟩,
  ⟨0x120, 1, 4, 0x7f, 0x0, 0x0, 0x0, 0x0⟩,
  ⟨0x124, 1, 4, 0x0, 0x101ff, 0x0, 0x0, 0x0⟩,
  ⟨0x128, 1, 4, 0x3bf8, 0x0, 0x0, 0x0, 0x0⟩,
  ⟨0x12c, 1, 4, 0x1ff00, 0x0, 0x0, 0x0, 0x0⟩,
  ⟨0x130, 1, 4, 0x1, 0x0, 0x0, 0x0, 0x0⟩,
  ⟨0x134, 1, 4, 0x1, 0x4, 0x0, 0x0, 0x0⟩,
  ⟨0x138, 1, 4, 0x0, 0x0, 0x0, 0x0, 0x0⟩]

/-- The block registers of page AON. -/
def regsAON : List RegInfo := [
  ⟨0x100, 1, 4, 0x0, 0x0, 0x0, 0x0, 0x0⟩,
  ⟨0x104, 1, 4, 0x0, 0x0, 0x0, 0x0, 0x0⟩,
  ⟨0x108, 1, 4, 0xffffffff, 0x0, 0x0, 0x0, 0x0⟩,
  ⟨0x10c, 1, 4, 0xffff, 0x0, 0x0, 0x0, 0x0⟩,
  ⟨0x110, 1, 4, 0x3, 0x4, 0x0, 0x0, 0x0⟩,
  ⟨0x114, 1, 4, 0xffffffff, 0x0, 0x0, 0x0, 0x0⟩]

/-- The block registers of page LC. -/
def regsLC : List RegInfo := [
  ⟨0x100, 1, 4, 0x0, 0x0, 0x0, 0x0, 0x0⟩,
  ⟨0x104, 1, 4, 0x0, 0x0, 0x0, 0x0, 0x0⟩,
  ⟨0x108, 1, 4, 0x0, 0x0, 0x0, 0x0, 0x0⟩,
  ⟨0x110, 1, 4, 0x0, 0x0, 0x0, 0x0, 0x0⟩,
  ⟨0x114, 1, 4, 0x0, 0x0, 0x0, 0x0, 0x0⟩,
  ⟨0x118, 1, 4, 0x0, 0x0, 0x0, 0x0, 0x0⟩,
  ⟨0x120, 8, 4, 0x0, 0x0, 0x0, 0x0, 0x0⟩,
  ⟨0x140, 1, 4, 0x0, 0x0, 0x0, 0x0, 0x0⟩,
  ⟨0x160, 8, 4, 0x0, 0x0, 0x0, 0x0, 0x0⟩,
  ⟨0x180, 16, 4, 0x0, 0x0, 0x0, 0x0, 0x0⟩,
  ⟨0x1c0, 16, 4, 0x0, 0x0, 0x0, 0x0, 0x0⟩]

/-- The block registers of page OPT. -/
def regsOPT : List RegInfo := [
  ⟨0x100, 1, 4, 0x0, 0x0, 0x0, 0x0, 0x0⟩,
  ⟨0x104, 1, 4, 0x0, 0x0, 0x0, 0x0, 0x0⟩,
  ⟨0x108, 1, 4, 0x0, 0x0, 0x0, 0x0, 0x0⟩,
  ⟨0x10c, 1, 4, 0x0, 0x0, 0x0, 0x0, 0x0⟩,
  ⟨0x120, 32, 4, 0x0, 0x0, 0x0, 0x0, 0x0⟩,
  ⟨0x1a0, 24, 4, 0x0, 0x0, 0x0, 0x0, 0x0⟩,
  ⟨0x200, 8, 4, 0x0, 0x0, 0x0, 0x0, 0x0⟩,
  ⟨0x220, 16, 4, 0x0, 0x0, 0x0, 0x0, 0x0⟩,
  ⟨0x260, 1, 4, 0x0, 0x0, 0x0, 0x0, 0x0⟩]

/-- The block registers of page FLC. -/
def regsFLC : List RegInfo := [
  ⟨0x10, 1, 4, 0x1, 0x0, 0x0, 0x1, 0x0⟩,
  ⟨0x14, 1, 4, 0x0, 0x0, 0x0, 0x0, 0x0⟩,
  ⟨0x100, 1, 4, 0x0, 0x0, 0x0, 0x0, 0x0⟩,
  ⟨0x104, 1, 4, 0xffffffff, 0x0, 0x0, 0x0, 0x0⟩,
  ⟨0x108, 1, 4, 0x0, 0x0, 0x0, 0x0, 0x0⟩,
  ⟨0x10c, 2, 4, 0xffffffff, 0x0, 0x0, 0xffffffff, 0x0⟩,
  ⟨0x114, 2, 4, 0x0, 0x0, 0x0, 0x0, 0x0⟩,
  ⟨0x11c, 1, 4, 0x0, 0x0, 0x0, 0x0, 0x0⟩,
  ⟨0x120, 1, 4, 0x0, 0x0, 0x0, 0x0, 0x0⟩,
  ⟨0x124, 1, 4, 0x0, 0x0, 0x0, 0x0, 0x0⟩,
  ⟨0x128, 1, 4, 0x0, 0x0, 0x0, 0x0, 0x0⟩,
  ⟨0x200, 128, 4, 0x0, 0x0, 0x0, 0x0, 0x0⟩]

/-- The block registers of page LDG. -/
def regsLDG : List RegInfo := [
  ⟨0x14, 1, 4, 0x0, 0x0, 0x0, 0x0, 0x0⟩,
  ⟨0x100, 1, 4, 0x0, 0x0, 0x0, 0x0, 0x0⟩,
  ⟨0x104, 2, 4, 0xffffffff, 0x0, 0x0, 0x0, 0x0⟩,
  ⟨0x10c, 2, 4, 0x0, 0x0, 0x0, 0x0, 0x0⟩,
  ⟨0x114, 1, 4, 0x0, 0x0, 0x0, 0x0, 0x0⟩,
  ⟨0x118, 1, 4, 0x0, 0x0, 0x0, 0x0, 0x0⟩,
  ⟨0x11c, 1, 4, 0x0, 0x0, 0x0, 0x0, 0x0⟩,
  ⟨0x120, 1, 4, 0x0, 0x0, 0x0, 0x0, 0x0⟩,
  ⟨0x124, 1, 4, 0x0, 0x0, 0x0, 0x0, 0x0⟩,
  ⟨0x128, 1, 4, 0x0, 0x0, 0x0, 0x0, 0x0⟩,
  ⟨0x12c, 1, 4, 0x0, 0x0, 0x0, 0x0, 0x0⟩,
  ⟨0x130, 1, 4, 0x0, 0x0, 0x0, 0x0, 0x0⟩,
  ⟨0x134, 1, 4, 0x0, 0x0, 0x0, 0x0, 0x0⟩]

/-- The block registers of page SMPU. -/
def regsSMPU : List RegInfo := [
  ⟨0x100, 8, 4, 0x1, 0x0, 0x1, 0x1, 0x0⟩,
  ⟨0x120, 1, 4, 0x0, 0x0, 0x0, 0x0, 0x0⟩,
  ⟨0x124, 1, 4, 0x0, 0x0, 0x0, 0x0, 0x0⟩,
  ⟨0x128, 1, 4, 0x0, 0x0, 0x0, 0x0, 0x0⟩,
  ⟨0x12c, 1, 4, 0x0, 0x0, 0x0, 0x0, 0x0⟩,
  ⟨0x140, 8, 4, 0x0, 0x8000, 0x0, 0x0, 0x0⟩,
  ⟨0x160, 8, 4, 0x0, 0x0, 0x0, 0x0, 0x0⟩,
  ⟨0x180, 1, 4, 0x0, 0x0, 0x0, 0x0, 0x0⟩,
  ⟨0x184, 1, 4, 0x0, 0x8000, 0x0, 0x0, 0x0⟩,
  ⟨0x188, 1, 4, 0x0, 0x0, 0x0, 0x0, 0x0⟩,
  ⟨0x18c, 1, 4, 0x0, 0x0, 0x0, 0x0, 0x0⟩,
  ⟨0x190, 1, 4, 0x0, 0x0, 0x0, 0x0, 0x0⟩,
  ⟨0x400, 128, 8, 0xffffffe0, 0x0, 0xffffffe0, 0xffffffe0, 0x0⟩,
  ⟨0x404, 128, 8, 0xff0fff, 0x0, 0xff0fff, 0xff0fff, 0x0⟩]

/-- The block registers of page CPU0. -/
def regsCPU0 : List RegInfo := [
  ⟨0x100, 1, 4, 0x0, 0x0, 0x0, 0x0, 0x0⟩,
  ⟨0x104, 1, 4, 0x0, 0x0, 0x0, 0x0, 0x0⟩,
  ⟨0x108, 1, 4, 0x0, 0x0, 0x0, 0x0, 0x0⟩,
  ⟨0x10c, 1, 4, 0x0, 0x0, 0x0, 0x0, 0x0⟩,
  ⟨0x110, 1, 4, 0x0, 0x0, 0x0, 0x0, 0x0⟩,
  ⟨0x114, 1, 4, 0x0, 0x0, 0x0, 0x0, 0x0⟩,
  ⟨0x118, 1, 4, 0x0, 0x0, 0x0, 0x0, 0x0⟩,
  ⟨0x11c, 1, 4, 0x0, 0x0, 0x0, 0x0, 0x0⟩,
  ⟨0x140, 16, 4, 0x0, 0x0, 0x0, 0x0, 0x0⟩]

/-- The block registers of page CPU1. -/
def regsCPU1 : List RegInfo := [
  ⟨0x100, 1, 4, 0x0, 0x0, 0x0, 0x0, 0x0⟩,
  ⟨0x104, 1, 4, 0x0, 0x0, 0x0, 0x0, 0x0⟩,
  ⟨0x108, 1, 4, 0x0, 0x0, 0x0, 0x0, 0x0⟩,
  ⟨0x10c, 1, 4, 0x0, 0x0, 0x0, 0x0, 0x0⟩,
  ⟨0x110, 1, 4, 0x0, 0x0, 0x0, 0x0, 0x0⟩,
  ⟨0x114, 1, 4, 0x0, 0x0, 0x0, 0x0, 0x0⟩,
  ⟨0x118, 1, 4, 0x0, 0x0, 0x0, 0x0, 0x0⟩,
  ⟨0x11c, 1, 4, 0x0, 0x0, 0x0, 0x0, 0x0⟩,
  ⟨0x140, 16, 4, 0x0, 0x0, 0x0, 0x0, 0x0⟩]

/-- The block registers of page COL. -/
def regsCOL : List RegInfo := [
  ⟨0x14, 1, 4, 0x0, 0x0, 0x0, 0x0, 0x0⟩,
  ⟨0x100, 1, 4, 0xfff1, 0x0, 0xfff1, 0xfff1, 0x0⟩,
  ⟨0x104, 1, 4, 0xffff, 0x0, 0xffff, 0xffff, 0x0⟩,
  ⟨0x108, 1, 4, 0xffffffff, 0x0, 0xffffffff, 0xffffffff, 0x0⟩,
  ⟨0x10c, 1, 4, 0xffff, 0x0, 0xffff, 0xffff, 0x0⟩,
  ⟨0x110, 1, 4, 0x0, 0x0, 0x0, 0x0, 0x0⟩,
  ⟨0x114, 1, 4, 0x0, 0x0, 0x0, 0x0, 0x0⟩,
  ⟨0x118, 1, 4, 0x0, 0x0, 0x0, 0x0, 0x0⟩,
  ⟨0x11c, 1, 4, 0x0, 0x0, 0x0, 0x0, 0x0⟩,
  ⟨0x120, 1, 4, 0x0, 0x0, 0x0, 0x0, 0x0⟩,
  ⟨0x124, 1, 4, 0x0, 0x0, 0x0, 0x0, 0x0⟩,
  ⟨0x128, 1, 4, 0x0, 0x0, 0x0, 0x0, 0x0⟩,
  ⟨0x12c, 1, 4, 0x0, 0x0, 0x0, 0x0, 0x0⟩]

/-- The block registers of page INTC. -/
def regsINTC : List RegInfo := [
  ⟨0x100, 1, 4, 0x0, 0x0, 0x0, 0x0, 0x0⟩,
  ⟨0x104, 1, 4, 0x0, 0x0, 0x0, 0x0, 0x0⟩,
  ⟨0x108, 4, 4, 0x0, 0x0, 0x0, 0x0, 0x0⟩,
  ⟨0x118, 1, 4, 0x0, 0x0, 0x0, 0x0, 0x0⟩,
  ⟨0x11c, 1, 4, 0x0, 0x0, 0x0, 0x0, 0x0⟩,
  ⟨0x120, 1, 4, 0x0, 0x0, 0x0, 0x0, 0x0⟩,
  ⟨0x200, 128, 4, 0xff, 0x600, 0x40, 0x0, 0x0⟩]

/-- The block registers of page CLO. -/
def regsCLO : List RegInfo := [
  ⟨0x100, 32, 4, 0x1f1ff, 0x0, 0x0, 0x1f1ff, 0x0⟩,
  ⟨0x180, 1, 4, 0x0, 0xffffffff, 0x0, 0x0, 0x0⟩,
  ⟨0x184, 1, 4, 0x0, 0x0, 0x0, 0x0, 0x0⟩,
  ⟨0x188, 1, 4, 0x0, 0x0, 0x0, 0x0, 0x0⟩,
  ⟨0x18c, 1, 4, 0x0, 0x0, 0x0, 0x0, 0x0⟩,
  ⟨0x190, 1, 4, 0x0, 0x0, 0x0, 0x0, 0x0⟩,
  ⟨0x194, 1, 4, 0xffff, 0x0, 0x0, 0x0, 0x0⟩,
  ⟨0x198, 1, 4, 0x0, 0x0, 0x0, 0x0, 0x0⟩,
  ⟨0x19c, 1, 4, 0x0, 0x0, 0x0, 0x0, 0x0⟩,
  ⟨0x1a0, 8, 4, 0x0, 0x0, 0x0, 0x0, 0x0⟩,
  ⟨0x1c0, 1, 4, 0x0, 0x0, 0x0, 0x0, 0x0⟩,
  ⟨0x1c4, 1, 4, 0x0, 0x0, 0x0, 0x0, 0x0⟩]

/-- The block registers of page ENT. -/
def regsENT : List RegInfo := [
  ⟨0x10, 1, 4, 0x1, 0x0, 0x6, 0x0, 0x0⟩,
  ⟨0x14, 1, 4, 0x0, 0x0, 0x0, 0x0, 0x0⟩,
  ⟨0x100, 1, 4, 0x0, 0x0, 0x0, 0x0, 0x0⟩,
  ⟨0x104, 1, 4, 0x0, 0x0, 0x0, 0x0, 0x0⟩,
  ⟨0x108, 1, 4, 0x0, 0x0, 0x0, 0x0, 0x0⟩,
  ⟨0x10c, 1, 4, 0x0, 0x0, 0x0, 0x0, 0x0⟩,
  ⟨0x110, 1, 4, 0x0, 0x0, 0x0, 0x0, 0x0⟩]

/-- The block registers of page CRY. -/
def regsCRY : List RegInfo := [
  ⟨0x100, 1, 4, 0x3001ffff, 0x0, 0x0, 0x0, 0x0⟩,
  ⟨0x104, 1, 4, 0xffff, 0x0, 0x0, 0x0, 0x0⟩,
  ⟨0x108, 1, 4, 0x0, 0x0, 0x0, 0x0, 0x0⟩,
  ⟨0x10c, 1, 4, 0x0, 0x0, 0x0, 0x0, 0x0⟩,
  ⟨0x110, 1, 4, 0x0, 0x0, 0x0, 0x0, 0x0⟩,
  ⟨0x114, 1, 4, 0x3f, 0x0, 0x0, 0x3f, 0x0⟩,
  ⟨0x118, 1, 4, 0x0, 0x0, 0x0, 0x0, 0x0⟩,
  ⟨0x11c, 1, 4, 0x0, 0x0, 0x0, 0x0, 0x0⟩]

/-- The block registers of page KEY. -/
def regsKEY : List RegInfo := [
  ⟨0x10, 1, 4, 0x0, 0x0, 0x0, 0x0, 0x0⟩,
  ⟨0x14, 1, 4, 0x0, 0x0, 0x0, 0x0, 0x0⟩,
  ⟨0x100, 64, 4, 0x0, 0x0, 0x0, 0x0, 0x0⟩]

/-- The block registers of page TRL. -/
def regsTRL : List RegInfo := [
  ⟨0x100, 1, 4, 0xffff, 0x0, 0x0, 0x0, 0x0⟩,
  ⟨0x104, 3, 4, 0x0, 0x0, 0x0, 0x0, 0x0⟩,
  ⟨0x110, 3, 4, 0x0, 0x0, 0x0, 0x0, 0x0⟩,
  ⟨0x11c, 1, 4, 0x0, 0x0, 0x0, 0x0, 0x0⟩,
  ⟨0x120, 1, 4, 0x0, 0x0, 0x0, 0x0, 0x0⟩,
  ⟨0x124, 1, 4, 0x0, 0x0, 0x0, 0x0, 0x0⟩,
  ⟨0x128, 1, 4, 0x0, 0x0, 0x0, 0x0, 0x0⟩,
  ⟨0x12c, 1, 4, 0x0, 0x0, 0x0, 0x0, 0x0⟩]

/-- The block registers of page RING. -/
def regsRING : List RegInfo := [
  ⟨0x100, 96, 32, 0x1fff7f, 0x0, 0x40, 0x0, 0x0⟩,
  ⟨0x104, 96, 32, 0xffffffff, 0x0, 0x0, 0x0, 0x0⟩,
  ⟨0x108, 96, 32, 0xffffffff, 0x0, 0x0, 0x0, 0x0⟩,
  ⟨0x10c, 96, 32, 0xffffffff, 0x0, 0x0, 0x0, 0x0⟩,
  ⟨0x110, 96, 32, 0xffff, 0x0, 0x0, 0x0, 0x0⟩,
  ⟨0x114, 96, 32, 0x0, 0x0, 0x0, 0x0, 0x0⟩,
  ⟨0x118, 96, 32, 0x0, 0x0, 0x0, 0x0, 0x0⟩,
  ⟨0x11c, 96, 32, 0x0, 0x0, 0x0, 0x0, 0x0⟩,
  ⟨0xd00, 32, 8, 0x3ffffff, 0x0, 0x1000000, 0x0, 0x0⟩,
  ⟨0xd04, 32, 8, 0x0, 0x100, 0x0, 0x0, 0x0⟩,
  ⟨0xe00, 4, 4, 0xffffffff, 0x0, 0x0, 0x0, 0x0⟩]

/-- The block registers of page RDL. -/
def regsRDL : List RegInfo := [
  ⟨0x10, 1, 4, 0x1, 0x0, 0x0, 0x0, 0x0⟩,
  ⟨0x100, 3, 4, 0xffffffff, 0x0, 0x0, 0x0, 0x0⟩,
  ⟨0x10c, 1, 4, 0x3ff0, 0x0, 0x0, 0x0, 0x0⟩,
  ⟨0x110, 1, 4, 0xffffffff, 0x0, 0xffffffff, 0x0, 0x0⟩,
  ⟨0x114, 2, 4, 0x1fff, 0x0, 0x0, 0x0, 0x0⟩,
  ⟨0x120, 3, 16, 0x0, 0x0, 0x0, 0x0, 0x0⟩,
  ⟨0x124, 3, 16, 0x0, 0x0, 0x0, 0x0, 0x0⟩,
  ⟨0x128, 3, 16, 0x0, 0x0, 0x0, 0x0, 0x0⟩,
  ⟨0x12c, 3, 16, 0x0, 0x0, 0x0, 0x0, 0x0⟩,
  ⟨0x150, 1, 4, 0x0, 0x0, 0x0, 0x0, 0x0⟩]

/-- The block registers of page RDLT. -/
def regsRDLT : List RegInfo := [
  ⟨0x100, 1, 4, 0xff, 0x0, 0x0, 0x0, 0x0⟩,
  ⟨0x104, 5, 4, 0xffffffff, 0x0, 0x0, 0x0, 0x0⟩,
  ⟨0x118, 5, 4, 0xffffffff, 0x0, 0x0, 0x0, 0x0⟩,
  ⟨0x12c, 1, 4, 0xffffffff, 0x0, 0x0, 0x0, 0x0⟩,
  ⟨0x130, 1, 4, 0x0, 0x0, 0x0, 0x0, 0x0⟩,
  ⟨0x134, 1, 4, 0x0, 0x0, 0x0, 0x0, 0x0⟩,
  ⟨0x140, 4, 4, 0x0, 0x0, 0x0, 0x0, 0x0⟩,
  ⟨0x200, 64, 4, 0x0, 0x0, 0x0, 0x0, 0x0⟩]

/-- The block registers of page ETH0. -/
def regsETH0 : List RegInfo := [
  ⟨0x10, 1, 4, 0x7f, 0x0, 0x0, 0x0, 0x0⟩,
  ⟨0x14, 1, 4, 0x0, 0x0, 0x0, 0x0, 0x0⟩,
  ⟨0x100, 1, 4, 0xffff, 0x0, 0x0, 0x0, 0x0⟩,
  ⟨0x104, 1, 4, 0xffffffff, 0x0, 0x0, 0x0, 0x0⟩,
  ⟨0x108, 1, 4, 0x0, 0x0, 0x0, 0x0, 0x0⟩,
  ⟨0x10c, 1, 4, 0x0, 0x0, 0x0, 0x0, 0x0⟩,
  ⟨0x110, 1, 4, 0x0, 0x0, 0x0, 0x0, 0x0⟩,
  ⟨0x114, 1, 4, 0x0, 0x0, 0x0, 0x0, 0x0⟩,
  ⟨0x118, 1, 4, 0x0, 0x0, 0x0, 0x0, 0x0⟩,
  ⟨0x11c, 1, 4, 0x0, 0x0, 0x0, 0x0, 0x0⟩,
  ⟨0x120, 1, 4, 0x0, 0x0, 0x0, 0x0, 0x0⟩,
  ⟨0x124, 1, 4, 0xff1f, 0x0, 0x0, 0x0, 0x0⟩,
  ⟨0x140, 1, 4, 0x0, 0x0, 0x0, 0x0, 0x0⟩,
  ⟨0x144, 1, 4, 0x0, 0x0, 0x0, 0x0, 0x0⟩]

/-- The block registers of page ETH1. -/
def regsETH1 : List RegInfo := [
  ⟨0x10, 1, 4, 0x7f, 0x0, 0x0, 0x0, 0x0⟩,
  ⟨0x14, 1, 4, 0x0, 0x0, 0x0, 0x0, 0x0⟩,
  ⟨0x100, 1, 4, 0xffff, 0x0, 0x0, 0x0, 0x0⟩,
  ⟨0x104, 1, 4, 0xffffffff, 0x0, 0x0, 0x0, 0x0⟩,
  ⟨0x108, 1, 4, 0x0, 0x0, 0x0, 0x0, 0x0⟩,
  ⟨0x10c, 1, 4, 0x0, 0x0, 0x0, 0x0, 0x0⟩,
  ⟨0x110, 1, 4, 0x0, 0x0, 0x0, 0x0, 0x0⟩,
  ⟨0x114, 1, 4, 0x0, 0x0, 0x0, 0x0, 0x0⟩,
  ⟨0x118, 1, 4, 0x0, 0x0, 0x0, 0x0, 0x0⟩,
  ⟨0x11c, 1, 4, 0x0, 0x0, 0x0, 0x0, 0x0⟩,
  ⟨0x120, 1, 4, 0x0, 0x0, 0x0, 0x0, 0x0⟩,
  ⟨0x124, 1, 4, 0xff1f, 0x0, 0x0, 0x0, 0x0⟩]

/-- The block registers of page RLP. -/
def regsRLP : List RegInfo := [
  ⟨0x10, 1, 4, 0xff1f07, 0x0, 0x0, 0x0, 0x0⟩,
  ⟨0x14, 1, 4, 0x0, 0x0, 0x0, 0x0, 0x0⟩,
  ⟨0x100, 1, 4, 0xffff, 0x0, 0x0, 0xffff, 0x0⟩,
  ⟨0x104, 1, 4, 0x1ffff, 0x0, 0x0, 0x1ffff, 0x0⟩,
  ⟨0x108, 1, 4, 0xffffff, 0x0, 0x0, 0xffffff, 0x0⟩,
  ⟨0x10c, 1, 4, 0xffffffff, 0x0, 0x0, 0xffffffff, 0x0⟩,
  ⟨0x110, 1, 4, 0xfffffff3, 0x0, 0x0, 0xfffffff3, 0x0⟩,
  ⟨0x114, 1, 4, 0x0, 0x0, 0x0, 0x0, 0x0⟩,
  ⟨0x118, 1, 4, 0x0, 0x0, 0x0, 0x0, 0x0⟩,
  ⟨0x11c, 1, 4, 0x0, 0x0, 0x0, 0x0, 0x0⟩,
  ⟨0x120, 1, 4, 0x0, 0x0, 0x0, 0x0, 0x0⟩,
  ⟨0x124, 1, 4, 0x0, 0x0, 0x0, 0x0, 0x0⟩,
  ⟨0x128, 1, 4, 0x0, 0x0, 0x0, 0x0, 0x0⟩,
  ⟨0x12c, 1, 4, 0x0, 0x0, 0x0, 0x0, 0x0⟩,
  ⟨0x130, 1, 4, 0x0, 0x0, 0x0, 0x0, 0x0⟩,
  ⟨0x134, 1, 4, 0x0, 0x0, 0x0, 0x0, 0x0⟩,
  ⟨0x138, 1, 4, 0xff, 0x0, 0x0, 0x0, 0x0⟩,
  ⟨0x13c, 1, 4, 0x0, 0x0, 0x0, 0x0, 0x0⟩,
  ⟨0x800, 1, 4, 0x7, 0x0, 0x0, 0x7, 0x0⟩,
  ⟨0x804, 2, 4, 0x3ff, 0x0, 0x0, 0x3ff, 0x0⟩,
  ⟨0x80c, 1, 4, 0xff0f, 0x0, 0x0, 0xff0f, 0x0⟩,
  ⟨0x810, 1, 4, 0x0, 0x0, 0x0, 0x0, 0x0⟩,
  ⟨0x814, 1, 4, 0x0, 0x0, 0x0, 0x0, 0x0⟩,
  ⟨0x818, 1, 4, 0x0, 0x0, 0x0, 0x0, 0x0⟩,
  ⟨0x820, 8, 4, 0x0, 0x0, 0x0, 0x0, 0x0⟩,
  ⟨0x840, 1, 4, 0x0, 0x0, 0x0, 0x0, 0x0⟩,
  ⟨0x900, 16, 32, 0xffffffff, 0x0, 0x0, 0xffffffff, 0x0⟩,
  ⟨0x904, 16, 32, 0xffffffff, 0x0, 0x0, 0xffffffff, 0x0⟩,
  ⟨0x908, 16, 32, 0xffffffff, 0x0, 0x0, 0xffffffff, 0x0⟩,
  ⟨0x90c, 16, 32, 0xffffffff, 0x0, 0x0, 0xffffffff, 0x0⟩,
  ⟨0x910, 16, 32, 0xffffffff, 0x0, 0x0, 0xffffffff, 0x0⟩,
  ⟨0x914, 16, 32, 0xffffffff, 0x0, 0x0, 0xffffffff, 0x0⟩,
  ⟨0x918, 16, 32, 0x7, 0x0, 0x0, 0x7, 0x0⟩]

/-- The block registers of page GCB. -/
def regsGCB : List RegInfo := [
  ⟨0x10, 1, 4, 0x3, 0x0, 0x0, 0x0, 0x0⟩,
  ⟨0x14, 1, 4, 0x0, 0x0, 0x0, 0x0, 0x0⟩,
  ⟨0x100, 1, 4, 0x0, 0x0, 0x0, 0x0, 0x0⟩,
  ⟨0x104, 1, 4, 0x0, 0x0, 0x0, 0x0, 0x0⟩,
  ⟨0x108, 1, 4, 0x0, 0x0, 0x0, 0x0, 0x0⟩,
  ⟨0x10c, 1, 4, 0xffff00ff, 0x0, 0x0, 0x0, 0x0⟩,
  ⟨0x110, 1, 4, 0x0, 0x0, 0x0, 0x0, 0x0⟩,
  ⟨0x114, 1, 4, 0x0, 0x0, 0x0, 0x0, 0x0⟩,
  ⟨0x118, 1, 4, 0x0, 0x0, 0x0, 0x0, 0x0⟩]

/-- The block registers of page HLK. -/
def regsHLK : List RegInfo := [
  ⟨0x10, 1, 4, 0xff07, 0x0, 0x0, 0x0, 0x0⟩,
  ⟨0x14, 1, 4, 0x0, 0x0, 0x0, 0x0, 0x0⟩,
  ⟨0x100, 1, 4, 0xff, 0x0, 0x0, 0x0, 0x0⟩,
  ⟨0x104, 1, 4, 0x0, 0x0, 0x0, 0x0, 0x0⟩,
  ⟨0x108, 1, 4, 0x0, 0x0, 0x0, 0x0, 0x0⟩,
  ⟨0x10c, 2, 4, 0x0, 0x0, 0x0, 0x0, 0x0⟩,
  ⟨0x114, 1, 4, 0x0, 0x0, 0x0, 0x0, 0x0⟩,
  ⟨0x118, 2, 4, 0x0, 0x0, 0x0, 0x0, 0x0⟩,
  ⟨0x120, 1, 4, 0xf00, 0x0, 0x0, 0x0, 0x0⟩,
  ⟨0x124, 1, 4, 0x0, 0x0, 0x0, 0x0, 0x0⟩,
  ⟨0x128, 1, 4, 0x0, 0x0, 0x0, 0x0, 0x0⟩,
  ⟨0x12c, 1, 4, 0x0, 0x0, 0x0, 0x0, 0x0⟩,
  ⟨0x130, 1, 4, 0x0, 0x0, 0x0, 0x0, 0x0⟩,
  ⟨0x134, 1, 4, 0x0, 0x0, 0x0, 0x0, 0x0⟩]

/-- The block registers of page MGP. -/
def regsMGP : List RegInfo := [
  ⟨0x10, 1, 4, 0x1, 0x0, 0x0, 0x0, 0x0⟩,
  ⟨0x14, 1, 4, 0x0, 0x0, 0x0, 0x0, 0x0⟩,
  ⟨0x100, 1, 4, 0x0, 0x0, 0x0, 0x0, 0x0⟩,
  ⟨0x104, 4, 4, 0x0, 0x0, 0x0, 0x0, 0x0⟩,
  ⟨0x114, 2, 4, 0xffffffff, 0x0, 0x0, 0x0, 0xffffffff⟩,
  ⟨0x11c, 1, 4, 0x0, 0x0, 0x0, 0x0, 0x0⟩,
  ⟨0x120, 1, 4, 0x0, 0x0, 0x0, 0x0, 0x0⟩,
  ⟨0x124, 1, 4, 0x0, 0x0, 0x0, 0x0, 0x0⟩,
  ⟨0x128, 1, 4, 0x0, 0xff, 0x0, 0x0, 0x0⟩,
  ⟨0x12c, 1, 4, 0x0, 0x0, 0x0, 0x0, 0x0⟩,
  ⟨0x140, 16, 4, 0x0, 0x0, 0x0, 0x0, 0x0⟩,
  ⟨0x180, 1, 4, 0x0, 0x0, 0x0, 0x0, 0x0⟩,
  ⟨0x1c0, 16, 4, 0xffffffff, 0x0, 0x0, 0x0, 0x0⟩,
  ⟨0x200, 1, 4, 0xff00, 0x0, 0x0, 0x0, 0x0⟩,
  ⟨0x240, 1, 4, 0xff3f, 0x0, 0x0, 0x0, 0x0⟩,
  ⟨0x244, 1, 4, 0x3f3f7f, 0x0, 0x0, 0x0, 0x0⟩,
  ⟨0x250, 8, 4, 0xffffffff, 0x0, 0x0, 0x0, 0x0⟩,
  ⟨0x270, 8, 4, 0x0, 0x0, 0x0, 0x0, 0x0⟩,
  ⟨0x290, 1, 4, 0x0, 0x0, 0x0, 0x0, 0x0⟩,
  ⟨0x294, 1, 4, 0x0, 0x0, 0x0, 0x0, 0x0⟩,
  ⟨0x298, 1, 4, 0x0, 0x0, 0x0, 0x0, 0x0⟩]

/-- The block registers of page GPIO. -/
def regsGPIO : List RegInfo := [
  ⟨0x100, 1, 4, 0xfff, 0x0, 0x0, 0x0, 0x0⟩,
  ⟨0x104, 1, 4, 0xfff, 0x0, 0x0, 0x0, 0x0⟩,
  ⟨0x108, 1, 4, 0x0, 0x0, 0x0, 0x0, 0x0⟩,
  ⟨0x10c, 1, 4, 0x0, 0x0, 0x0, 0x0, 0x0⟩,
  ⟨0x110, 1, 4, 0x0, 0x0, 0x0, 0x0, 0x0⟩,
  ⟨0x114, 1, 4, 0xffffff, 0x0, 0x0, 0x0, 0x0⟩,
  ⟨0x118, 1, 4, 0xfff, 0x0, 0x0, 0x0, 0x0⟩,
  ⟨0x11c, 1, 4, 0xffffff, 0x0, 0x0, 0x0, 0x0⟩,
  ⟨0x120, 1, 4, 0xf, 0x0, 0x0, 0x0, 0x0⟩,
  ⟨0x124, 1, 4, 0xfff, 0x0, 0x0, 0x0, 0x0⟩]

/-- The block registers of page ADC. -/
def regsADC : List RegInfo := [
  ⟨0x10, 1, 4, 0x75, 0x0, 0x0, 0x0, 0x0⟩,
  ⟨0x14, 1, 4, 0x0, 0x0, 0x0, 0x0, 0x0⟩,
  ⟨0x100, 1, 4, 0xf, 0x0, 0x0, 0x0, 0x0⟩,
  ⟨0x104, 1, 4, 0x0, 0x0, 0x0, 0x0, 0x0⟩,
  ⟨0x108, 4, 4, 0x0, 0x0, 0x0, 0x0, 0x0⟩,
  ⟨0x118, 1, 4, 0xfff0fff, 0x0, 0x0, 0x0, 0x0⟩,
  ⟨0x11c, 1, 4, 0x0, 0x0, 0x0, 0x0, 0x0⟩]

/-- The block registers of page TMR. -/
def regsTMR : List RegInfo := [
  ⟨0x100, 2, 16, 0xff01, 0x0, 0x0, 0xff01, 0x0⟩,
  ⟨0x104, 2, 16, 0xffffff, 0x0, 0x0, 0xffffff, 0x0⟩,
  ⟨0x108, 3, 16, 0x0, 0x0, 0x0, 0x0, 0x0⟩,
  ⟨0x10c, 3, 16, 0x0, 0x0, 0x0, 0x0, 0x0⟩,
  ⟨0x120, 1, 16, 0xff01, 0x0, 0xff01, 0xff01, 0x0⟩,
  ⟨0x124, 1, 16, 0xffffff, 0x0, 0xffffff, 0xffffff, 0x0⟩,
  ⟨0x140, 4, 16, 0x7, 0x0, 0x0, 0x0, 0x0⟩,
  ⟨0x144, 4, 16, 0xffffffff, 0x0, 0x0, 0x0, 0x0⟩,
  ⟨0x148, 4, 16, 0x0, 0x0, 0x0, 0x0, 0x0⟩,
  ⟨0x14c, 4, 16, 0x0, 0x0, 0x0, 0x0, 0x0⟩]

/-- The block registers of page SNAP. -/
def regsSNAP : List RegInfo := [
  ⟨0x100, 1, 4, 0x0, 0x0, 0x0, 0x0, 0x0⟩,
  ⟨0x104, 1, 4, 0x1f07fc, 0x0, 0x0, 0x0, 0x0⟩,
  ⟨0x108, 1, 4, 0x0, 0x0, 0x0, 0x0, 0x0⟩,
  ⟨0x10c, 1, 4, 0x0, 0xffffffff, 0x0, 0x0, 0x0⟩,
  ⟨0x110, 1, 4, 0x3ff0001, 0x0, 0x0, 0x0, 0x0⟩,
  ⟨0x114, 1, 4, 0x0, 0x0, 0x0, 0x0, 0x0⟩,
  ⟨0x118, 1, 4, 0xff, 0x0, 0x0, 0x0, 0x0⟩,
  ⟨0x11c, 1, 4, 0x0, 0x0, 0x0, 0x0, 0x0⟩,
  ⟨0x180, 1, 4, 0x7, 0x0, 0x0, 0x0, 0x0⟩,
  ⟨0x184, 1, 4, 0x0, 0x0, 0x0, 0x0, 0x0⟩,
  ⟨0x188, 1, 4, 0x0, 0x0, 0x0, 0x0, 0x0⟩]

/-- The block registers of page TRC. -/
def regsTRC : List RegInfo := [
  ⟨0x10, 1, 4, 0x1ff, 0x0, 0x8, 0x0, 0x0⟩,
  ⟨0x14, 1, 4, 0x0, 0x0, 0x0, 0x0, 0x0⟩,
  ⟨0x100, 1, 4, 0x0, 0x0, 0x0, 0x0, 0x0⟩,
  ⟨0x104, 1, 4, 0x0, 0x0, 0x0, 0x0, 0x0⟩,
  ⟨0x108, 1, 4, 0x0, 0x0, 0x0, 0x0, 0x0⟩,
  ⟨0x10c, 1, 4, 0x7f7f, 0x0, 0x0, 0x0, 0x0⟩]

/-- The block registers of page PRB. -/
def regsPRB : List RegInfo := [
  ⟨0x14, 1, 4, 0x0, 0x0, 0x0, 0x0, 0x0⟩,
  ⟨0x100, 1, 4, 0x0, 0x0, 0x0, 0x0, 0x0⟩,
  ⟨0x104, 1, 4, 0x0, 0x0, 0x0, 0x0, 0x0⟩]

/-- The block registers of page `p`, in the order of R19. -/
def pageRegs (p : Nat) : List RegInfo :=
  match p with
  | 0 => regsSYS
  | 1 => regsPWR
  | 2 => regsAON
  | 3 => regsLC
  | 4 => regsOPT
  | 5 => regsFLC
  | 6 => regsLDG
  | 7 => regsSMPU
  | 8 => regsCPU0
  | 9 => regsCPU1
  | 10 => regsCOL
  | 11 => regsINTC
  | 12 => regsCLO
  | 13 => regsENT
  | 14 => regsCRY
  | 15 => regsKEY
  | 16 => regsTRL
  | 17 => regsRING
  | 18 => regsRDL
  | 19 => regsRDLT
  | 20 => regsETH0
  | 21 => regsETH1
  | 22 => regsRLP
  | 23 => regsGCB
  | 24 => regsHLK
  | 25 => regsMGP
  | 26 => regsGPIO
  | 27 => regsADC
  | 28 => regsTMR
  | 29 => regsSNAP
  | 30 => regsTRC
  | 31 => regsPRB
  | _ => []

def resetRegs0 : List (Nat × Word) := [
  (0x40000008, 0x2), (0x40000078, 0xffffffff), (0x40000100, 0x1), (0x4000010c, 0x1),
  (0x40001078, 0xffffffff), (0x40001100, 0x1), (0x40001104, 0x9600000), (0x40001108, 0xf0f),
  (0x40001114, 0xd500d5), (0x40001128, 0x1d4), (0x4000112c, 0x18000), (0x40002008, 0x2),
  (0x40002078, 0xffffffff), (0x40002114, 0x8000), (0x40003008, 0x2), (0x40003078, 0xffffffff),
  (0x40004008, 0x1), (0x40004078, 0xffffffff), (0x40004100, 0x2), (0x4000410c, 0x3f201f00),
  (0x40005008, 0x2), (0x40005010, 0x1), (0x40005078, 0xffffffff), (0x40006008, 0x2),
  (0x40006078, 0xffffffff), (0x40007008, 0x1), (0x40007078, 0xffffffff), (0x40007108, 0x1),
  (0x4000710c, 0x1), (0x40007110, 0x1), (0x40007114, 0x1), (0x4000711c, 0x1),
  (0x40007128, 0xfc), (0x40008008, 0x2), (0x40008078, 0xffffffff), (0x40008118, 0xffffffff),
  (0x4000811c, 0xffffffff), (0x40009008, 0x2), (0x40009078, 0xffffffff), (0x40009118, 0xffffffff)]

def resetRegs1 : List (Nat × Word) := [
  (0x4000911c, 0xffffffff), (0x4000a008, 0x1), (0x4000a078, 0xffffffff), (0x4000a100, 0x300),
  (0x4000a104, 0x3e8), (0x4000a108, 0xc350c35), (0x4000a10c, 0x64), (0x4000b078, 0xffffffff),
  (0x4000b200, 0x10), (0x4000b204, 0x10), (0x4000b208, 0x10), (0x4000b20c, 0x10),
  (0x4000b210, 0x10), (0x4000b214, 0x10), (0x4000b218, 0x10), (0x4000b21c, 0x10),
  (0x4000b220, 0x10), (0x4000b224, 0x10), (0x4000b228, 0x10), (0x4000b22c, 0x10),
  (0x4000b230, 0x10), (0x4000b234, 0x10), (0x4000b238, 0x10), (0x4000b23c, 0x10),
  (0x4000b240, 0x10), (0x4000b244, 0x10), (0x4000b248, 0x10), (0x4000b24c, 0x10),
  (0x4000b250, 0x10), (0x4000b254, 0x10), (0x4000b258, 0x10), (0x4000b25c, 0x10),
  (0x4000b260, 0x10), (0x4000b264, 0x10), (0x4000b268, 0x10), (0x4000b26c, 0x10),
  (0x4000b270, 0x10), (0x4000b274, 0x10), (0x4000b278, 0x10), (0x4000b27c, 0x10)]

def resetRegs2 : List (Nat × Word) := [
  (0x4000b280, 0x10), (0x4000b284, 0x10), (0x4000b288, 0x10), (0x4000b28c, 0x10),
  (0x4000b290, 0x10), (0x4000b294, 0x10), (0x4000b298, 0x10), (0x4000b29c, 0x10),
  (0x4000b2a0, 0x10), (0x4000b2a4, 0x10), (0x4000b2a8, 0x10), (0x4000b2ac, 0x10),
  (0x4000b2b0, 0x10), (0x4000b2b4, 0x10), (0x4000b2b8, 0x10), (0x4000b2bc, 0x10),
  (0x4000b2c0, 0x10), (0x4000b2c4, 0x10), (0x4000b2c8, 0x10), (0x4000b2cc, 0x10),
  (0x4000b2d0, 0x10), (0x4000b2d4, 0x10), (0x4000b2d8, 0x10), (0x4000b2dc, 0x10),
  (0x4000b2e0, 0x10), (0x4000b2e4, 0x10), (0x4000b2e8, 0x10), (0x4000b2ec, 0x10),
  (0x4000b2f0, 0x10), (0x4000b2f4, 0x10), (0x4000b2f8, 0x10), (0x4000b2fc, 0x10),
  (0x4000b300, 0x10), (0x4000b304, 0x10), (0x4000b308, 0x5d), (0x4000b30c, 0x10),
  (0x4000b310, 0x1d), (0x4000b314, 0x5d), (0x4000b318, 0x10), (0x4000b320, 0x10)]

def resetRegs3 : List (Nat × Word) := [
  (0x4000b324, 0x10), (0x4000b328, 0x10), (0x4000b32c, 0x10), (0x4000b330, 0x10),
  (0x4000b334, 0x10), (0x4000b338, 0x10), (0x4000b33c, 0x10), (0x4000c008, 0x2),
  (0x4000c078, 0xffffffff), (0x4000c100, 0x12015), (0x4000c104, 0x12015), (0x4000c108, 0x12051),
  (0x4000c10c, 0x12015), (0x4000c110, 0x12015), (0x4000c114, 0x12051), (0x4000c118, 0x12015),
  (0x4000c11c, 0x12015), (0x4000c120, 0x12051), (0x4000c124, 0x12015), (0x4000c128, 0x12015),
  (0x4000c12c, 0x12051), (0x4000c130, 0x12015), (0x4000c134, 0x12015), (0x4000c138, 0x12051),
  (0x4000c13c, 0x10005), (0x4000c140, 0x10051), (0x4000c144, 0x10003), (0x4000c148, 0x10003),
  (0x4000c14c, 0x10007), (0x4000c150, 0x10015), (0x4000c154, 0x10015), (0x4000c158, 0x100d1),
  (0x4000c15c, 0x10051), (0x4000c160, 0x10051), (0x4000c164, 0x10051), (0x4000c168, 0x10031),
  (0x4000c16c, 0x10031), (0x4000c170, 0x10005), (0x4000c174, 0x10005), (0x4000c178, 0x10001)]

def resetRegs4 : List (Nat × Word) := [
  (0x4000c17c, 0x10005), (0x4000c194, 0xec2), (0x4000d078, 0xffffffff), (0x4000e008, 0x1),
  (0x4000e078, 0xffffffff), (0x4000e100, 0x1030), (0x4000e104, 0x1008), (0x4000e114, 0x7),
  (0x4000f008, 0x1), (0x4000f078, 0xffffffff), (0x4000f100, 0x4000), (0x4000f104, 0x4000),
  (0x4000f108, 0x4000), (0x4000f10c, 0x4000), (0x4000f110, 0x4000), (0x4000f114, 0x4000),
  (0x4000f118, 0x4000), (0x4000f11c, 0x4000), (0x4000f120, 0x4000), (0x4000f124, 0x4000),
  (0x4000f128, 0x4000), (0x4000f12c, 0x4000), (0x4000f130, 0x4000), (0x4000f134, 0x4000),
  (0x4000f138, 0x4000), (0x4000f13c, 0x4000), (0x4000f140, 0x4000), (0x4000f144, 0x4000),
  (0x4000f148, 0x4000), (0x4000f14c, 0x4000), (0x4000f150, 0x4000), (0x4000f154, 0x4000),
  (0x4000f158, 0x4000), (0x4000f15c, 0x4000), (0x4000f160, 0x4000), (0x4000f164, 0x4000),
  (0x4000f168, 0x4000), (0x4000f16c, 0x4000), (0x4000f170, 0x4000), (0x4000f174, 0x4000)]

def resetRegs5 : List (Nat × Word) := [
  (0x4000f178, 0x4000), (0x4000f17c, 0x4000), (0x4000f180, 0x4000), (0x4000f184, 0x4000),
  (0x4000f188, 0x4000), (0x4000f18c, 0x4000), (0x4000f190, 0x4000), (0x4000f194, 0x4000),
  (0x4000f198, 0x4000), (0x4000f19c, 0x4000), (0x4000f1a0, 0x4000), (0x4000f1a4, 0x4000),
  (0x4000f1a8, 0x4000), (0x4000f1ac, 0x4000), (0x4000f1b0, 0x4000), (0x4000f1b4, 0x4000),
  (0x4000f1b8, 0x4000), (0x4000f1bc, 0x4000), (0x4000f1c0, 0x4000), (0x4000f1c4, 0x4000),
  (0x4000f1c8, 0x4000), (0x4000f1cc, 0x4000), (0x4000f1d0, 0x4000), (0x4000f1d4, 0x4000),
  (0x4000f1d8, 0x4000), (0x4000f1dc, 0x4000), (0x4000f1e0, 0x4000), (0x4000f1e4, 0x4000),
  (0x4000f1e8, 0x4000), (0x4000f1ec, 0x4000), (0x4000f1f0, 0x4000), (0x4000f1f4, 0x4000),
  (0x4000f1f8, 0x4000), (0x4000f1fc, 0x4000), (0x40010008, 0x2), (0x40010078, 0xffffffff),
  (0x40010100, 0x32), (0x40011078, 0xffffffff), (0x40011100, 0x20123), (0x40011120, 0x20123)]

def resetRegs6 : List (Nat × Word) := [
  (0x40011140, 0x20123), (0x40011160, 0x20123), (0x40011180, 0x21123), (0x400111a0, 0x21123),
  (0x400111c0, 0x21123), (0x400111e0, 0x21123), (0x40011200, 0x22223), (0x40011220, 0x22223),
  (0x40011240, 0x22223), (0x40011260, 0x22223), (0x40011280, 0x23323), (0x400112a0, 0x23323),
  (0x400112c0, 0x23323), (0x400112e0, 0x23323), (0x40011300, 0x24323), (0x40011320, 0x24323),
  (0x40011340, 0x24323), (0x40011360, 0x24323), (0x40011380, 0x25423), (0x400113a0, 0x25423),
  (0x400113c0, 0x25423), (0x400113e0, 0x25423), (0x40011400, 0x26503), (0x40011420, 0x26503),
  (0x40011440, 0x26503), (0x40011460, 0x26503), (0x40011480, 0x27603), (0x400114a0, 0x27603),
  (0x400114c0, 0x27733), (0x400114e0, 0x27733), (0x40011500, 0x28843), (0x40011520, 0x28853),
  (0x40011540, 0x28853), (0x40011560, 0x28853), (0x40011580, 0x29853), (0x400115a0, 0x29853),
  (0x400115c0, 0x29853), (0x400115e0, 0x29853), (0x40011600, 0x2a823), (0x40011620, 0x2a823)]

def resetRegs7 : List (Nat × Word) := [
  (0x40011640, 0x2a823), (0x40011660, 0x2a823), (0x40011680, 0x2b823), (0x400116a0, 0x2b823),
  (0x400116c0, 0x2b823), (0x400116e0, 0x2b823), (0x40011700, 0x2c913), (0x40011720, 0x2c913),
  (0x40011740, 0x2c913), (0x40011760, 0x2c913), (0x40011780, 0x2d913), (0x400117a0, 0x2d913),
  (0x400117c0, 0x2d913), (0x400117e0, 0x2d913), (0x40011800, 0x2ea23), (0x40011820, 0x2ea23),
  (0x40011840, 0x2ea23), (0x40011860, 0x2ea23), (0x40011880, 0x2fa23), (0x400118a0, 0x2fa23),
  (0x400118c0, 0x2fa23), (0x400118e0, 0x2fa23), (0x40011900, 0x30033), (0x40011920, 0x30033),
  (0x40011940, 0x30033), (0x40011960, 0x30033), (0x40011980, 0x31033), (0x400119a0, 0x31033),
  (0x400119c0, 0x31033), (0x400119e0, 0x31033), (0x40011a00, 0x32033), (0x40011a20, 0x32033),
  (0x40011a40, 0x32033), (0x40011a60, 0x32033), (0x40011a80, 0x33033), (0x40011aa0, 0x33033),
  (0x40011ac0, 0x33033), (0x40011ae0, 0x33033), (0x40011b00, 0x34033), (0x40011b20, 0x34033)]

def resetRegs8 : List (Nat × Word) := [
  (0x40011b40, 0x34033), (0x40011b60, 0x34033), (0x40011b80, 0x35033), (0x40011ba0, 0x35033),
  (0x40011bc0, 0x35033), (0x40011be0, 0x35033), (0x40011c00, 0x36033), (0x40011c20, 0x36033),
  (0x40011c40, 0x36033), (0x40011c60, 0x36033), (0x40011c80, 0x37033), (0x40011ca0, 0x37033),
  (0x40011cc0, 0x37033), (0x40011ce0, 0x37033), (0x40011d00, 0x1), (0x40011d08, 0x1),
  (0x40011d10, 0x1), (0x40011d18, 0x1), (0x40011d20, 0x1), (0x40011d28, 0x1),
  (0x40011d30, 0x1), (0x40011d38, 0x1), (0x40011d40, 0x1000001), (0x40011d48, 0x1000001),
  (0x40011d50, 0x1), (0x40011d58, 0x1), (0x40011d60, 0x1), (0x40011d68, 0x1),
  (0x40011d70, 0x1), (0x40011d78, 0x1), (0x40011d80, 0x1), (0x40011d88, 0x1),
  (0x40011d90, 0x1), (0x40011d98, 0x1), (0x40011da0, 0x1), (0x40011da8, 0x1),
  (0x40011db0, 0x1), (0x40011db8, 0x1), (0x40011dc0, 0x1), (0x40011dc8, 0x1)]

def resetRegs9 : List (Nat × Word) := [
  (0x40011dd0, 0x1), (0x40011dd8, 0x1), (0x40011de0, 0x1), (0x40011de8, 0x1),
  (0x40011df0, 0x1), (0x40011df8, 0x1), (0x40011e00, 0x3020100), (0x40011e04, 0x7060504),
  (0x40011e08, 0xb0a0908), (0x40011e0c, 0xf0e0d0c), (0x40012078, 0xffffffff), (0x40012100, 0x3),
  (0x40012104, 0xc3), (0x40012108, 0x183), (0x4001210c, 0x9e0), (0x40013078, 0xffffffff),
  (0x40014010, 0x2), (0x40014078, 0xffffffff), (0x40015010, 0x2), (0x40015078, 0xffffffff),
  (0x40016010, 0x1001), (0x40016078, 0xffffffff), (0x40016104, 0x1ff01), (0x40016110, 0xc83e80),
  (0x40016800, 0x4), (0x4001680c, 0x2004), (0x40017010, 0x2), (0x40017078, 0xffffffff),
  (0x4001710c, 0xfa000a), (0x40018078, 0xffffffff), (0x40018100, 0xf0), (0x40018120, 0xf08),
  (0x40019008, 0x2), (0x40019078, 0xffffffff), (0x40019128, 0xff00), (0x40019240, 0x190c),
  (0x4001a078, 0xffffffff), (0x4001a114, 0x5555), (0x4001b078, 0xffffffff), (0x4001b118, 0xfff0000)]

def resetRegs10 : List (Nat × Word) := [
  (0x4001b11c, 0x800000), (0x4001c078, 0xffffffff), (0x4001c104, 0x8000), (0x4001c114, 0x8000),
  (0x4001c124, 0x8000), (0x4001c144, 0x3e8), (0x4001c154, 0x3e8), (0x4001c164, 0x3e8),
  (0x4001c174, 0x3e8), (0x4001d008, 0x2), (0x4001d078, 0xffffffff), (0x4001d104, 0x3),
  (0x4001d180, 0x5), (0x4001e078, 0xffffffff), (0x4001e10c, 0x1d18), (0x4001f008, 0x2),
  (0x4001f078, 0xffffffff)]

/-- Every register whose reset value is not 0, with that value, in ascending address order. A value that the tables call
'per supply', 'per state' or 'per reset' stands here as after a power-on reset with VBAT present and VSYS absent (log 4). -/
def resetRegs : List (Nat × Word) :=
  resetRegs0 ++ resetRegs1 ++ resetRegs2 ++ resetRegs3 ++ resetRegs4 ++ resetRegs5 ++ resetRegs6 ++ resetRegs7 ++ resetRegs8 ++ resetRegs9 ++ resetRegs10

end Sys2Proof.Machine
end

