-- ==== Sys2Proof/Machine/State.lean ====
section
/-!
DEFINITION. The state of the Y880 as the spec gives it, as plain data, and its value after reset.
A register of a register page lives in `regs` under its address (the register tables of the chapters); a memory byte in
`mem` under its address; what the spec gives the machine beside them stands in named fields.
-/
namespace Sys2Proof.Machine
open Sys2Proof

/-- A capability register: 128 bits and a tag (R152). -/
structure CapReg where
  bits : BitVec 128
  tag : Bool
  deriving DecidableEq, Repr

/-- The untagged all-zero capability register. -/
def CapReg.null : CapReg := ⟨0, false⟩

/-- The registers banked per world: capability registers and PCC, TVEC, EPCC (R151), CTAB (R153's table), trap registers (ch. 9). -/
structure Bank where
  c : Vector CapReg 8
  pcc : CapReg
  tvec : CapReg
  epcc : CapReg
  ctabBase : Word
  ctabCount : Word
  tcause : Word
  tpc : Word
  tval : Word
  taddr : Word
  timpr : Word
  timprAddr : Word
  deriving DecidableEq, Repr

/-- State of a data-cache line (R262): Invalid lines are not listed. -/
inductive Mesi where
  | modified | exclusive | shared
  deriving DecidableEq, Repr

/-- A line of a data cache: its address, way and state. `mem` and `tags` always hold the coherent contents (R262);
a Modified line keeps in `stale` what SRAM itself still holds, in `staleTags` the tags of its two granules there, and in `staleInit` the
initialised bit of its row (R255). -/
structure DLine where
  addr : Nat
  way : Nat
  st : Mesi
  stale : List Byte
  staleTags : List Bool
  staleInit : Bool
  deriving DecidableEq, Repr

/-- What the Col saved of the Field at entry (R238 step 1, R248), and the GATE's rd and pc. -/
structure Saved where
  w : Vector Word 32
  mask : Nat
  rd : Nat
  pc : Word
  deriving DecidableEq, Repr

/-- A posted store that ended with a bus error, not yet reported (R215, R216). -/
structure Posted where
  world : World
  sub : Nat
  addr : Nat
  deriving DecidableEq, Repr

/-- One Xestov core: the registers of the programmer's model (R150 to R153), the reservation (R191), its stop states
(R85, R148), its branch predictor (R583: entries other than 0b01), its data cache and its pending reports. -/
structure Core where
  w : Vector Word 32
  field : Bank
  glass : Bank
  pc : Word
  world : World
  mask : Nat
  scause : Word
  spc : Word
  sval : Word
  resv : Option Nat
  powered : Bool
  started : Bool
  wfi : Bool
  halted : Bool
  /-- Stopped by a lockstep mismatch (R178). -/
  stopped : Bool
  haltPending : Bool
  /-- The probe has asked this halted core for one step (R148): the core's next command is that step. -/
  stepping : Bool
  severePending : Option Nat
  pred : List (Nat × Nat)
  dcache : List DLine
  /-- The line whose write-back waits in the data cache's eviction buffer (R265). -/
  evict : Option Nat
  /-- The lines of the instruction cache, with their ways (R233, R260); the instructions themselves come with the commands. -/
  icache : List (Nat × Nat)
  /-- The word of the memory instruction whose access stalls (R82, R284, R332): the core is at no instruction boundary. -/
  stalled : Option Nat
  posted : List Posted
  saved : Option Saved
  /-- The boot ROM path that the core has started and not finished: true for the restart path (R101, R116), false for the cold or warm
  path (R109, R115). -/
  rom : Option Bool
  deriving DecidableEq, Repr

/-- What the coherent fabric holds of one fabric cycle (R169, R263 to R265): the latest operation on a line with its agent's place in the
order of service, the line in the eviction buffer of the descriptor cache, and the index that a core has just bumped. -/
structure Fab where
  op : Option (Nat × Nat)
  trlEvict : Option Nat
  bump : Option (CoreId × Nat)
  deriving DecidableEq, Repr

/-- Nothing in transit. -/
def Fab.idle : Fab := ⟨none, none, none⟩

/-- Reset responses of the Cloche that wait until the log entries queued before them are written, for at most t_CLORSP (R362 steps 6 to 8,
R364): how many entries, how many ticks are left, the core resets, retire and the chip reset. -/
structure CloWait where
  entries : Nat
  ticks : Nat
  r0 : Bool
  r1 : Bool
  retire : Bool
  chip : Bool
  deriving DecidableEq, Repr

/-- An event log entry before it is written (R545, R546). -/
structure LogEntry where
  time : Nat
  kind : Nat
  code : Nat
  detail : Nat
  deriving DecidableEq, Repr

/-- A trace record before it is written (R549). -/
structure TraceRec where
  type : Nat
  core : Nat
  world : Nat
  arg : Nat
  arg2 : Nat
  stamp : Nat
  time : Nat
  deriving DecidableEq, Repr

/-- The answer of the last access or frame that a command made from outside: value bytes and bus sub-cause (0: none). -/
structure Resp where
  data : List Byte
  err : Nat
  deriving DecidableEq, Repr

/-- A tag sweep in progress (R171): index, the core that started it, the banks it still visits, tags cleared so far. -/
structure Sweep where
  index : Nat
  core : CoreId
  banks : List Nat
  cleared : Nat
  deriving DecidableEq, Repr

/-- Hidden state of the Col beside its registers: AON ticks left of the holdoff, whether the budget timer runs, the µs left
of it, and whether the boot stay came by the cold entry (R243 to R248). -/
structure ColState where
  holdoff : Option Nat
  budgetRun : Bool
  limit : Nat
  bootCold : Bool
  /-- The Field lines already counted as deferred in the current stay (R223). -/
  deferred : List Nat
  deriving DecidableEq, Repr

/-- The VCORE set point: 0.8 V, a step to 0.9 V for boost, 0.9 V, a step back (R77, R79). -/
inductive Vcore where
  | low | rising | high | falling
  deriving DecidableEq, Repr

/-- Hidden state of the always-on domain: power path, sequencer, sleep, time and snapshot sequencing. -/
structure Aon where
  /-- VSYS debounce running (R51), and whether vbat_low is armed (R63). -/
  vsysDebounce : Bool
  vbatLowArmed : Bool
  /-- The sequencer's domain in progress: number, and true while it powers up (R81). -/
  seq : Option (Nat × Bool)
  /-- A sleep entry's own request for PD8 and PD9 (R87 step 1). -/
  sleepHold : Bool
  /-- Sleep entry in progress: its target; and whether it passed the point of no return (R87). -/
  entry : Option Nat
  committed : Bool
  /-- The seed reserve is being written for the entry (R87 step 2); and the domains of PD8 and PD9, by bit, that were off when the entry
  started (R88). -/
  writing : Bool
  raised : Nat
  /-- Power state: 0 RUN, 1 DOZE, 2 HIBERNATE, 3 SENTRY WATCH, 4 SHIP (R84). -/
  pstate : Nat
  /-- Wake events that wait for the wake to follow, by WAKE_CAUSE bit (R88, R90). -/
  heldWake : Nat
  vcore : Vcore
  /-- The place in the Cloche's 16 µs window, and whether the high and low windows of the core clocks are suspended for it (R355). -/
  win : Nat
  winSkip : Bool
  /-- Time of the wake event that a WAKE record will carry, while one is due (R553). -/
  wakeTime : Nat
  wakeRec : Bool
  /-- The AON time base (R93), the fast timestamp (R582), and CK27 ticks toward the next CK01 tick in 1/15,625 (log 1). -/
  time : Nat
  tstamp : Nat
  tickAcc : Nat
  /-- The alarm fires at the next tick (R95). -/
  alarmDue : Bool
  /-- TIME_HI latches by initiator (R93). -/
  timeLatch : List (Nat × Nat)
  /-- The energy meter and its latch (R96). -/
  emCount : Nat
  emLatch : Nat
  /-- Management address straps as sampled (R47). -/
  straps : Nat
  /-- TEST is high (R46). -/
  testHigh : Bool
  /-- Snapshot trigger events that wait, t_SNAPGAP running since the last firing, and the events merged in it (R538, R541). -/
  snapEvents : Nat
  snapGap : Bool
  snapMerged : Nat
  /-- The alert conditions as last compared (R533). -/
  alertLast : Nat
  /-- What each held pin does while the hold of its domain lasts (R48, R66, R83). -/
  pinHold : List (Pin × PinOut)
  deriving DecidableEq, Repr

/-- A programmed life-cycle record page (R124). `valid` tells that its magic, page number and check hold (R125): no address
reaches the page, so its bytes are not held. -/
structure LcRec where
  state : Nat
  method : Nat
  page : Nat
  time : Nat
  operator : Nat
  valid : Bool
  deriving DecidableEq, Repr

/-- A running flash operation (R285): op code, byte address of its page or block, target number of FLC.RESULT. -/
structure FlashOp where
  op : Nat
  addr : Nat
  target : Nat
  deriving DecidableEq, Repr

/-- What the flash banks hold beside their mapped bytes (R279, R280): the programmed markers, by page number (main array from 0,
option block A from 8192, B from 8208), the wear record, the life-cycle record, and the running operation. -/
structure Flash where
  marks : List (Nat × Bool)
  worn : Nat
  lcRec : List LcRec
  op : Option FlashOp
  deriving DecidableEq, Repr

/-- A word store of the ledger that has not completed (R301): its world, initiator code (9: a block's private port), address, and the four
bytes that its word held before (R300). -/
structure LdgStore where
  world : World
  ini : Nat
  addr : Nat
  old : List Byte
  deriving DecidableEq, Repr

/-- What the ledger holds beside its bytes: wear tallies by line and retired lines (R317, R318), the log position and ready flag
(R316), the counter engine's command with its argument (R308), and posted stores that have not completed (R301). -/
structure Ledger where
  tally : List (Nat × Nat)
  remap : List Nat
  ready : Bool
  logSlot : Nat
  logSeq : Nat
  cmd : Option (Nat × Nat)
  posted : List LdgStore
  deriving DecidableEq, Repr

/-- Work of the life-cycle block that waits for PD8, PD9 or the cipher engine (R136): a token's comparison (target, digest), a challenge, or
the verification of a debug response; with what the cells make of it, and whether LC_FAIL has been incremented. -/
inductive LcJob where
  | token (target digest : Nat) (fate : EngineFate) (counted : Bool)
  | challenge
  | debug (fate : EngineFate) (counted : Bool)
  deriving DecidableEq, Repr

/-- Hidden state of the life-cycle block: an accepted transition (target, method), the work that waits for the cipher engine, back-off in AON ticks left, and the time of the
challenge (R132, R135, R141). -/
structure Lc where
  xfer : Option (Nat × Nat)
  job : Option LcJob
  /-- A chip reset of the Cloche joins the transition's reset (R365). -/
  join : Bool
  backoff : Nat
  chalTime : Nat
  deriving DecidableEq, Repr

/-- A key store slot (R341): its attribute word in the layout of KEY.ATTR and its key. -/
structure Slot where
  attr : Nat
  key : List Byte
  deriving DecidableEq, Repr

/-- A read of ENT.DATA that waits (R332): initiator, world, the offset of the load where a core's instruction made it, and the ticks of
CK27 left of t_ENTWAIT. -/
structure Stalled where
  ini : Ini
  world : World
  off : Option Nat
  left : Nat
  deriving DecidableEq, Repr

/-- A consumer on a private wire whose request waits for the DRBG, in the order of R330: the key store, the cipher engine, the Cloche, the
jitter generator of a core. -/
inductive DrbgUser where
  | keyStore | cipher | cloche
  | jitter (c : CoreId)
  deriving DecidableEq, Repr

/-- Hidden state of the entropy block: CTR_DRBG key and V, whether it is instantiated, the seed that waits, the FIFO, stalled
reads, private requests that wait (R326, R330), the tests that run (R322), and whether the chain was started from a reserve copy (R327). -/
structure Ent where
  key : Nat
  v : Nat
  inst : Bool
  seed : Option Nat
  fifo : List Word
  stalled : List Stalled
  waiting : List DrbgUser
  /-- A source test runs (R322); the scan of the coupon pool runs. -/
  testing : Bool
  scanning : Bool
  /-- A noise reseed of a reserve-based chain is being prepared (R327, R329), and the chain's length (ENT.CHAIN). -/
  bg : Bool
  chain : Nat
  /-- Instantiated since the last power-on or system reset (R327). -/
  booted : Bool
  /-- FAILED, which a power cycle of PD9 does not leave (R324). -/
  failed : Bool
  deriving DecidableEq, Repr

/-- A descriptor in service: its address, its four words, the result code found before any data moves (0: go on), and what may befall the
writing back of it. -/
structure Desc where
  addr : Nat
  w0 : Nat
  w1 : Nat
  w2 : Nat
  w3 : Nat
  code : Nat
  back : Integ
  deriving DecidableEq, Repr

/-- A cipher job that the engine has accepted (R333 to R340): its ring and descriptor, op, result code and detail bits so far, the
output and where it goes, a slot to write (attribute word 0: to clear), and a context to save: address, what it restores, mode. -/
structure Job where
  ring : Nat
  desc : Desc
  op : Nat
  mode : Nat
  status : Nat
  detail : Nat
  outAddr : Nat
  out : List Byte
  slot : Option (Nat × Slot)
  ctx : Option (Nat × List Byte)
  deriving DecidableEq, Repr

/-- A coupon in a hold register (R348): kind, record index, first and second secret. -/
structure Held where
  kind : Nat
  idx : Nat
  a : Nat
  b : Nat
  deriving DecidableEq, Repr

/-- A context saved by a multi-part job (R337): the sealed bytes written, the ring, operation and mode that saved it, and what it
restores. -/
structure Ctx where
  sealed : List Byte
  ring : Nat
  op : Nat
  mode : Nat
  data : List Byte
  deriving DecidableEq, Repr

/-- Hidden state of the cipher engine: the running and the suspended jobs, the hold registers by world, saved contexts, the refill
in progress (kind, record), the ring served last (R339, R340, R348, R350), and the coupon records that the last scan could not read (R302). -/
structure Cry where
  run : Option Job
  suspended : List Job
  held : List (Nat × Held)
  ctxs : List Ctx
  refill : Option (Nat × Nat)
  last : Nat
  unread : List Nat
  deriving DecidableEq, Repr

/-- A frame that a client holds for a receive ring (R393, R395): its bytes, word 3 and the client byte of its descriptor, and
whether the client reports a frame error. -/
structure RxFrame where
  ring : Nat
  bytes : List Byte
  word3 : Nat
  cbyte : Nat
  err : Bool
  deriving DecidableEq, Repr

/-- A descriptor that is or was eligible: entry `idx` of a ring, the ticks of CK27 it has waited, and whether it is marked deferred (R393,
R394). -/
structure Wait where
  ring : Nat
  idx : Nat
  ticks : Nat
  deferred : Bool
  deriving DecidableEq, Repr

/-- Hidden state of the Trellis: frames that clients hold, the service in progress, the ring served last, the waits of descriptors, the ticks
since the first pending completion of a group, the descriptors that the host link has been shown, and the records kept in the Sentry domain
(R393, R394, R398, R399, R512). -/
structure Trl where
  rx : List RxFrame
  cur : Option (Nat × List Desc)
  last : Nat
  waits : List Wait
  holds : List (Nat × Nat)
  shown : List (Nat × Desc)
  kept : List (Nat × Word)
  deriving DecidableEq, Repr

/-- The Trellis after a power-up of PD11: with what it stored for its kept rings. -/
def Trl.init (kept : List (Nat × Word)) : Trl := ⟨[], none, 0, [], [], [], kept⟩

/-- Hidden state of the ADC (R67, R68, R579): channels of the scan still to convert, a go that waits for calibration, a calibration
that waits for the conversion in progress, and whether the scan's results are delayed. -/
structure Adc where
  todo : List Nat
  goWait : Bool
  calWait : Bool
  delayed : Bool
  deriving DecidableEq, Repr

/-- GPIO beside its registers: the levels that the board puts on the pins, bit n for GPIOn, and for each filtered pin whose level differs
from GPIO.IN the ticks of CK27 it still has to hold (R65). -/
structure GpioPins where
  ext : Nat
  filt : List (Nat × Nat)
  deriving DecidableEq, Repr

/-- The ADC after a power-up of PD13. -/
def Adc.init : Adc := ⟨[], false, false, false⟩

/-- The entropy block with PD9 off: nothing but the length of its chain, whether it has been instantiated since reset, and whether it has
failed. -/
def Ent.off (chain : Nat) (booted failed : Bool) : Ent := ⟨0, 0, false, none, [], [], [], false, false, false, chain, booted, failed⟩

/-- The cipher engine with PD9 off: the contexts that jobs have saved are sealed under a key of the boot and stay usable (R337). -/
def Cry.off (ctxs : List Ctx) : Cry := ⟨none, [], [], ctxs, none, 47, []⟩

/-- A frame on its way into Riddle (R401, R430): its port (0 ETH0, 1 ETH1, 2 radio), its bytes as Riddle sees them (of a radio frame
all but the CRC), whether the port marks it in error, and meta[15:0] of its descriptor (R432, R445). -/
structure InFrame where
  port : Nat
  bytes : List Byte
  err : Bool
  word : Nat
  deriving DecidableEq, Repr

/-- A rule of Riddle's table: five value words, five mask words, the action word (R406, R407). -/
structure RdlRule where
  value : List Nat
  mask : List Nat
  act : Nat
  deriving DecidableEq, Repr

/-- An empty rule. -/
def RdlRule.none : RdlRule := ⟨[0, 0, 0, 0, 0], [0, 0, 0, 0, 0], 0⟩

/-- What an Ethernet port holds to send: one ring frame and the forward buffer; and whether the last frame sent came from the
ring (R434); the ticks of CK27 since its last link poll started (R439). -/
structure EthPort where
  ring : Option (List Byte)
  fwd : List (List Byte)
  lastRing : Bool
  polled : Nat
  deriving DecidableEq, Repr

/-- An Ethernet port with nothing to send. -/
def EthPort.init : EthPort := ⟨none, [], false, 0⟩

/-- The MDIO frame that runs: the port whose poll it is (none: a command), whether it reads, and the bits that the controller
drives, in order (R437 to R439). -/
structure MdioFrame where
  poll : Option Nat
  read : Bool
  bits : List Bool
  deriving DecidableEq, Repr

/-- A frame in the radio port's transmit buffers: rl_type, rl_addr, payload, word 3 of its descriptor, whether it is armed, the count at
arming, and whether it waits for the next beacon (R448, R454, R455). -/
structure RadioTx where
  type : Nat
  addr : Nat
  payload : List Byte
  cookie : Nat
  armed : Bool
  armedAt : Nat
  waits : Bool
  deriving DecidableEq, Repr

/-- The radio link port beside its registers: RL_WAKE's level, the ring and the forward frame, the frame being sent (its rl_seq, and
whether it is the forward frame), what the slot timer has of a tick, in 1/64, and its count when RL_TXEN last fell (R443 to R450). -/
structure Radio where
  wake : Bool
  ring : Option RadioTx
  fwd : Option RadioTx
  sending : Option (Nat × Bool)
  acc : Nat
  fell : Option Nat
  deriving DecidableEq, Repr

/-- The radio link port after a reset. -/
def Radio.init : Radio := ⟨false, none, none, none, 0, none⟩

/-- A frame in the sieve queue: its bytes but the CRC, whether it was judged WAKE, and the AON time of its arrival (R420, R422). -/
structure QFrame where
  bytes : List Byte
  wake : Bool
  since : Nat
  deriving DecidableEq, Repr

/-- The wake sieve: its queue, frames that wait for its decision or behind the queue, whether the oldest has waited too long, and
whether a frame was lost since the queue was last empty (R418 to R423). -/
structure Sieve where
  queue : List QFrame
  waiting : List (List Byte)
  aged : Bool
  lost : Bool
  deriving DecidableEq, Repr

/-- The wake sieve after a reset. -/
def Sieve.init : Sieve := ⟨[], [], false, false⟩

/-- A cartridge descriptor that the host serves (R482, R484): its ring, whether its command frame has been sent, whether the host
ends its transfer by a STOP of its own, whether a HELLO waits to be sent again, and, once all but the end of programming is known, its code and length. -/
structure CartJob where
  ring : Nat
  desc : Desc
  sent : Bool
  stop : Bool
  retry : Bool
  held : Option (Nat × Nat)
  deriving DecidableEq, Repr

/-- The cartridge host beside its registers: presence, which PD0 senses (R461), and the descriptor in progress. -/
structure Gcb where
  present : Bool
  job : Option CartJob
  deriving DecidableEq, Repr

/-- The management port beside its registers (R521 to R535): current window and pointer, AON ticks of the session and of the back-off
left, the time of the challenge, CMD and MAC as written, the running command with the verdict on its MAC, the port's own latches of
the time base and the energy meter, the last write and read codes, and the controller transfer with its command word: waiting for the bus
(false) or running (true). -/
structure Mgp where
  window : Nat
  pointer : Nat
  session : Nat
  backoff : Nat
  chalTime : Nat
  cmd : Nat
  mac : List Byte
  run : Option (Nat × Bool)
  timeHi : Nat
  emHi : Nat
  lastWr : Nat
  lastRd : Nat
  mc : Option (Bool × Nat)
  deriving DecidableEq, Repr

/-- The management port after a power-on reset. -/
def Mgp.init : Mgp := ⟨0, 0, 0, 0, 0, 0, List.replicate 16 0, none, 0, 0, 0, 0, none⟩

/-- The probe port beside the PRB page (R145 to R149): its registers ADDR, MCFG, CSEL, RSEL and ERR, a read that outlasts its frame
(`run`: still running, with the word of a posted write) with the word or the sub-cause it ended with, a posted write that failed with its sub-cause, a frame with
valid parity served since the last line reset, and the line ignored since a parity failure. -/
structure Prb where
  addr : Nat
  autoinc : Bool
  csel : Bool
  rsel : Nat
  err : Nat
  run : Option (Option Word)
  word : Option Nat
  bad : Option Nat
  wfail : Option Nat
  attached : Bool
  deaf : Bool
  last : Nat
  deriving DecidableEq, Repr

/-- The probe port after PD13 powers up. -/
def Prb.init : Prb := ⟨0, false, false, 0, 0, none, none, none, none, false, false, 0⟩

/-- The state of the machine. -/
structure State where
  /-- The commands that wait, first in, first out. -/
  pending : List Instr
  /-- The registers of the register pages that differ from 0, by address, ascending. -/
  regs : List (Nat × Word)
  /-- The key of each soft-locked page, by page number (R33). -/
  lockKeys : List (Nat × Word)
  /-- Memory bytes that differ from `memDefault`, by address, ascending. -/
  mem : List Host.Cell
  /-- The 16-byte granules of SRAM whose tag is 1, by granule number (R160). -/
  tags : List (Nat × Bool)
  /-- The SRAM rows whose initialised bit is 1, by row number (R255). -/
  rowInit : List (Nat × Bool)
  /-- The memory key and the bus-beat key as drawn, empty before the first load (R257). -/
  memKeys : List Byte
  core0 : Core
  core1 : Core
  /-- The epoch file: counters that are not 0, by index (R168). -/
  epochs : List (Nat × Nat)
  /-- The 64 sweep-done bits (R168 to R173). -/
  sweepDone : Nat
  /-- The running sweep, and index and cleared count of the running or last one (CPUn.SWEEP). -/
  sweep : Option Sweep
  sweepLast : Nat × Nat
  col : ColState
  /-- The Trellis descriptor cache: line addresses with their states (R262); it serves the coherent contents in `mem`. -/
  trlLines : List (Nat × Mesi)
  fab : Fab
  /-- The active rules of the MPU: copies of CHCTRL, RBASE and RATTR by their register address (R276 to R278). -/
  mpuActive : List (Nat × Word)
  /-- The 128 line sources as the INTC last sampled them (R584). -/
  intcSample : Nat
  aon : Aon
  flash : Flash
  ldg : Ledger
  lc : Lc
  /-- Key store slots that hold a key, by slot number (R341). -/
  slots : List (Nat × Slot)
  ent : Ent
  cry : Cry
  trl : Trl
  /-- Riddle's rules that are not empty, by number, and the frames that wait for it (R414). -/
  rules : List (Nat × RdlRule)
  rin : List InFrame
  eth0 : EthPort
  eth1 : EthPort
  mdio : Option MdioFrame
  radio : Radio
  sieve : Sieve
  gcb : Gcb
  /-- The last MSG_READ fell behind (R516). -/
  hlkUnderrun : Bool
  mgp : Mgp
  prb : Prb
  adc : Adc
  gpio : GpioPins
  logQueue : List LogEntry
  logLoss : Bool
  trcFifo : List TraceRec
  trcLost : Nat
  /-- Cloche sources that blocks have reported and the next detection cycle handles (ch. 15). -/
  cloReport : List (Nat × Nat)
  /-- What the Cloche's burst-offset generator was last reseeded with (R357). -/
  cloGen : Nat
  /-- The AON second after the last in which a burst has been evaluated (R357). -/
  cloSecond : Nat
  /-- Reset responses of the Cloche that wait for log entries (R364). -/
  cloWait : Option CloWait
  resp : Resp
  /-- How many free values have been drawn: the model's own counter, not the spec's (log 6). -/
  fresh : Nat
  deriving DecidableEq, Repr

/-- A bank of capability and trap registers at reset (log 7). -/
def Bank.init : Bank :=
  ⟨Vector.replicate 8 .null, .null, .null, .null, 0, 0, 0, 0, 0, 0, 0, 0⟩

/-- A core as a reset leaves it: stopped, with registers 0 (log 7), predictor at 0b01 (R583), caches invalid (R261). -/
def Core.init : Core :=
  { w := Vector.replicate 32 0, field := Bank.init, glass := Bank.init, pc := 0, world := .field, mask := 0
    scause := 0, spc := 0, sval := 0
    resv := none, powered := false, started := false, wfi := false, halted := false, stopped := false, haltPending := false
    stepping := false, severePending := none, pred := [], dcache := [], evict := none, icache := [], stalled := none, posted := [], saved := none, rom := none }

/-- The boot ROM's own capability on core 0 after reset: the ROM, readable and executable, as a Glasshouse capability on index 32 at
epoch 0 (log 8). -/
def romCap : CapReg := ⟨0x00000020000006850000800000000000, true⟩

/-- Core 0 after a power-on reset: it starts the boot ROM at 0x0000_0000 (R107). -/
def Core.atRom : Core :=
  { Core.init with powered := true, started := true, world := .glass, rom := some false, glass := { Bank.init with pcc := romCap } }

/-- What the registers hold after a power-on reset beside the Reset column: default option shadows of an erased option area (R108,
R294), and a BLANK life-cycle latch (R121, R122; log 60). -/
def resetLatched : List (Nat × Word) :=
  [(R.SYS.BOOT_STAT, 0x00080000), (R.OPT.SET, 2), (R.OPT.SLOTS, 0x3F201F00), (R.LC.STATE, 0x00370100)]

/-- The registers after a power-on reset. -/
def State.resetFile : List (Nat × Word) := foldState (fun (e : Nat × Word) t => tabSet 0 e.1 e.2 t) resetLatched resetRegs

/-- The MPU's active rules after reset: the reset values of the registers (R276). -/
def State.resetRules : List (Nat × Word) := resetRegs.filter fun e => decide (R.SMPU.CHCTRL ≤ e.1 ∧ e.1 < R.SMPU.CHCTRL + 32)

/-- The always-on domain after a power-on reset: RUN, the power path on VBAT (log 4), the time base at 0. -/
def Aon.init : Aon :=
  { vsysDebounce := false, vbatLowArmed := true, seq := none, sleepHold := false, entry := none, committed := false, writing := false, raised := 0
    pstate := 0, heldWake := 0, vcore := .low, win := 0, winSkip := false, wakeTime := 0, wakeRec := false, time := 0, tstamp := 0, tickAcc := 0, alarmDue := false
    timeLatch := [], emCount := 0, emLatch := 0, straps := 0, testHigh := false
    snapEvents := 0, snapGap := false, snapMerged := 0, alertLast := 0, pinHold := [] }

/-- The state right after a power-on reset (R107) of a BLANK part (log 60): core 0 starts the boot ROM, the reset's log entry waits
(R99), nothing is listed in memory, and no command waits. -/
def State.reset : State :=
  { pending := [], regs := State.resetFile, lockKeys := [], mem := [], tags := [], rowInit := [], memKeys := []
    core0 := Core.atRom
    core1 := Core.init
    epochs := [], sweepDone := 2 ^ 64 - 1, sweep := none, sweepLast := (0, 0)
    col := ⟨none, false, 0, false, []⟩
    trlLines := [], fab := .idle, mpuActive := State.resetRules, intcSample := 0
    aon := Aon.init
    flash := ⟨[], 0, [⟨0, 0, 0, 0, 0, true⟩], none⟩
    ldg := ⟨[], [], false, 0, 0, none, []⟩
    lc := ⟨none, none, false, 0, 0⟩
    slots := []
    ent := Ent.off 0 false false
    cry := Cry.off []
    trl := Trl.init []
    rules := [], rin := [], eth0 := EthPort.init, eth1 := EthPort.init, mdio := none
    radio := Radio.init, sieve := Sieve.init, gcb := ⟨false, none⟩, hlkUnderrun := false
    mgp := Mgp.init, prb := Prb.init
    adc := Adc.init, gpio := ⟨0, []⟩
    logQueue := [⟨0, 0x01, 0x01, 0⟩], logLoss := false, trcFifo := [], trcLost := 0, cloReport := [], cloGen := 0, cloSecond := 0, cloWait := none
    resp := ⟨[], 0⟩
    fresh := 0 }

/-- A machine stop. No meaning of this model ends in one: bus errors, traps and refusals by a result code are next states. -/
inductive Fault where
  /-- Never raised: kept so that the type of stops has a name for one. Safe. -/
  | none
  deriving DecidableEq, Repr

/-- A refusal to give a command a meaning. -/
inductive Refusal where
  /-- Raised by an arm of `exec` whose command has no meaning yet. Safe: the run stops. -/
  | notModelled (mnemonic : String)
  deriving DecidableEq, Repr

/-- A command's outcome. -/
abbrev Out := Host.Outcome State Fault Refusal

end Sys2Proof.Machine
end

