-- ==== Sys2Proof/Machine/Ops.lean ====
section
/-!
DEFINITION. Named operations over the state: reading and writing registers and fields, memory bytes and tags, recording a
page fault (R28), raising an event bit, queueing a log entry (R546) or trace record (R549 to R552), raising a snapshot
trigger (R538, R541), and the domain and clock conditions that other chapters ask for (R72, R80).
-/
namespace Sys2Proof.Machine
open Sys2Proof

/-! ### Result codes (R37) -/

def rcOK : Nat := 0x00
def rcBUSY : Nat := 0x01
def rcDEFERRED : Nat := 0x02
def rcREFUSED_QUOTA : Nat := 0x03
def rcSTATE : Nat := 0x04
def rcBOUNDS : Nat := 0x05
def rcAUTH : Nat := 0x06
def rcABSENT : Nat := 0x07
def rcABORTED : Nat := 0x08
def rcCRC : Nat := 0x09
def rcTIMEOUT : Nat := 0x0A
def rcWORN : Nat := 0x0B
def rcLOCKED : Nat := 0x0C
def rcREVOKED : Nat := 0x0D
def rcRANGE : Nat := 0x0E
def rcINTERNAL : Nat := 0x0F

/-- The codes that the part returns in a result field: those of R37. Codes 0x10 to 0xFF are never returned (R38); every result
of this model is one of the constants above. -/
def isResult (c : Nat) : Bool := c ≤ rcINTERNAL

/-! ### Registers and fields -/

/-- The register at address `a`. -/
def State.reg (s : State) (a : Nat) : Word := tabGet 0 s.regs a

/-- Store a word into the register at address `a`. -/
def State.setReg (s : State) (a : Nat) (w : Word) : State := { s with regs := tabSet 0 a w s.regs }

/-- A field of a register, as a number. -/
def State.get (s : State) (f : Fld) : Nat := f.get (s.reg f.addr)

/-- Store `v`, modulo its width, into a field. -/
def State.put (s : State) (f : Fld) (v : Nat) : State := s.setReg f.addr (f.put v (s.reg f.addr))

/-- A field is not 0. -/
def State.on (s : State) (f : Fld) : Bool := decide (s.get f ≠ 0)

/-- Store a truth value into a one-bit field. -/
def State.putB (s : State) (f : Fld) (b : Bool) : State := s.put f (b2n b)

/-- Add `k` to a counter field that saturates at all ones. -/
def State.addSat (s : State) (f : Fld) (k : Nat) : State := s.put f (satAdd f.max (s.get f) k)

/-- Count one event in a saturating counter field. -/
def State.inc (s : State) (f : Fld) : State := s.addSat f 1

/-- A 48-bit or longer value in two registers, low word at `a`. -/
def State.getPair (s : State) (a b : Nat) : Nat := (s.reg a).toNat + 2 ^ 32 * (s.reg b).toNat

/-- Registers from address `a` on take the words that bytes spell, four bytes each (R5). -/
def State.setRegs : State → Nat → List Word → State
  | s, _, [] => s
  | s, a, w :: ws => State.setRegs (s.setReg a w) (a + 4) ws

/-- The `n` registers from address `a` as bytes (R5). -/
def State.regBytes (s : State) (a n : Nat) : List Byte := ((numsFrom n 0).map fun k => bytesLE 4 (s.reg (a + 4 * k)).toNat).flatten

/-- Draw the number of a free value: the model's own counter advances (log 6). -/
def State.draw (s : State) : Nat × State := (s.fresh, { s with fresh := s.fresh + 1 })

/-! ### Pages -/

/-- The register pages in the order of R19. -/
def pageSYS : Nat := 0
def pagePWR : Nat := 1
def pageAON : Nat := 2
def pageLC : Nat := 3
def pageOPT : Nat := 4
def pageFLC : Nat := 5
def pageLDG : Nat := 6
def pageSMPU : Nat := 7
def pageCPU0 : Nat := 8
def pageCPU1 : Nat := 9
def pageCOL : Nat := 10
def pageINTC : Nat := 11
def pageCLO : Nat := 12
def pageENT : Nat := 13
def pageCRY : Nat := 14
def pageKEY : Nat := 15
def pageTRL : Nat := 16
def pageRING : Nat := 17
def pageRDL : Nat := 18
def pageRDLT : Nat := 19
def pageETH0 : Nat := 20
def pageETH1 : Nat := 21
def pageRLP : Nat := 22
def pageGCB : Nat := 23
def pageHLK : Nat := 24
def pageMGP : Nat := 25
def pageGPIO : Nat := 26
def pageADC : Nat := 27
def pageTMR : Nat := 28
def pageSNAP : Nat := 29
def pageTRC : Nat := 30
def pagePRB : Nat := 31

/-- The base address of page `p` (R19). -/
def pageBase (p : Nat) : Nat := 0x40000000 + 0x1000 * p

/-- The page an address lies in. -/
def pageOf (a : Nat) : Nat := a / 0x1000 % 32

/-- A field of the common header on page `p` (R24). -/
def Fld.onPage (f : Fld) (p : Nat) : Fld := { f with addr := f.addr + pageBase p }

/-- The power domain of page `p` (R80). -/
def pageDomain (p : Nat) : Nat :=
  if p = pageRLP then 1 else if p = pageCPU0 then 2 else if p = pageCPU1 then 3
  else if p = pageFLC then 7 else if p = pageLDG then 8
  else if p = pageENT ∨ p = pageCRY ∨ p = pageKEY then 9
  else if pageTRL ≤ p ∧ p ≤ pageETH1 then 11
  else if p = pageGCB then 12
  else if p = pageHLK ∨ p = pageGPIO ∨ p = pageADC ∨ p = pageTRC ∨ p = pagePRB then 13
  else 0

/-- The block type of page `p` (R19). -/
def pageType (p : Nat) : Nat :=
  if p ≤ 8 then p + 1 else if p ≤ 20 then p else p - 1

/-- Whether the owner of page `p` may change (R19). -/
def pageReassignable (p : Nat) : Bool :=
  decide (p = pageRDL ∨ p = pageRDLT ∨ p = pageETH0 ∨ p = pageETH1 ∨ p = pageRLP ∨ p = pageGCB ∨ p = pageHLK ∨
    p = pageGPIO ∨ p = pageADC ∨ p = pageTRC)

/-- Power domain `d` is on and powered up (PWR.DOMAIN.on). -/
def State.pdOn (s : State) (d : Nat) : Bool := s.on (F.PWR.DOMAIN.on.bit d)

/-- Power domain `d` is powering up: accesses to it stall (R82). -/
def State.pdRising (s : State) (d : Nat) : Bool := decide (s.aon.seq = some (d, true))

/-- Power domain `d` serves accesses: on, and not powering down (R82). -/
def State.pdServes (s : State) (d : Nat) : Bool := s.pdOn d && decide (s.aon.seq ≠ some (d, false))

/-- Code of an initiator in FAULT.initiator (R28's table). -/
def iniCode : Ini → Nat
  | .core0 => 0 | .core1 => 1 | .trellis => 2 | .cipher => 3 | .cart => 4 | .host => 5 | .probe => 6 | .port => 7 | .mgmt => 8

/-- Code of a world: 0 Field, 1 Glasshouse. -/
def worldCode : World → Nat
  | .field => 0 | .glass => 1

/-- Number of a core. -/
def coreNum : CoreId → Nat
  | .core0 => 0 | .core1 => 1

/-- The initiator that a core is. -/
def coreIni : CoreId → Ini
  | .core0 => .core0 | .core1 => .core1

/-- The other core. -/
def otherCore : CoreId → CoreId
  | .core0 => .core1 | .core1 => .core0

/-- Set event bit `b` of page `p`'s IRQ_RAW. -/
def State.irq (s : State) (p b : Nat) : State := s.put ((F.HDR.IRQ_RAW.raw.onPage p).bit b) 1

/-- Record a fault on page `p` under R28: the first is kept with its address, a further one sets overflow. -/
def State.fault (s : State) (p cause : Nat) (ini : Nat) (w : World) (wr : Bool) (addr : Nat) : State :=
  if s.on (F.HDR.FAULT.valid.onPage p) then s.put (F.HDR.FAULT.overflow.onPage p) 1
  else
    ((s.setReg (R.HDR.FAULT + pageBase p)
        (BitVec.ofNat 32 (cause % 256 + 2 ^ 8 * (ini % 16) + 2 ^ 12 * worldCode w + 2 ^ 13 * b2n wr + 2 ^ 31))).setReg
      (R.HDR.FAULT_ADDR + pageBase p) (BitVec.ofNat 32 addr)).irq p 31

/-! ### Cores -/

/-- The core of a number. -/
def State.core (s : State) : CoreId → Core
  | .core0 => s.core0 | .core1 => s.core1

/-- Replace a core. -/
def State.setCore (s : State) : CoreId → Core → State
  | .core0, k => { s with core0 := k }
  | .core1, k => { s with core1 := k }

/-- Change a core. -/
def State.modCore (s : State) (c : CoreId) (f : Core → Core) : State := s.setCore c (f (s.core c))

/-- The bank of the world a core runs in (R151). -/
def Core.bank (k : Core) : Bank := if k.world = .glass then k.glass else k.field

/-- Replace the bank of the running world. -/
def Core.setBank (k : Core) (b : Bank) : Core := if k.world = .glass then { k with glass := b } else { k with field := b }

/-- General register `r`: w0 reads 0 (R150). -/
def Core.rd (k : Core) (r : Fin 32) : Word := if r.val = 0 then 0 else k.w[r]

/-- Write general register `r`: a write to w0 is discarded (R150). -/
def Core.wr (k : Core) (r : Fin 32) (v : Word) : Core := if r.val = 0 then k else { k with w := k.w.set r v }

/-- Capability register `i` of the running world. -/
def Core.crd (k : Core) (i : Fin 8) : CapReg := k.bank.c[i]

/-- Write capability register `i` of the running world. -/
def Core.cwr (k : Core) (i : Fin 8) (v : CapReg) : Core := k.setBank { k.bank with c := k.bank.c.set i v }

/-- The world a core runs in. -/
def State.worldOf (s : State) (c : CoreId) : World := (s.core c).world

/-- The Y880 is held in reset, by TEST (R46) or by RESET_N (R103). -/
def State.inReset (s : State) : Bool := s.aon.testHigh || s.on F.SYS.RSTPIN.held

/-- VCORE steps back to 0.8 V (R79). -/
def Vcore.drop : Vcore → Vcore
  | .low => .low
  | _ => .falling

/-! ### Clocks (R72) -/

/-- A domain other than PD0 and PD1 is on. -/
def State.anyLogicOn (s : State) : Bool := decide (s.get ⟨F.PWR.DOMAIN.on.addr, F.PWR.DOMAIN.on.lo + 13, F.PWR.DOMAIN.on.lo + 2⟩ ≠ 0)

/-- One of PD8 to PD13 is on. -/
def State.anyBlockOn (s : State) : Bool := decide (s.get ⟨F.PWR.DOMAIN.on.addr, F.PWR.DOMAIN.on.lo + 13, F.PWR.DOMAIN.on.lo + 8⟩ ≠ 0)

/-- CK06 runs: any of PD2 to PD13 is on and not idle; in DOZE only PD8 to PD13 keep it (R72, R84), and in HIBERNATE and SENTRY WATCH
PD8 while it is up for the event log (R546). -/
def State.ck06 (s : State) : Bool :=
  s.anyLogicOn && (decide (s.aon.pstate ≠ 1) || s.anyBlockOn) && decide (s.aon.pstate ≠ 4)

/-- CK04 runs: some clock derived from it does; every one of those needs CK06's condition (R72). -/
def State.ck04 (s : State) : Bool := s.ck06

/-- A frame is armed in the radio port's transmit buffers (R450, R454). -/
def State.radioArmed (s : State) : Bool := (s.radio.ring.map (·.armed)).getD false || (s.radio.fwd.map (·.armed)).getD false

/-- The slot timer is wanted: a reference is valid, a frame is armed, or the front end receives (R450). -/
def State.slotWanted (s : State) : Bool := s.pdOn 1 && (s.on F.RLP.STAT.ref_valid || s.radio.wake || s.radioArmed)

/-- The slot timer counts; in precision mode it waits for HFXO (R76, R450). -/
def State.slotRuns (s : State) : Bool := s.slotWanted && (!s.on F.RLP.SLOT_CFG.mode || s.on F.PWR.XO.hfxo_ok)

/-- CK03 runs: PD1 handles a frame, received, held for the sieve's decision, armed or being sent, or the slot timer runs in normal mode
(R72). -/
def State.ck03 (s : State) : Bool :=
  s.pdOn 1 && (s.radio.wake || s.radio.sending.isSome || s.radioArmed || !s.sieve.waiting.isEmpty ||
    (s.slotRuns && !s.on F.RLP.SLOT_CFG.mode))

/-- The fast timestamp as records show it: 0 while CK04 is off (R582). -/
def State.stampNow (s : State) : Nat := if s.ck04 then s.aon.tstamp else 0

/-! ### Event log (R546) -/

/-- Queue an event log entry, or discard it when eight wait (R546). -/
def State.log (s : State) (kind code detail : Nat) : State :=
  if s.logQueue.length < 8 then
    { s with logQueue := s.logQueue ++ [⟨s.aon.time, kind, code, detail⟩] }
  else
    let s := { (s.inc F.SNAP.LOG_STAT.lost) with logLoss := true }
    s.irq pageSNAP 2

/-! ### Trace (R549 to R552) -/

/-- The trace enable of a record type (R549's table). -/
def State.traceOn (s : State) (type : Nat) : Bool :=
  s.pdOn 13 && s.on F.TRC.CTRL.en &&
    (if type = 0x10 then s.on F.TRC.CTRL.irq
     else if type = 0x11 ∨ type = 0x12 then s.on F.TRC.CTRL.trap
     else if type = 0x13 ∨ type = 0x14 then s.on F.TRC.CTRL.col
     else if type = 0x20 then s.on F.TRC.CTRL.ring
     else if type = 0x31 then s.on F.TRC.CTRL.snap
     else true)

/-- Types whose Glasshouse events are written only while CTRL.glass is 1 (R552). -/
def traceGlassFiltered (type : Nat) : Bool := decide (type = 0x10 ∨ type = 0x11 ∨ type = 0x12 ∨ type = 0x20)

/-- Offer a record to the trace FIFO: dropped and counted when 16 wait (R550). -/
def State.tracePush (s : State) (r : TraceRec) : State :=
  if s.trcFifo.length < 16 then { s with trcFifo := s.trcFifo ++ [r] }
  else { (s.inc F.TRC.LOST.count).irq pageTRC 1 with trcLost := satAdd 65535 s.trcLost 1 }

/-- An event of a record type: written while that type is enabled and not filtered (R549, R552). -/
def State.trace (s : State) (type core : Nat) (w : World) (arg arg2 : Nat) : State :=
  if s.traceOn type && !(traceGlassFiltered type && decide (w = .glass) && !s.on F.TRC.CTRL.glass) then
    s.tracePush ⟨type, core, worldCode w, arg % 65536, arg2 % 65536, s.stampNow, s.aon.time⟩
  else s

/-! ### Snapshot triggers (R538, R541) -/

/-- A trigger event of source `b` (its bit in SNAP.TRIG_EN): waits for the sequencer, or, within t_SNAPGAP of the last
firing, is merged into the pending firing and counted. -/
def State.trig (s : State) (b : Nat) : State :=
  if s.on (Fld.bit ⟨R.SNAP.TRIG_EN, 10, 0⟩ b) then
    if s.aon.snapGap then
      ({ s with aon := { s.aon with snapMerged := s.aon.snapMerged ||| 2 ^ b } }.inc F.SNAP.TRIG_STAT.merged).put
        F.SNAP.TRIG_STAT.pending 1
    else { s with aon := { s.aon with snapEvents := s.aon.snapEvents ||| 2 ^ b } }
  else s

/-! ### Cloche reports -/

/-- Report Cloche source `n` with a detail byte; the next detection cycle handles it (ch. 15). -/
def State.cloche (s : State) (n detail : Nat) : State := { s with cloReport := s.cloReport ++ [(n, detail)] }

/-! ### Memory bytes and tags -/

/-- What an address that `mem` does not list reads as: the boot ROM's bytes, erased flash and option cells 0xFF (ch. 12),
and 0 elsewhere (SRAM: R255; log 2 for the rest). -/
def memDefault (a : Nat) : Byte :=
  if a < 0x8000 then Config.romByte a
  else if 0x01000000 ≤ a ∧ a < 0x01400000 then 0xFF
  else if 0x01800000 ≤ a ∧ a < 0x01804000 then 0xFF
  else 0

/-- The canonical form of memory: addresses strictly rising, no entry equal to what an unlisted address reads as. -/
def Memory.wf (m : List Host.Cell) : Bool := tabWf memDefault m

/-- The byte at address `a`. -/
def State.byte (s : State) (a : Nat) : Byte := tabGet (memDefault a) s.mem a

/-- Store a byte. -/
def State.setByte (s : State) (a : Nat) (b : Byte) : State := { s with mem := tabSet (memDefault a) a b s.mem }

/-- The `n` bytes from address `a`. -/
def State.bytes (s : State) (a n : Nat) : List Byte := (numsFrom n a).map s.byte

/-- Store bytes from address `a`. -/
def State.setBytes : State → Nat → List Byte → State
  | s, _, [] => s
  | s, a, b :: bs => State.setBytes (s.setByte a b) (a + 1) bs

/-- The little-endian number in `n` bytes from `a` (R5). -/
def State.loadN (s : State) (a n : Nat) : Nat := natLE (s.bytes a n)

/-- The tag of granule `g` (R160). -/
def State.tag (s : State) (g : Nat) : Bool := tabGet false s.tags g

/-- Set or clear the tag of granule `g`. -/
def State.setTag (s : State) (g : Nat) (b : Bool) : State := { s with tags := tabSet false g b s.tags }

/-- Drop every memory byte in [lo, hi) back to its default. -/
def State.clearMem (s : State) (lo hi : Nat) : State :=
  { s with mem := tabDrop (fun a => decide (lo ≤ a ∧ a < hi)) s.mem }

/-- Clear every tag of addresses in [lo, hi). -/
def State.clearTags (s : State) (lo hi : Nat) : State :=
  { s with tags := tabDrop (fun g => decide (lo ≤ 16 * g ∧ 16 * g < hi)) s.tags }

/-- Clear every row-initialised bit of addresses in [lo, hi) (R255). -/
def State.clearRows (s : State) (lo hi : Nat) : State :=
  { s with rowInit := tabDrop (fun r => decide (lo ≤ 32 * r ∧ 32 * r < hi)) s.rowInit }

/-- The canonical form of every sparse table of the state. -/
def State.tablesWf (s : State) : Bool :=
  tabWf (fun _ => (0 : Word)) s.regs && Memory.wf s.mem && tabWf (fun _ => false) s.tags &&
    tabWf (fun _ => false) s.rowInit

/-- The answer that a command hands back to its sender. -/
def State.answer (s : State) (data : List Byte) (err : Nat) : State := { s with resp := ⟨data, err⟩ }

end Sys2Proof.Machine
end

