-- ==== Sys2Proof/Machine/Caps.lean ====
section
/-!
DEFINITION. Capabilities: the format of R154, the roots of R176, epoch counters and stale copies (R167 to R169), derivation
(R155, R162 to R164), and the memory regions that checks ask for (R16, R18, R160).
-/
namespace Sys2Proof.Machine
open Sys2Proof

/-! ### The format (R154) -/

def CapReg.base (c : CapReg) : Nat := bitsOf c.bits.toNat 31 0
def CapReg.length (c : CapReg) : Nat := bitsOf c.bits.toNat 63 32
def CapReg.perms (c : CapReg) : Nat := bitsOf c.bits.toNat 74 64
def CapReg.otype (c : CapReg) : Nat := bitsOf c.bits.toNat 87 80
def CapReg.epoch (c : CapReg) : Nat := bitsOf c.bits.toNat 95 88
def CapReg.eidx (c : CapReg) : Nat := bitsOf c.bits.toNat 101 96

/-- Permission bit `k` (R154): 0 LOAD, 1 STORE, 2 EXEC, 3 LOADCAP, 4 STORECAP, 5 SEAL, 6 UNSEAL, 7 GATE, 8 DEVICE, 9 GLASS, 10 GLOBAL. -/
def CapReg.perm (c : CapReg) (k : Nat) : Bool := c.perms.testBit k

def permLOAD : Nat := 0
def permSTORE : Nat := 1
def permEXEC : Nat := 2
def permLOADCAP : Nat := 3
def permSTORECAP : Nat := 4
def permSEAL : Nat := 5
def permUNSEAL : Nat := 6
def permGATE : Nat := 7
def permDEVICE : Nat := 8
def permGLASS : Nat := 9
def permGLOBAL : Nat := 10

/-- The 128 bits of a capability with reserved bits 0 (R154). -/
def capBits (base length perms otype epoch eidx : Nat) : BitVec 128 :=
  BitVec.ofNat 128 (base % 2 ^ 32 + 2 ^ 32 * (length % 2 ^ 32) + 2 ^ 64 * (perms % 2 ^ 11) + 2 ^ 80 * (otype % 2 ^ 8) +
    2 ^ 88 * (epoch % 2 ^ 8) + 2 ^ 96 * (eidx % 2 ^ 6))

/-- The reserved bits [79:75] and [127:102] of a capability's bits. -/
def CapReg.reserved (c : CapReg) : Nat := bitsOf c.bits.toNat 79 75 + 32 * bitsOf c.bits.toNat 127 102

/-- R155: what holds of every tagged capability. -/
def CapReg.wf (c : CapReg) : Bool :=
  !c.tag || (decide (c.base + c.length ≤ 2 ^ 32) && decide (c.reserved = 0) && decide (c.otype ≤ 0xF0) &&
    !(c.perm permGLASS && c.perm permEXEC && c.perm permSTORE))

/-! ### Epochs (R167 to R169) -/

/-- Epoch counter `i`. -/
def State.epochOf (s : State) (i : Nat) : Nat := tabGet 0 s.epochs i

/-- The capability's epoch no longer equals its counter. -/
def State.stale (s : State) (c : CapReg) : Bool := decide (c.epoch ≠ s.epochOf c.eidx)

/-- The CPU page of a core. -/
def cpuPage (c : CoreId) : Nat := 8 + coreNum c

/-- A field of CPUn on the page of core `c`. -/
def Fld.cpu (f : Fld) (c : CoreId) : Fld := f.idx 0x1000 (coreNum c)

/-- R167: a load, store or register move of a tagged stale capability yields the copy untagged and counts it. -/
def State.moveCap (s : State) (c : CoreId) (v : CapReg) : CapReg × State :=
  if v.tag && s.stale v then ({ v with tag := false }, s.inc (F.CPU.STALE.count.cpu c)) else (v, s)

/-! ### Roots (R176) -/

/-- A root capability: tagged, unsealed, on the world's root index with its current counter. -/
def State.root (s : State) (w : World) (base length perms : Nat) : CapReg :=
  let i := if w = .glass then 32 else 0
  ⟨capBits base length perms 0 (s.epochOf i) i, true⟩

/-- Permission bits from their numbers. -/
def permSet (ks : List Nat) : Nat := (ks.map (2 ^ ·)).sum

/-- The Field bank of R176 with PCC `pcc`. The trap registers keep their values; TVEC and EPCC are untagged, CTAB_COUNT 0. -/
def State.fieldRoots (s : State) (b : Bank) (pcc : CapReg) : Bank :=
  { b with
    c := #v[s.root .field 0x20000000 0x80000 (permSet [0, 1, 2, 3, 4, 10]), s.root .field 0x01000000 0x400000 (permSet [0, 2, 10]),
      s.root .field 0x40000000 0x20000 (permSet [0, 1, 8, 10]), s.root .field 0x30000000 0x20000 (permSet [0, 1, 10]),
      s.root .field 0x60000000 0x10000 (permSet [0, 1, 8, 10]), s.root .field 0x01 0x7F (permSet [5, 6, 10]),
      CapReg.null, CapReg.null]
    pcc := pcc
    tvec := { b.tvec with tag := false }
    epcc := { b.epcc with tag := false }
    ctabCount := 0 }

/-- The Glasshouse bank of R176 with PCC `pcc`. -/
def State.glassRoots (s : State) (b : Bank) (pcc : CapReg) : Bank :=
  { b with
    c := #v[s.root .glass 0x28000000 0x20000 (permSet [0, 1, 3, 4, 9, 10]), s.root .glass 0x28000000 0x20000 (permSet [0, 2, 7, 9, 10]),
      s.root .glass 0x01000000 0x400000 (permSet [0, 2, 7, 9, 10]), s.root .glass 0x40000000 0x20000 (permSet [0, 1, 8, 9, 10]),
      s.root .glass 0x30000000 0x20000 (permSet [0, 1, 9, 10]), s.root .glass 0x20000000 0x80000 (permSet [0, 1, 3, 4, 9, 10]),
      s.root .glass 0x80 0x71 (permSet [5, 6, 9, 10]), s.root .glass 0x60000000 0x10000 (permSet [0, 1, 8, 9, 10])]
    pcc := pcc
    tvec := { b.tvec with tag := false }
    epcc := { b.epcc with tag := false }
    ctabCount := 0 }

/-! ### Regions (R16, R18) -/

/-- The regions of the address map (R16). -/
inductive Region where
  | rom | flash | option | sramF | sramG | ledger | pages | trace | unmapped
  deriving DecidableEq, Repr

/-- The region of an address (R16). -/
def regionOf (a : Nat) : Region :=
  if a < 0x8000 then .rom
  else if 0x01000000 ≤ a ∧ a < 0x01400000 then .flash
  else if 0x01800000 ≤ a ∧ a < 0x01804000 then .option
  else if 0x20000000 ≤ a ∧ a < 0x20080000 then .sramF
  else if 0x28000000 ≤ a ∧ a < 0x28020000 then .sramG
  else if 0x30000000 ≤ a ∧ a < 0x30020000 then .ledger
  else if 0x40000000 ≤ a ∧ a < 0x40020000 then .pages
  else if 0x60000000 ≤ a ∧ a < 0x60010000 then .trace
  else .unmapped

/-- A device region (R18). -/
def isDevice (a : Nat) : Bool := decide (regionOf a = .pages ∨ regionOf a = .trace)

/-- A memory region: mapped and not a device region (R18). -/
def isMemory (a : Nat) : Bool := !isDevice a && decide (regionOf a ≠ .unmapped)

/-- A region that carries tags (R160). -/
def hasTags (a : Nat) : Bool := decide (regionOf a = .sramF ∨ regionOf a = .sramG)

/-- The power domain behind an address; the boot ROM belongs to none but PD0 (R80; log 30). -/
def addrDomain (a : Nat) : Nat :=
  match regionOf a with
  | .flash | .option => 7
  | .sramF => if a < 0x20040000 then 4 else 5
  | .sramG => 6
  | .ledger => 8
  | .pages => pageDomain (pageOf a)
  | .trace => 13
  | _ => 0

/-! ### Faults of instructions (ch. 9, fault classes) -/

/-- A fault of an instruction: class, sub-cause, TVAL, TADDR; for an MPU fault also the region it names and the access. -/
structure Flt where
  cls : Nat
  sub : Nat
  tval : Nat
  taddr : Nat
  region : Nat := 0
  write : Bool := false
  fetch : Bool := false
  deriving DecidableEq, Repr

def fltIllegal (word : Nat) : Flt := { cls := 1, sub := 0, tval := word, taddr := 0 }
def fltMisaligned (o a : Nat) : Flt := { cls := 2, sub := 0, tval := o, taddr := a }
def fltBus (sub o a : Nat) : Flt := { cls := 3, sub := sub, tval := o, taddr := a }
def fltBounds (sub o a : Nat) : Flt := { cls := 5, sub := sub, tval := o, taddr := a }
def fltCap (sub o a : Nat) : Flt := { cls := 6, sub := sub, tval := o, taddr := a }

/-- Capability fault causes (R157's second table). -/
def capTAG : Nat := 1
def capSEALED : Nat := 2
def capREVOKED : Nat := 3
def capGLASS : Nat := 4
def capPERM : Nat := 5
def capDERIVE : Nat := 6
def capOTYPE : Nat := 7
def capLOCAL : Nat := 8
def capNO_TAGMEM : Nat := 9
def capWALK_DEVICE : Nat := 10
def capWALK_BUS : Nat := 11
def capDEVICE : Nat := 12

/-- Bounds fault causes. -/
def bndDATA : Nat := 1
def bndFETCH : Nat := 2
def bndCHK : Nat := 3
def bndCHKR : Nat := 4
def bndTABLE : Nat := 5

/-! ### Checks 1 to 4 of R157, and the source checks of R200 -/

/-- The first of TAG, SEALED, REVOKED, GLASS that a capability fails for use in a world (R157 steps 1 to 4). -/
def State.useCause (s : State) (w : World) (c : CapReg) : Option Nat :=
  if !c.tag then some capTAG
  else if c.otype ≠ 0 then some capSEALED
  else if s.stale c then some capREVOKED
  else if decide (w = .field) && c.perm permGLASS then some capGLASS
  else none

end Sys2Proof.Machine
end

