-- ==== Sys2Proof/Machine/FlashStore.lean ====
section
/-!
DEFINITION. What programs and erases leave in the flash array (R280, R283, R287 to R289).
-/
namespace Sys2Proof.Machine
open Sys2Proof

/-- The marker number of a page: main array pages from 0, option pages from 8192 (block A) and 8208 (block B). -/
def pageMark (a : Nat) : Nat :=
  if a < 0x01800000 then a % 0x400000 / 512 else 8192 + a % 0x4000 / 512

/-- Pages of the block that holds a page. -/
def markBlock (m : Nat) : Nat × Nat := if m < 8192 then (m / 128 * 128, 128) else (m / 16 * 16, 16)

/-- A page is marked programmed (R280). -/
def State.marked (s : State) (m : Nat) : Bool := tabGet false s.flash.marks m

/-- Set or clear a page's programmed marker. -/
def State.setMark (s : State) (b : Bool) (m : Nat) : State :=
  { s with flash := { s.flash with marks := tabSet false m b s.flash.marks } }

/-- Undefined contents: `n` free bytes from `a` (R289; log 6). -/
def State.freeBytes (s : State) (a n : Nat) : State :=
  let (d, s) := s.draw
  s.setBytes a ((numsFrom n 0).map (Config.freeByte d))

/-- Bytes from `a` that an erase of the block there covers. -/
def eraseSize (a : Nat) : Nat := if a < 0x01800000 then 0x10000 else 0x2000

/-- A reset or power loss stops the running operation: the page keeps its marker with undefined content, or the block keeps its
markers (R289). -/
def State.flashAbort (s : State) : State :=
  match s.flash.op with
  | none => s
  | some o =>
    let s := { s with flash := { s.flash with op := none } }
    if o.op = 1 ∨ o.op = 3 then s.freeBytes o.addr 512 else s.freeBytes o.addr (eraseSize o.addr)

end Sys2Proof.Machine
end

