-- ==== Sys2Proof/Machine/Counters.lean ====
section
/-!
DEFINITION. Monotonic counters in the ledger (R304 to R307): cells, validity, the value a counter has.
-/
namespace Sys2Proof.Machine
open Sys2Proof

/-- Numbers of the system counters (R309). -/
def cntKEY_FLOOR : Nat := 64
def cntROLLBACK : Nat := 65
def cntLC_FAIL : Nat := 66
def cntLC_FAILBASE : Nat := 67
def cntDRBG_WAKE : Nat := 68

/-- The address of counter `n`. -/
def cntAddr (n : Nat) : Nat := if n < 64 then 0x30000000 + 256 * n else 0x3001C000 + 256 * (n - 64)

/-- The check word of a cell (R304). -/
def cellCheck (n vlo vhi seq : Nat) : Nat :=
  (seq % 256) * 2 ^ 24 + (vlo ^^^ vhi ^^^ seq ^^^ 0x00C35A00 ^^^ n) % 2 ^ 24

/-- Cell `k` of counter `n`: its value and seq where it is valid (R305). -/
def State.cell (s : State) (n k : Nat) : Option (Nat × Nat) :=
  let a := cntAddr n + 16 * k
  let vlo := s.loadN a 4
  let vhi := s.loadN (a + 4) 4
  let seq := s.loadN (a + 8) 4
  if s.loadN (a + 12) 4 = cellCheck n vlo vhi seq then some (vlo + 2 ^ 32 * vhi, seq) else none

/-- The value and highest seq of counter `n` (R305). -/
def State.counter (s : State) (n : Nat) : Nat × Nat :=
  (numsFrom 16 0).foldl (fun best k =>
    match s.cell n k with
    | some c => if best.2 ≤ c.2 then c else best
    | none => best) (0, 0)

/-- The cell that takes value `v` and its four words in the order that they are written (R306). -/
def State.cntCell (s : State) (n v : Nat) : Nat × List Byte :=
  let q := (s.counter n).2 + 1
  let vlo := v % 2 ^ 32
  let vhi := v / 2 ^ 32
  (cntAddr n + 16 * (q % 16), bytesLE 4 vlo ++ bytesLE 4 vhi ++ bytesLE 4 q ++ bytesLE 4 (cellCheck n vlo vhi q))

/-- Counter engine ops (R308). -/
def cntREAD : Nat := 0
def cntINC : Nat := 1
def cntRAISE : Nat := 2

/-- What a command does that finds no failing code: its result code, and the value to write where it writes (R308). -/
def State.cntJudge (s : State) (op n arg : Nat) : Nat × Option Nat :=
  let c := s.counter n
  if op = cntREAD then (rcOK, none)
  else if c.2 = 0xFFFFFFFF then (rcWORN, none)
  else if op = cntINC then (if c.1 = 2 ^ 64 - 1 then (rcRANGE, none) else (rcOK, some (c.1 + 1)))
  else if arg < c.1 then (rcRANGE, none)
  else (rcOK, if arg = c.1 then none else some arg)

/-- The rights of firmware commands (R309) and the reserved values: OK where the engine goes on. -/
def cntRights (op n : Nat) : Nat :=
  if 79 < n ∨ 3 ≤ op then rcRANGE
  else if n < 64 then rcOK
  else if n ≤ 68 ∧ op = cntREAD then rcOK
  else if n ≤ 65 ∧ op = cntRAISE then rcOK
  else rcAUTH

/-- A word of the ledger fails its hidden code (R302): counted and reported. -/
def State.ledgerInteg (s : State) : State := ((s.inc F.LDG.INTEG.count).irq pageLDG 5).cloche 28 0

/-! ### Writes that a reset or a loss of power cuts (R300, R311, R320) -/

/-- Bytes as words from address `a` on, in ascending order. -/
def wordsFrom (a : Nat) (bs : List Byte) : List (Nat × List Byte) :=
  (numsFrom (bs.length / 4) 0).map fun k => (a + 4 * k, (bs.drop (4 * k)).take 4)

/-- A write of words that is cut: a free number of them, in ascending order, have landed (R300; log 6). -/
def State.cutWords (s : State) (ws : List (Nat × List Byte)) : State :=
  let (d, s) := s.draw
  foldState (fun (w : Nat × List Byte) s => s.setBytes w.1 w.2) (ws.take (Config.freeNat d % (ws.length + 1))) s

/-- A block's write of a record of `n` bytes, its commit word last, that is cut before the commit word lands: nothing yet, or the commit word
0 and a free number of the body's words, which hold free bytes (R311; log 6). -/
def State.cutRecord (s : State) (a n : Nat) : State :=
  let (d, s) := s.draw
  let k := Config.freeNat d % (n / 4 + 1)
  if k = 0 then s else (s.setBytes (a + n - 4) (bytesLE 4 0)).freeBytes a (4 * (k - 1))

/-- A reset stops the counter engine after its current word (R320). -/
def State.cutEngine (s : State) : State :=
  match s.ldg.cmd with
  | none => s
  | some (op, n) =>
    if cntRights op n ≠ rcOK then s
    else
      match (s.cntJudge op n (s.getPair R.LDG.CNT_ARG (R.LDG.CNT_ARG + 4))).2 with
      | some v => let (a, bs) := s.cntCell n v; s.cutWords (wordsFrom a bs)
      | none => s

/-- Posted stores that a reset cuts, newest first: each word has its new value or the one before, and a store that lands brings the older
ones to its word with it (R300; log 6). `done` lists the words that have landed. -/
def State.cutStores : List LdgStore → List Nat → State → State
  | [], _, s => s
  | p :: ps, done, s =>
    if p.addr / 4 ∈ done ∨ 9 ≤ p.ini then State.cutStores ps done s
    else
      let (d, s) := s.draw
      if Config.freeNat d % 2 = 1 then State.cutStores ps (p.addr / 4 :: done) s
      else State.cutStores ps done (s.setBytes (p.addr / 4 * 4) p.old)

/-! ### The seed reserve (R314) -/

def reserveAddr (copy : Nat) : Nat := 0x3000C000 + 64 * copy

/-- The save number of a committed reserve copy (R314). -/
def State.reserveSave (s : State) (copy : Nat) : Option Nat :=
  let a := reserveAddr copy
  let n := s.loadN (a + 48) 4
  if s.loadN (a + 60) 4 = 0x53520000 + n % 65536 then some n else none

/-- The copy with the higher valid save number (R314). -/
def State.reserveBest (s : State) : Option (Nat × Nat) :=
  match s.reserveSave 0, s.reserveSave 1 with
  | some a, some b => if b < a then some (0, a) else some (1, b)
  | some a, none => some (0, a)
  | none, some b => some (1, b)
  | none, none => none

/-- The copy that takes the next save, and its number: the one that does not hold the higher valid save number (R314). -/
def State.reserveNext (s : State) : Nat × Nat :=
  match s.reserveBest with
  | some (k, n) => (1 - k, (n + 1) % 2 ^ 32)
  | none => (0, 1)

/-- Every write of the ledger that is under way is cut (R300, R320): the engine's, posted stores, a coupon's record (R350), the seed
reserve of a sleep entry (R87), and the log's slot, whose entry stays in the queue (R546). -/
def State.cutLedger (s : State) : State :=
  let s := State.cutStores s.ldg.posted.reverse [] s.cutEngine
  let s := match s.cry.refill with
    | some (_, i) => s.cutRecord (0x30004000 + 96 * i) 96
    | none => s
  let s := if s.aon.writing then s.cutRecord (reserveAddr s.reserveNext.1) 64 else s
  if s.pdOn 8 && s.ldg.ready && !s.logQueue.isEmpty then s.cutRecord (0x3001D000 + 16 * s.ldg.logSlot) 16 else s

end Sys2Proof.Machine
end

