-- ==== Sys2Proof/Machine/Ledger.lean ====
section
/-!
DEFINITION. Fabric accesses to the ledger window (R295 to R302), and the completion of its word writes with wear and spare lines
(R301, R317 to R319). The LDG page and the counter engine are LedgerCtl.lean's.
-/
namespace Sys2Proof.Machine
open Sys2Proof

/-- LDG causes. -/
def causePART_WORLD : Nat := 0x10
def causeHW_AREA : Nat := 0x11
def causeWORN_LINE : Nat := 0x12

/-- A hardware area of the partition (R295). -/
def ledgerHw (a : Nat) : Bool :=
  decide ((0x30000000 ≤ a ∧ a < 0x3000A000) ∨ (0x3000C000 ≤ a ∧ a < 0x3000C080) ∨ (0x3001C000 ≤ a ∧ a < 0x30020000))

/-- The Field part (R295). -/
def ledgerField (a : Nat) : Bool := decide (0x30010000 ≤ a ∧ a < 0x3001C000)

/-- Initiators that the window accepts (R296). -/
def ledgerAdmits : Ini → Bool
  | .core0 | .core1 | .probe => true
  | _ => false

/-- A refused access (R298). -/
def State.ledgerRefused (s : State) (ini : Ini) (w : World) (wr : Bool) (a : Nat) : State :=
  (s.fault pageLDG (if wr && ledgerHw a then causeHW_AREA else causePART_WORLD) (iniCode ini) w wr a).inc F.LDG.REFUSE.access

/-- A read of `n` bytes (R297, R299, R302). -/
def State.ledgerRead (s : State) (ini : Ini) (w : World) (a n : Nat) (g : Integ) : State × Except Nat Nat :=
  if !ledgerAdmits ini || (decide (w = .field) && !ledgerField a) then (s.ledgerRefused ini w false a, .error 1)
  else if g = .ledgerCheck then (s.ledgerInteg, .error 4)
  else (s, .ok (s.loadN a n))

/-- A store of `n` bytes: the word takes its value, and the store waits to complete (R297, R301). -/
def State.ledgerWrite (s : State) (ini : Ini) (w : World) (a n v : Nat) (_g : Integ) : State × Option Nat :=
  if !ledgerAdmits ini || ledgerHw a || (decide (w = .field) && !ledgerField a) then (s.ledgerRefused ini w true a, some 1)
  else
    let old := s.bytes (a / 4 * 4) 4
    let s := s.setBytes a (bytesLE n v)
    ({ s with ldg := { s.ldg with posted := s.ldg.posted ++ [⟨w, iniCode ini, a, old⟩] } }, none)

/-- The line index of a ledger address. -/
def ledgerLine (a : Nat) : Nat := a % 0x20000 / 32

/-- Spare lines in use (LDG.SPARE). -/
def State.sparesUsed (s : State) : Nat := s.ldg.remap.length

/-- A line is retired to a spare (R318); true when it could be (R319). -/
def State.retireLine (s : State) (line : Nat) : State × Bool :=
  if 256 ≤ s.sparesUsed then (s.irq pageLDG 4, false)
  else
    let s := { s with ldg := { s.ldg with remap := s.ldg.remap ++ [line], tally := tabSet 0 line 0 s.ldg.tally } }
    let s := s.irq pageLDG 2
    (if s.sparesUsed = 240 then s.irq pageLDG 3 else s, true)

/-- A line write's passes (R301, R317, R318): extra passes counted, 3 or more warn, a tally of 4 or a failure after 5 passes retires
the line. The result tells whether the write stands. -/
def State.lineWritten (s : State) (a : Nat) (p : Pulse) : State × Bool :=
  let line := ledgerLine a
  let s := s.addSat F.LDG.RETRY.passes (p.passes - 1)
  let s := if p.verified then s else s.inc F.LDG.RETRY.failed
  if 3 ≤ p.passes then
    let s := ((s.put F.LDG.STAT.wear_warn 1).irq pageLDG 1).put F.LDG.WEAR.last_line line
    let s := s.inc F.LDG.WEAR.warn_count
    let t := tabGet 0 s.ldg.tally line + 1
    let s := { s with ldg := { s.ldg with tally := tabSet 0 line t s.ldg.tally } }
    if 4 ≤ t || !p.verified then s.retireLine line else (s, true)
  else (s, true)

/-! ### Writes by the private ports (R296) -/

/-- A block writes bytes of one line: whether they stand. Bytes that did not verify and could not move to a spare hold undefined contents
(R301, R319; log 6). -/
def State.hwWrite (s : State) (a : Nat) (bs : List Byte) (p : Pulse) : State × Bool :=
  let (t, ok) := (s.setBytes a bs).lineWritten a p
  (if ok || p.verified then t else t.freeBytes a bs.length, ok)

/-- Writes in order, until one fails. -/
def State.hwWrites : State → List (Nat × List Byte) → List Pulse → State × Bool
  | s, [], _ => (s, true)
  | s, (a, bs) :: ws, ps =>
    match s.hwWrite a bs (ps.headD .clean) with
    | (s, true) => State.hwWrites s ws ps.tail
    | (s, false) => (s, false)

/-- The writes of a record in the order of R311: the commit word to 0, the body line by line, the commit word. -/
def recordWrites (a : Nat) (body commit : List Byte) : List (Nat × List Byte) :=
  (a + body.length, bytesLE 4 0) ::
    ((numsFrom ((body.length + 31) / 32) 0).map fun k => (a + 32 * k, (body.drop (32 * k)).take 32)) ++ [(a + body.length, commit)]

/-- What the cells make of `n` line writes that no command tells of: free values (log 6). -/
def State.pulses (s : State) (n : Nat) : List Pulse × State :=
  ((numsFrom n 0).map fun k =>
      let x := Config.freeNat (s.fresh + k)
      ⟨⟨x / 2 % 5, Nat.mod_lt _ (by decide)⟩, decide (x % 2 = 0)⟩,
    { s with fresh := s.fresh + n })

/-- A command of the counter engine, private or with its rights judged (R307, R308): its code, with the cell written. -/
def State.engine (s : State) (op n arg : Nat) (f : CellFate) : Nat × State :=
  if f.bad then (rcINTERNAL, s.ledgerInteg)
  else
    match s.cntJudge op n arg with
    | (r, none) => (r, s)
    | (r, some v) =>
      let (a, bs) := s.cntCell n v
      let (s, ok) := s.hwWrite a bs f.pulse
      (if ok then r else rcWORN, s)

/-! ### Completion of posted stores -/

/-- A posted store completes, or its line could not be kept (R301, R317 to R319): a core's failed store becomes an imprecise error, a probe's
the failure of its posted write. A word that never verified holds undefined contents (log 6). -/
def State.storeEnds (s : State) (p : LdgStore) (q : Pulse) : State :=
  let (s, ok) := s.lineWritten p.addr q
  if ok then s
  else
    let s := if q.verified then s else s.freeBytes (p.addr / 4 * 4) 4
    if 9 ≤ p.ini then s
    else
      let s := s.fault pageLDG causeWORN_LINE p.ini p.world true p.addr
      let fails (k : Core) : Core := { k with posted := k.posted ++ [⟨p.world, 1, p.addr⟩] }
      if p.ini = 0 then s.modCore .core0 fails
      else if p.ini = 1 then s.modCore .core1 fails
      else { s with prb := { s.prb with wfail := some 1 } }

/-- The posted stores complete, oldest first, those that `keep` names excepted. -/
def State.drainStores (keep : LdgStore → Bool) : List LdgStore → State → State
  | [], s => s
  | p :: ps, s =>
    if keep p then State.drainStores keep ps { s with ldg := { s.ldg with posted := s.ldg.posted ++ [p] } }
    else
      let (q, s) := s.pulses 1
      State.drainStores keep ps (s.storeEnds p (q.headD .clean))

/-- Every posted ledger store of an initiator completes, as a FENCE and a trap entry wait for (R204, R211, R301; log 31): what the cells make
of each is a free value (log 6). -/
def State.ledgerFence (s : State) (ini : Ini) : State :=
  State.drainStores (fun p => decide (p.ini ≠ iniCode ini)) s.ldg.posted { s with ldg := { s.ldg with posted := [] } }

end Sys2Proof.Machine
end

