-- ==== Sys2Proof/Machine/Lines.lean ====
section
/-!
DEFINITION. The interrupt lines (R220 to R222, R584): their sources, pending state, sampling and edge latches, and the alert
conditions of R533; what every command that can change a source does last (`State.settle`).
-/
namespace Sys2Proof.Machine
open Sys2Proof

/-- A Cloche alarm is latched whose source has response bit `b` and en at 1 (R361). -/
def State.cloAlarm (s : State) (b : Nat) : Bool :=
  (numsFrom 32 0).any fun n =>
    (s.get F.CLO.ALARM.alarm).testBit n && (s.get (F.CLO.RESP.resp.idx 4 n)).testBit b && s.on (F.CLO.RESP.en.idx 4 n)

/-- LINE fields of line `n`. -/
def State.linePrio (s : State) (n : Nat) : Nat := s.get (F.INTC.LINE.prio.idx 4 n)
def State.lineTarget (s : State) (n : Nat) : Nat := s.get (F.INTC.LINE.target.idx 4 n)
def State.lineGlass (s : State) (n : Nat) : Bool := s.on (F.INTC.LINE.world.idx 4 n)
def State.lineEdge (s : State) (n : Nat) : Bool := s.on (F.INTC.LINE.edge.idx 4 n)
def State.lineLatched (s : State) (n : Nat) (c : CoreId) : Bool := s.on ((F.INTC.LINE.latched.idx 4 n).bit (coreNum c))

/-- The source of a line other than 70 (R220's table). -/
def State.lineSource (s : State) (n : Nat) : Bool :=
  if n < 32 then
    s.pdOn (pageDomain n) || decide (pageDomain n = 0) |> fun up =>
      up && decide (s.reg (R.HDR.IRQ_RAW + pageBase n) &&& s.reg (R.HDR.IRQ_EN + pageBase n) ≠ 0)
  else if n < 64 then s.on (F.RING.GSTAT.active.idx 8 (n - 32)) && s.on (F.RING.GCFG.en.idx 8 (n - 32))
  else if n < 67 then s.on ((F.HDR.IRQ_RAW.raw.onPage pageTMR).bit (n - 64))
  else if n = 67 then s.on F.AON.ALARM_CTRL.fired
  else if n = 68 then s.cloAlarm 1
  else if n = 69 then s.cloAlarm 2
  else if 72 ≤ n ∧ n < 80 then s.on (F.INTC.SW_SET.set.bit (n - 72))
  else false

/-- A line is pending for a core: by its sampled source, or by the core's latch of an edge line (R221). -/
def State.linePending (s : State) (n : Nat) (c : CoreId) : Bool :=
  if s.lineEdge n then s.lineLatched n c else s.intcSample.testBit n

/-- A line is pending for any core (LINE.pending, PENDm). -/
def State.linePendingAny (s : State) (n : Nat) : Bool := s.linePending n .core0 || s.linePending n .core1

/-- Line 70, GLASS_WANTED: a Glasshouse line pends above priority 0 while no core is in the Glasshouse, and the Col is neither
WILTED nor CLOSED (R222, R247). `smp` is the sample of the other lines. -/
def State.glassWanted (s : State) (smp : Nat) : Bool :=
  !s.on F.COL.STAT.held && !s.on F.COL.STAT.wilted && !s.on F.COL.STAT.closed &&
    (numsFrom 128 0).any fun n => s.lineGlass n && decide (0 < s.linePrio n) &&
      (if s.lineEdge n then s.lineLatched n .core0 || s.lineLatched n .core1 else smp.testBit n)

/-- The sources as one number, bit `n` for line `n`; line 70 follows from the others. -/
def State.sources (s : State) : Nat :=
  let smp := (numsFrom 128 0).foldl (fun m n => if s.lineSource n then m + 2 ^ n else m) 0
  if s.glassWanted smp then smp + 2 ^ 70 else smp

/-- A rising source sets the latch of each core that an edge line targets (R221, R224). -/
def State.latchLine (n : Nat) (s : State) : State :=
  if s.lineEdge n then
    s.put (F.INTC.LINE.latched.idx 4 n) (s.get (F.INTC.LINE.latched.idx 4 n) ||| s.lineTarget n)
  else s

/-- The INTC samples the sources (R584): rising edges are latched, and the sample is kept. -/
def State.sampleLines (s : State) : State :=
  let now := s.sources
  let rising := (numsFrom 128 0).filter fun n => now.testBit n && !s.intcSample.testBit n
  { foldState State.latchLine rising s with intcSample := now }

/-- The alert conditions of R533 that are levels, bit by source: stuck pin, boot halt, Cloche alarm, vbat_low, OUT posted, Col
wilted or closed. Sources 6 and 7 are events and are raised where they happen. -/
def State.alertLevels (s : State) : Nat :=
  b2n (s.on F.SYS.RSTPIN.stuck) + 2 * b2n (s.on F.SYS.BOOT_STAT.halted) + 4 * b2n (decide (s.reg R.CLO.ALARM ≠ 0)) +
    8 * b2n (!s.aon.vbatLowArmed) + 16 * b2n (s.on F.MGP.MBOUT_CTL.post) +
    32 * b2n (s.on F.COL.STAT.wilted || s.on F.COL.STAT.closed)

/-- Conditions that have risen latch their alert bits (R533). -/
def State.latchAlerts (s : State) : State :=
  let now := s.alertLevels
  let rising := now &&& (0x3F ^^^ s.aon.alertLast % 64)
  { s.put F.MGP.ALERT.alert (s.get F.MGP.ALERT.alert ||| rising) with aon := { s.aon with alertLast := now } }

/-- What follows at once from any change of state: alert bits and the interrupt controller's sample. -/
def State.settle (s : State) : State := s.latchAlerts.sampleLines

end Sys2Proof.Machine
end

