-- ==== Sys2Proof/Machine/Cache.lean ====
section
/-!
DEFINITION. The data caches and the coherent fabric (R233, R234, R259, R261 to R266): which lines the caches hold and in
which state, what a core reset discards, and the tags and row-initialised bits that a write of SRAM leaves (R161, R255).
`mem` holds the coherent contents; a Modified line remembers what SRAM holds.
-/
namespace Sys2Proof.Machine
open Sys2Proof

/-- The 32-byte line of an address. -/
def lineOf (a : Nat) : Nat := a / 32 * 32

/-- Two lines fall into the same of the 128 sets. -/
def sameSet (a b : Nat) : Bool := decide (a / 32 % 128 = b / 32 % 128)

/-- The ways a core may fill with a line: way 3 with Glasshouse SRAM lines in the Glasshouse, else ways 0 to 2 (R233). -/
def fillWays (w : World) (a : Nat) : List Nat :=
  if decide (w = .glass) && decide (regionOf a = .sramG) then [3] else [0, 1, 2]

/-- A core's copy of a line, if it holds one that a lookup in its world hits (R234). -/
def Core.line? (k : Core) (a : Nat) : Option DLine :=
  k.dcache.find? fun l => decide (l.addr = lineOf a) && !(decide (k.world = .field) && decide (l.way = 3))

/-- Drop a line from a core's data cache. -/
def Core.dropLine (k : Core) (a : Nat) : Core := { k with dcache := k.dcache.filter fun l => decide (l.addr ≠ lineOf a) }

/-- A line as Shared, written back where it was Modified. -/
def DLine.share (l : DLine) : DLine := { l with st := .shared, stale := [], staleTags := [], staleInit := false }

/-- A Modified line is written back and kept Shared; an Exclusive one becomes Shared (R262). -/
def Core.shareLine (k : Core) (a : Nat) : Core := { k with dcache := k.dcache.map fun l => if l.addr = lineOf a then l.share else l }

/-- Drop the Trellis cache's copy of a line. -/
def State.dropTrl (s : State) (a : Nat) : State := { s with trlLines := s.trlLines.filter fun l => decide (l.1 ≠ lineOf a) }

/-- The Trellis cache's copy of a line becomes Shared. -/
def State.shareTrl (s : State) (a : Nat) : State :=
  { s with trlLines := s.trlLines.map fun l => if l.1 = lineOf a then (l.1, .shared) else l }

/-- Another agent holds the line. -/
def State.heldElsewhere (s : State) (c : CoreId) (a : Nat) : Bool :=
  (s.core (otherCore c)).dcache.any (fun l => decide (l.addr = lineOf a)) || s.trlLines.any (fun l => decide (l.1 = lineOf a))

/-- A way to fill, of those allowed, where `used` are taken: the first invalid one, else a victim whose choice the spec leaves to pseudo-LRU
(log 20), and then true. -/
def State.pickWay (s : State) (ways used : List Nat) : Nat × Bool × State :=
  match ways.filter fun w => !used.contains w with
  | w :: _ => (w, false, s)
  | [] =>
    let (n, s) := s.draw
    (ways.getD (Config.freeNat n % ways.length) 0, true, s)

/-- The place of an agent in the order in which the fabric serves operations on one line (R263): write-backs come first. -/
def cohRank (ini : Ini) : Nat := iniCode ini + 1

/-- A snoop reaches the eviction buffers (R265): another agent's that holds the line answers with the data, which goes to SRAM, and its
eviction is cancelled and counted; the requester's own write-back completes first (R263). -/
def State.snoop (s : State) (ini : Ini) (a : Nat) : State :=
  let hits (e : Option Nat) : Bool := decide (e = some (lineOf a))
  let n := b2n (hits s.core0.evict && decide (ini ≠ .core0)) + b2n (hits s.core1.evict && decide (ini ≠ .core1)) +
    b2n (hits s.fab.trlEvict && decide (ini ≠ .trellis))
  let drop (k : Core) : Core := if hits k.evict then { k with evict := none } else k
  let s := { s with core0 := drop s.core0, core1 := drop s.core1
                    fab := { s.fab with op := some (lineOf a, cohRank ini), trlEvict := if hits s.fab.trlEvict then none else s.fab.trlEvict } }
  if n = 0 then s else s.addSat F.SMPU.COH.evict_cancel n

/-- Make room for a line in a core's data cache; a Modified victim waits in the eviction buffer for its write-back, and one that waited
there before is written back (R263, R265). -/
def State.allocate (s : State) (c : CoreId) (a : Nat) : Nat × State :=
  let k := s.core c
  let (v, full, s) := s.pickWay (fillWays k.world a) ((k.dcache.filter fun l => sameSet l.addr a).map (·.way))
  let out (l : DLine) : Bool := full && sameSet l.addr a && decide (l.way = v)
  (v, s.modCore c fun k =>
    { k with
      dcache := k.dcache.filter fun l => !out l
      evict := match k.dcache.find? fun l => out l && decide (l.st = .modified) with
        | some l => some l.addr
        | none => k.evict })

/-- A core's instruction cache holds the line of `a` where a lookup in its world hits (R233, R234). -/
def Core.codeLine? (k : Core) (a : Nat) : Bool :=
  k.icache.any fun l => decide (l.1 = lineOf a) && !(decide (k.world = .field) && decide (l.2 = 3))

/-- A fetch fills the instruction cache: way 3 in the Glasshouse, ways 0 to 2 in the Field (R233). -/
def State.fillCode (s : State) (c : CoreId) (a : Nat) : State :=
  let k := s.core c
  if k.codeLine? a then s
  else
    let (v, _, s) := s.pickWay (if k.world = .glass then [3] else [0, 1, 2]) ((k.icache.filter fun l => sameSet l.1 a).map (·.2))
    s.modCore c fun k => { k with icache := (k.icache.filter fun l => !(sameSet l.1 a && decide (l.2 = v))) ++ [(lineOf a, v)] }

/-- FENCE.I discards the instruction-cache lines of the running world's ways (R204, R260). -/
def Core.dropCode (k : Core) : Core :=
  { k with icache := k.icache.filter fun l => decide ((l.2 = 3) ≠ (k.world = .glass)) }

/-- A core reads an SRAM line through its data cache: a hit, or a fill that leaves other copies Shared (R262). -/
def State.coreReadLine (s : State) (c : CoreId) (a : Nat) : State :=
  match (s.core c).line? a with
  | some _ => s
  | none =>
    let shared := s.heldElsewhere c a
    let s := s.snoop (coreIni c) a
    let s := (s.modCore (otherCore c) (·.shareLine a)).shareTrl a
    let (w, s) := s.allocate c a
    s.modCore c fun k => { k with dcache := k.dcache ++ [⟨lineOf a, w, if shared then .shared else .exclusive, [], [], false⟩] }

/-- The line of `a` as Modified in way `w`, remembering what SRAM holds now. -/
def State.modifiedLine (s : State) (a w : Nat) : DLine :=
  ⟨lineOf a, w, .modified, s.bytes (lineOf a) 32, [s.tag (lineOf a / 16), s.tag (lineOf a / 16 + 1)], tabGet false s.rowInit (a / 32)⟩

/-- A core gains ownership of an SRAM line before it writes it: every other copy is invalidated, a Modified one after being
written to SRAM (R262, R264), and the line becomes Modified, remembering what SRAM holds. -/
def State.coreOwnLine (s : State) (c : CoreId) (a : Nat) : State :=
  match (s.core c).line? a with
  | some ⟨_, _, .modified, _, _, _⟩ => s
  | some l =>
    let s := s.snoop (coreIni c) a
    let s := (s.modCore (otherCore c) (·.dropLine a)).dropTrl a
    s.modCore c fun k => { k with dcache := k.dcache.map fun x => if x.addr = l.addr then s.modifiedLine a x.way else x }
  | none =>
    let s := s.snoop (coreIni c) a
    let s := (s.modCore (otherCore c) (·.dropLine a)).dropTrl a
    let (w, s) := s.allocate c a
    s.modCore c fun k => { k with dcache := k.dcache ++ [s.modifiedLine a w] }

/-- A read of an SRAM line by another channel: a Modified copy is written to SRAM and kept Shared (R262). -/
def State.dmaReadLine (s : State) (ini : Ini) (a : Nat) : State :=
  (((s.snoop ini a).modCore .core0 (·.shareLine a)).modCore .core1 (·.shareLine a)).shareTrl a

/-- A write of an SRAM line by another channel: every cached copy is invalidated, a Modified one after merging (R262). -/
def State.dmaWriteLine (s : State) (ini : Ini) (a : Nat) : State :=
  (((s.snoop ini a).modCore .core0 (·.dropLine a)).modCore .core1 (·.dropLine a)).dropTrl a

/-- Another agent than `ini` holds the line of `a` Modified, in its cache or on its way out, and serves it (R262, R265). -/
def State.servedByCache (s : State) (ini : Ini) (a : Nat) : Bool :=
  let has (k : Core) : Bool := k.dcache.any (fun l => decide (l.addr = lineOf a ∧ l.st = .modified)) || decide (k.evict = some (lineOf a))
  (decide (ini ≠ .core0) && has s.core0) || (decide (ini ≠ .core1) && has s.core1) ||
    (decide (ini ≠ .trellis) &&
      (s.trlLines.any (fun l => decide (l.1 = lineOf a ∧ l.2 = .modified)) || decide (s.fab.trlEvict = some (lineOf a))))

/-- Put back what SRAM holds of one discarded Modified line. -/
def State.restoreLine (l : DLine) (s : State) : State :=
  match l.st with
  | .modified =>
    let s := s.setBytes l.addr l.stale
    let s := (s.setTag (l.addr / 16) (l.staleTags.getD 0 false)).setTag (l.addr / 16 + 1) (l.staleTags.getD 1 false)
    { s with rowInit := tabSet false (l.addr / 32) l.staleInit s.rowInit }
  | _ => s

/-- R100: discard a core's dirty lines without writing them back, and invalidate its data cache (R261). -/
def State.discardCache (s : State) (c : CoreId) : State :=
  (foldState State.restoreLine (s.core c).dcache s).modCore c fun k => { k with dcache := [] }

/-- Write back and invalidate the lines of the ways that `p` names in both of a core's L1 caches (R238, R246, R248). -/
def State.flushWays (s : State) (c : CoreId) (p : Nat → Bool) : State :=
  s.modCore c fun k => { k with dcache := k.dcache.filter fun l => !p l.way, icache := k.icache.filter fun l => !p l.2 }

/-- The caches lose the lines of an SRAM range whose contents are lost (R255, R261). -/
def State.dropRange (s : State) (lo hi : Nat) : State :=
  let inside (a : Nat) : Bool := decide (lo ≤ a ∧ a < hi)
  let drop (k : Core) : Core := { k with dcache := k.dcache.filter fun l => !inside l.addr, evict := k.evict.filter fun a => !inside a }
  { s with core0 := drop s.core0, core1 := drop s.core1, trlLines := s.trlLines.filter fun l => !inside l.1
           fab := { s.fab with trlEvict := s.fab.trlEvict.filter fun a => !inside a } }

/-- What ends with a fabric cycle: write-backs complete, and a new cycle's operations begin (R263, R265). -/
def State.fabricCycle (s : State) : State :=
  { s with core0 := { s.core0 with evict := none }, core1 := { s.core1 with evict := none }, fab := .idle }

/-- The reservation of a core ends when another agent writes any byte of its granule (R192). -/
def Core.endResv (k : Core) (g : Nat) : Core := if k.resv = some g then { k with resv := none } else k

/-- The effects of writing SRAM bytes at `a` by anyone but an STC: the touched granule's tag is cleared (R161) and the row's
initialised bit is set (R255). A write of at most 16 bytes inside one granule. -/
def State.touchSram (s : State) (a : Nat) : State :=
  if hasTags a then { (s.setTag (a / 16) false) with rowInit := tabSet false (a / 32) true s.rowInit } else s

end Sys2Proof.Machine
end

