-- ==== Sys2Proof/Machine/Image.lean ====
section
/-!
DEFINITION. The Moique image header in flash (R113) and the entry points and segments that the boot ROM and the Col take
from it (R101, R115, R116, R176, R243, R248).
-/
namespace Sys2Proof.Machine
open Sys2Proof

/-- The flash address of a block. -/
def blockAddr (blk : Nat) : Nat := 0x01000000 + 0x10000 * blk

/-- The base address of the booted image (SYS.BOOT_IMG). -/
def State.imageBase (s : State) : Nat := blockAddr (s.get F.SYS.BOOT_IMG.first_blk)

/-- A header field of `n` bytes at offset `off` of the image at `img` (R113). -/
def State.hdr (s : State) (img off n : Nat) : Nat := s.loadN (img + off) n

/-- One segment entry of a header. -/
structure Seg where
  srcOff : Nat
  size : Nat
  dest : Nat
  glass : Bool
  exec : Bool
  write : Bool
  reserved : Nat
  deriving DecidableEq, Repr

/-- Segment entry `k` of the image at `img` (R113's second table). -/
def State.seg (s : State) (img k : Nat) : Seg :=
  let b := img + 0x40 + 16 * k
  let attr := s.loadN (b + 12) 4
  { srcOff := s.loadN b 4, size := s.loadN (b + 4) 4, dest := s.loadN (b + 8) 4,
    glass := attr.testBit 0, exec := attr.testBit 1, write := attr.testBit 2, reserved := attr / 8 }

/-- The segments of the image at `img`. -/
def State.segs (s : State) (img : Nat) : List Seg := (numsFrom (s.hdr img 0x1C 1) 0).map (s.seg img)

/-- A byte offset of the image lies in a segment. -/
def Seg.has (g : Seg) (off : Nat) : Bool := decide (g.srcOff ≤ off ∧ off < g.srcOff + g.size)

/-- Where a segment lies for execution: in flash, or at its copy (R113). -/
def Seg.place (g : Seg) (img : Nat) : Nat := if g.dest = 0 then img + g.srcOff else g.dest

/-- The PCC and pc of an entry offset of the image at `img`: the segment that holds it, LOAD and EXEC, in the Glasshouse also
GATE, GLASS and GLOBAL, and the offset within the segment (R176). -/
def State.entryPcc (s : State) (img off : Nat) (w : World) : CapReg × Word :=
  match (s.segs img).find? fun g => g.has off && (g.glass == decide (w = .glass)) with
  | some g =>
    (s.root w (g.place img) g.size (if w = .glass then permSet [0, 2, 7, 9, 10] else permSet [0, 2]),
      BitVec.ofNat 32 (off - g.srcOff))
  | none => (CapReg.null, BitVec.ofNat 32 off)

/-- Header offsets of the entry points (R113). -/
def hdrGlassEntry : Nat := 0x20
def hdrGlassResume : Nat := 0x24
def hdrGlassRecover : Nat := 0x28
def hdrFieldEntry : Nat := 0x2C
def hdrFieldResume : Nat := 0x30
def hdrCore1Entry : Nat := 0x34

/-- Put a core into the Field at an entry offset of the booted image with the Field roots (R176). -/
def State.enterField (s : State) (c : CoreId) (hdrOff : Nat) : State :=
  let img := s.imageBase
  let (pcc, pc) := s.entryPcc img (s.hdr img hdrOff 4) .field
  s.modCore c fun k => { k with world := .field, field := s.fieldRoots k.field pcc, pc := pc }

/-- Put a core into the Glasshouse at an entry offset of the booted image with the Glasshouse roots (R176). -/
def State.enterGlass (s : State) (c : CoreId) (hdrOff : Nat) : State :=
  let img := s.imageBase
  let (pcc, pc) := s.entryPcc img (s.hdr img hdrOff 4) .glass
  s.modCore c fun k => { k with world := .glass, glass := s.glassRoots k.glass pcc, pc := pc }

end Sys2Proof.Machine
end

