-- ==== Sys2Proof/Machine/Col.lean ====
section
/-!
DEFINITION. The Col (ch. 10): entering a call (R238) or a recovery run (R248), leaving by UNGATE (R241, R243, R249), and
abort (R245, R246, R249, R250). The Col's state is COL.STAT: NONE while present is 0, else FREE, HELD, WILTED or CLOSED by
its bits.
-/
namespace Sys2Proof.Machine
open Sys2Proof

/-- Modes of a stay (COL.STAT.mode). -/
def modeCall : Nat := 0
def modeBoot : Nat := 1
def modeRecover : Nat := 2

/-- WILT causes (R246). -/
def wiltBUDGET : Nat := 1
def wiltSEVERE : Nat := 2
def wiltCORE_RESET : Nat := 3

/-- A core holds the Col. -/
def State.colHeldBy (s : State) (c : CoreId) : Bool :=
  s.on F.COL.STAT.held && decide (s.get F.COL.STAT.occupant = coreNum c)

/-- The Col takes a stay of core `c` in a mode, and starts the budget timer with its limit in µs (R238, R243, R248). -/
def State.colHold (s : State) (c : CoreId) (mode limit : Nat) : State :=
  let s := ((s.put F.COL.STAT.held 1).put F.COL.STAT.occupant (coreNum c)).put F.COL.STAT.mode mode
  let s := s.put F.COL.CUR.elapsed_us 0
  { s with col := { s.col with budgetRun := true, limit := limit, deferred := [] } }

/-- The Col's stay ends: budget stopped, no occupant. -/
def State.colRelease (s : State) : State :=
  let s := ((s.put F.COL.STAT.held 0).put F.COL.STAT.occupant 0).put F.COL.STAT.mode 0
  { s with col := { s.col with budgetRun := false, deferred := [] } }

/-- The holdoff starts from COL.HOLDOFF, in units of 32 AON ticks (R246, R249). -/
def State.colHoldoff (s : State) : State :=
  { s.put F.COL.STAT.recover_due 0 with col := { s.col with holdoff := some (32 * s.get F.COL.HOLDOFF.units) } }

/-- Flush the branch predictor, and with flush_field write back and invalidate ways 0 to 2 of both L1 caches (R238 step 5). -/
def State.colFlush (s : State) (c : CoreId) : State :=
  let s := s.modCore c fun k => { k with pred := [] }
  if s.on F.COL.CFG.flush_field then s.flushWays c (fun w => decide (w ≤ 2)) else s

/-- General registers from a function of their number; w0 holds 0. -/
def regsFrom (f : Fin 32 → Word) : Vector Word 32 := Vector.ofFn fun r => if r.val = 0 then 0 else f r

/-- Clear w`lo` and above (R238 step 3). -/
def Core.zeroFrom (k : Core) (lo : Nat) : Core := { k with w := regsFrom fun r => if r.val < lo then k.w[r] else 0 }

/-- Save the Field state of the caller (R238 step 1). -/
def Core.saveField (k : Core) (rd : Fin 32) : Core := { k with saved := some ⟨k.w, k.mask, rd.val, k.pc⟩ }

/-- Copy Field c`i` into Glasshouse c`i`; R167 applies (R238 step 2). -/
def State.copyArg (c : CoreId) (i : Fin 8) (s : State) : State :=
  let (v, s) := s.moveCap c (s.core c).field.c[i]
  s.modCore c fun k => { k with glass := { k.glass with c := k.glass.c.set i v } }

/-- A call is entered through gate `g` (R238). -/
def State.colEnterCall (s : State) (c : CoreId) (rd : Fin 32) (g : CapReg) : State :=
  let s := s.modCore c (·.saveField rd)
  let s := foldState (State.copyArg c) [0, 1, 2, 3] s
  let s := s.modCore c fun k => { k.zeroFrom 9 with mask := s.get F.COL.CFG.entry_mask, resv := none }
  let s := s.colFlush c
  let s := s.modCore c fun k =>
    { k with world := .glass, pc := 0, glass := { k.glass with pcc :=
        ⟨capBits g.base g.length g.perms 0 g.epoch g.eidx, g.tag⟩ } }
  let s := s.colHold c modeCall (s.get F.COL.BUDGET.call_us)
  let s := (s.setReg R.COL.GATEBASE (BitVec.ofNat 32 g.base)).inc F.COL.CNT0.calls
  s.trace 0x13 (coreNum c) .glass g.base 0

/-- A recovery run starts on the calling core (R248). -/
def State.colEnterRecover (s : State) (c : CoreId) (rd : Fin 32) : State :=
  let s := s.modCore c (·.saveField rd)
  let s := s.modCore c (·.zeroFrom 9)
  let s := s.enterGlass c hdrGlassRecover
  let s := s.modCore c fun k =>
    { k.wr 1 (BitVec.ofNat 32 (s.get F.COL.WILT.cause)) with mask := s.get F.COL.CFG.entry_mask, resv := none }
  let s := s.colFlush c
  let s := s.colHold c modeRecover (64 * s.get F.COL.BUDGET2.recover)
  s.trace 0x13 (coreNum c) .glass (s.reg R.COL.GATEBASE).toNat 0

/-- R241 step 2: Glasshouse c0 goes to Field c0; R167 applies, and a tagged unsealed GLASS capability arrives untagged and
is counted. -/
def State.colReturnC0 (s : State) (c : CoreId) : State :=
  let (v, s) := s.moveCap c (s.core c).glass.c[(0 : Fin 8)]
  let strip := v.tag && decide (v.otype = 0) && v.perm permGLASS
  let s := if strip then s.inc F.COL.CNT2.stripped else s
  let v := if strip then { v with tag := false } else v
  s.modCore c fun k => { k with field := { k.field with c := k.field.c.set (0 : Fin 8) v } }

/-- R241 step 3: Glasshouse c0 to c3 become 0 with tag 0. -/
def Core.clearArgs (k : Core) : Core :=
  { k with glass := { k.glass with c := (((k.glass.c.set (0 : Fin 8) .null).set (1 : Fin 8) .null).set (2 : Fin 8) .null).set (3 : Fin 8) .null } }

/-- R241 step 4: the saved registers return, w1 and w2 stay, w3 to w17 and w28 become 0. -/
def Core.restoreField (k : Core) (sv : Saved) : Core :=
  { k with
    w := regsFrom fun r =>
      if r.val ≤ 2 then k.w[r] else if r.val ≤ 17 ∨ r.val = 28 then 0 else sv.w[r]
    mask := sv.mask }

/-- R241 steps 2 to 6 with completion value `v`: the Field resumes after its GATE. -/
def State.colReturn (s : State) (c : CoreId) (v : Word) : State :=
  match (s.core c).saved with
  | none => s
  | some sv =>
    let s := s.colReturnC0 c
    let s := s.modCore c fun k => (k.clearArgs).restoreField sv
    let s := s.colFlush c
    let s := s.modCore c fun k =>
      { k.wr (Fin.ofNat 32 sv.rd) v with world := .field, pc := sv.pc + 4, saved := none, resv := none }
    s.trace 0x14 (coreNum c) .glass v.toNat (v.toNat / 65536)

/-- R243: a boot stay ends with completion value `v`; the Field is entered with its roots. -/
def State.colBootReturn (s : State) (c : CoreId) (v : Word) : State :=
  let s := s.enterField c (if s.col.bootCold then hdrFieldEntry else hdrFieldResume)
  let s := s.modCore c fun k =>
    { (k.clearArgs) with
      w := regsFrom fun r => if r.val = 1 then v else if r.val = 2 then k.w[r] else 0
      mask := 0
      resv := none
      saved := none }
  let s := s.colFlush c
  s.trace 0x14 (coreNum c) .glass v.toNat (v.toNat / 65536)

/-- A recovery has failed: counted, logged with code 0x10, and at max_recover the Col closes (R249, R250). -/
def State.colRecoverFailed (s : State) : State :=
  let s := (s.inc F.COL.WILT.failed).log 0x05 0x10 (s.reg R.COL.WILT_PC).toNat
  if s.get F.COL.CFG.max_recover ≤ s.get F.COL.WILT.failed then
    ((s.put F.COL.STAT.closed 1).irq pageCOL 3).log 0x05 0x11 (s.reg R.COL.WILT_PC).toNat
  else s

/-- A completion value of the Col: 0xC0 in [31:24], a result code in [7:0] (R242). -/
def colValue (code : Nat) : Word := BitVec.ofNat 32 (0xC0000000 + code)

/-- The access for which a core stalls is given up: its stay or the core itself has ended (R100, R246). -/
def State.dropStall (s : State) (c : CoreId) : State :=
  { s.modCore c fun k => { k with stalled := none } with
    ent := { s.ent with stalled := s.ent.stalled.filter fun x => decide (x.ini ≠ coreIni c) } }

/-- R246: abort of the stay of core `c` with a WILT cause; after a core reset no completion value is written. The
Glasshouse hold register of the coupon pool is emptied (R348). -/
def State.colAbort (s : State) (c : CoreId) (cause : Nat) : State :=
  let mode := s.get F.COL.STAT.mode
  let reset := decide (cause = wiltCORE_RESET)
  let s := s.dropStall c
  let s := if reset then s else s.flushWays c (fun w => decide (w = 3))
  let s := { s with cry := { s.cry with held := s.cry.held.filter fun (h : Nat × Held) => decide (h.1 ≠ worldCode .glass) } }
  let s := ((s.put F.COL.WILT.cause cause).put F.COL.WILT.core (coreNum c)).inc F.COL.WILT.count
  let s := s.setReg R.COL.WILT_PC (s.core c).pc
  let s := (s.colRelease.put F.COL.STAT.wilted 1).colHoldoff
  let s := (s.irq pageCOL 0).log 0x05 cause (s.reg R.COL.WILT_PC).toNat
  if mode = modeCall then
    let s := s.inc F.COL.CNT1.aborted
    if reset then s else s.colReturn c (colValue 8)
  else if mode = modeBoot then
    if reset then s else s.colBootReturn c (colValue 8)
  else
    let s := s.colRecoverFailed
    if reset then s else s.colReturn c (colValue 7)

/-- The Col becomes FREE: no longer wilted. -/
def State.colFree (s : State) : State :=
  let s := ((s.colRelease.put F.COL.STAT.wilted 0).put F.COL.STAT.closed 0).put F.COL.STAT.recover_due 0
  { s with col := { s.col with holdoff := none } }

/-- UNGATE by the occupant (R241, R243, R249): `v` is rs1 of the UNGATE. -/
def State.colUngate (s : State) (c : CoreId) (v : Word) : State :=
  let mode := s.get F.COL.STAT.mode
  if mode = modeCall then
    (s.colReturn c (v &&& 0x00FFFFFF)).colFree
  else if mode = modeBoot then
    let s := s.colBootReturn c (v &&& 0x00FFFFFF)
    if s.on F.COL.STAT.wilted then s.colRelease else s.colFree
  else
    let s := s.colReturn c (colValue 7)
    if v.toNat % 256 = 0 then
      ((s.colFree).put F.COL.WILT.failed 0).irq pageCOL 1
    else
      (s.colRelease.colHoldoff).colRecoverFailed

/-- How the Col judges a GATE that has passed R206 (R236). -/
inductive Verdict where
  | refused (code : Nat) | recover | entered
  deriving DecidableEq, Repr

/-- R236: the first rule that applies decides. -/
def State.colJudge (s : State) (mask : Nat) : Verdict :=
  let held := s.on F.COL.STAT.held
  let mode := s.get F.COL.STAT.mode
  let wilted := s.on F.COL.STAT.wilted
  let closed := s.on F.COL.STAT.closed
  if 14 ≤ mask then .refused 4
  else if !s.on F.COL.STAT.present || (closed && !held) || (held && decide (mode = modeBoot) && closed) then .refused 7
  else if held && decide (mode = modeRecover) then .refused 7
  else if held && decide (mode = modeBoot) && wilted then .refused 7
  else if !held && wilted then (if s.on F.COL.STAT.recover_due then .recover else .refused 7)
  else if held then .refused 1
  else .entered

/-- A GATE by core `c` into `rd` through gate `g`, after R206 (R236 to R238, R248). -/
def State.colGate (s : State) (c : CoreId) (rd : Fin 32) (g : CapReg) : State :=
  match s.colJudge (s.core c).mask with
  | .entered => s.colEnterCall c rd g
  | .recover => s.colEnterRecover c rd
  | .refused code =>
    let s := if code = 4 then s.inc F.COL.CNT1.state
      else if code = 7 then s.inc F.COL.CNT1.absent
      else (s.inc F.COL.CNT0.busy).irq pageCOL 2
    s.modCore c fun k => { k.wr rd (colValue code) with pc := k.pc + 4, resv := none }

end Sys2Proof.Machine
end

