-- ==== Sys2Proof/Machine/Crc.lean ====
section
/-!
DEFINITION. The cyclic redundancy checks that the spec names: CRC-32 ISO-HDLC (R292), CRC-32C (R412), the CRC-8 of R525, the
CRC-16 of R442 and R472, and the CRC-7 of R466.
-/
namespace Sys2Proof.Machine
open Sys2Proof

/-- One bit of a reflected CRC. -/
def crcRefBit (poly c : Nat) : Nat := if c % 2 = 1 then (c / 2) ^^^ poly else c / 2

/-- One byte of a reflected CRC. -/
def crcRefByte (poly : Nat) (c : Nat) (b : Byte) : Nat := (numsFrom 8 0).foldl (fun c _ => crcRefBit poly c) (c ^^^ b.toNat)

/-- CRC-32 (ISO-HDLC). -/
def crc32 (m : List Byte) : Nat := (m.foldl (crcRefByte 0xEDB88320) 0xFFFFFFFF) ^^^ 0xFFFFFFFF

/-- One byte of a non-reflected CRC of `w` bits, `w` at least 8. -/
def crcByte (w poly : Nat) (c : Nat) (b : Byte) : Nat :=
  (numsFrom 8 0).foldl (fun c _ => if c.testBit (w - 1) then (2 * c % 2 ^ w) ^^^ poly else 2 * c % 2 ^ w)
    (c ^^^ (b.toNat <<< (w - 8)))

/-- A non-reflected CRC of `w` bits from an initial value. -/
def crcBits (w poly init : Nat) (m : List Byte) : Nat := m.foldl (crcByte w poly) init

/-- The packet error code of R525: x^8 + x^2 + x + 1, initial value 0. -/
def crc8 (m : List Byte) : Nat := crcBits 8 0x07 0 m

/-- CRC-16/CCITT-FALSE (R442, R509). -/
def crc16 (m : List Byte) : Nat := crcBits 16 0x1021 0xFFFF m

/-- The CRC-16 of a data line of the cartridge bus, over its share of a block bit by bit (R471, R472). -/
def crc16Line (bits : List Bool) : Nat :=
  bits.foldl (fun c b => if c.testBit 15 != b then (2 * c % 2 ^ 16) ^^^ 0x1021 else 2 * c % 2 ^ 16) 0

/-- The CRC-7 of R466: x^7 + x^3 + 1, initial value 0. -/
def crc7 (m : List Byte) : Nat := crcBits 8 0x12 0 m / 2

/-- CRC-32C from an initial value, before the final XOR (R412). -/
def crc32c (init : Nat) (m : List Byte) : Nat := m.foldl (crcRefByte 0x82F63B78) init

end Sys2Proof.Machine
end

