-- ==== Sys2Proof/Machine/Options.lean ====
section
/-!
DEFINITION. The option area at reset (R108, R291 to R294): which set is committed, which is taken, and what its shadows are.
-/
namespace Sys2Proof.Machine
open Sys2Proof

/-- The address of option block A or B. -/
def optBase (blk : Nat) : Nat := 0x01800000 + 0x2000 * blk

def optMagic : Nat := 0x4F505431
def optCommit : Nat := 0x434D5431

/-- An option block is committed (R292). -/
def State.optCommitted (s : State) (blk : Nat) : Bool :=
  let b := optBase blk
  let c := b + 15 * 512
  decide (s.loadN b 4 = optMagic) && decide (s.loadN c 4 = optCommit) && decide (s.loadN (c + 4) 4 = s.loadN (b + 4) 4) &&
    decide (s.loadN (c + 8) 4 = crc32 (s.bytes b 512))

/-- The set to load: the committed one, of two the higher sequence number, block A when equal (R108 and its table). -/
def State.optChoice (s : State) : Option Nat :=
  match s.optCommitted 0, s.optCommitted 1 with
  | true, true => some (if s.loadN (optBase 0 + 4) 4 < s.loadN (optBase 1 + 4) 4 then 1 else 0)
  | true, false => some 0
  | false, true => some 1
  | false, false => none

/-- Slot bounds as loaded: outside 0 to 63, or last below first, they read as the defaults (R294). -/
def slotBounds (first last dfirst dlast : Nat) : Nat × Nat :=
  if 63 < first ∨ 63 < last ∨ last < first then (dfirst, dlast) else (first, last)

/-- Words of memory from `a`. -/
def State.words (s : State) (a n : Nat) : List Word := (numsFrom n 0).map fun k => BitVec.ofNat 32 (s.loadN (a + 4 * k) 4)

/-- Load the shadows into OPT, and what follows from them in SYS (R108, R294). -/
def State.loadOptions (s : State) : State :=
  match s.optChoice with
  | none =>
    let s := (s.put F.SYS.BOOT_STAT.option_default 1).put F.SYS.BOOT_STAT.option_set 0
    let s := ((s.setReg R.OPT.SET 2).setReg R.OPT.SEQ 0).setReg R.OPT.CFG 0
    let s := s.setReg R.OPT.SLOTS 0x3F201F00
    let s := s.setRegs R.OPT.KEYD (List.replicate 64 0)
    (s.setRegs R.OPT.FLOOR (List.replicate 16 0)).put F.SYS.LOCKUP.action 0
  | some blk =>
    let b := optBase blk
    let pref := if s.loadN (b + 8) 1 = 1 then 1 else 0
    let act := s.loadN (b + 9) 1
    let sa := slotBounds (s.loadN (b + 0xC) 1) (s.loadN (b + 0xD) 1) 0 31
    let sb := slotBounds (s.loadN (b + 0xE) 1) (s.loadN (b + 0xF) 1) 32 63
    let s := (s.put F.SYS.BOOT_STAT.option_default 0).put F.SYS.BOOT_STAT.option_set blk
    let s := s.setReg R.OPT.SET (BitVec.ofNat 32 blk)
    let s := s.setReg R.OPT.SEQ (BitVec.ofNat 32 (s.loadN (b + 4) 4))
    let s := s.setReg R.OPT.CFG (BitVec.ofNat 32 (pref + 2 ^ 8 * act))
    let s := s.setReg R.OPT.SLOTS (BitVec.ofNat 32 (sa.1 + 2 ^ 8 * sa.2 + 2 ^ 16 * sb.1 + 2 ^ 24 * sb.2))
    let s := s.setRegs R.OPT.KEYD (s.words (b + 0x20) 64)
    (s.setRegs R.OPT.FLOOR (s.words (b + 0x120) 16)).put F.SYS.LOCKUP.action act

end Sys2Proof.Machine
end

