-- ==== Sys2Proof/Machine/Latch.lean ====
section
/-!
DEFINITION. The life-cycle latch (R121, R122, R124 to R126), the failure count and the back-off that a reset restarts (R131 to
R133), and zgen (R342).
-/
namespace Sys2Proof.Machine
open Sys2Proof

/-- Life-cycle states (R121). -/
def lcBLANK : Nat := 0
def lcCHECKED : Nat := 1
def lcPERSONAL : Nat := 2
def lcFIELDED : Nat := 3
def lcRECALLED : Nat := 4
def lcRETIRED : Nat := 5

/-- The life-cycle state (LC.STATE.state). -/
def State.lcState (s : State) : Nat := s.get F.LC.STATE.state

/-- The highest valid record page (R125). -/
def lastValid : List LcRec → Nat → Option LcRec
  | [], _ => none
  | r :: rs, i =>
    match lastValid rs (i + 1) with
    | some x => some x
    | none => if r.valid ∧ r.page = i then some r else none

/-- The state that the record latches (R125). -/
def State.lcLatched (s : State) : Nat :=
  match lastValid s.flash.lcRec 0 with
  | none => lcRETIRED
  | some r => if 64 ≤ s.flash.lcRec.length ∧ r.state ≠ lcRETIRED then lcRETIRED else r.state

/-- A transition that zeroised the key store (R127): into RECALLED or RETIRED, or the plain write into PERSONAL. -/
def LcRec.zeroised (r : LcRec) : Bool :=
  decide (r.state = lcRECALLED ∨ r.state = lcRETIRED ∨ (r.state = lcPERSONAL ∧ r.method = 1))

/-- zgen (R342): the number of the highest valid page whose transition zeroised the key store, or 0. -/
def State.zgen (s : State) : Nat :=
  (numsFrom s.flash.lcRec.length 0).foldl (fun z i =>
    match s.flash.lcRec[i]? with
    | some r => if r.valid ∧ r.page = i ∧ r.zeroised then i else z
    | none => z) 0

/-- The probe level of a state, without a debug grant (R122). -/
def probeLevelOf (st : Nat) : Nat :=
  if st ≤ lcPERSONAL then 3 else if st = lcFIELDED then 0 else if st = lcRECALLED then 2 else 1

/-- The permissions of a life-cycle state as LC.STATE shows them (R122). -/
def State.lcPermissions (s : State) (st : Nat) : State :=
  let s := (s.put F.LC.STATE.state st).putB F.LC.STATE.unsigned_glass (decide (st ≤ lcCHECKED))
  let s := s.putB F.LC.STATE.unsigned_field (decide (st ≤ lcPERSONAL ∨ st = lcRECALLED))
  let s := s.putB F.LC.STATE.glass_avail (decide (st ≤ lcFIELDED))
  (s.putB F.LC.STATE.floors (decide (st = lcFIELDED))).put F.LC.STATE.probe (probeLevelOf st)

/-- Consecutive failures (R131): LC_FAIL − LC_FAILBASE, saturated. -/
def State.failCount (s : State) : Nat := satAdd 65535 ((s.counter cntLC_FAIL).1 - (s.counter cntLC_FAILBASE).1) 0

/-- Back-off seconds after `n` consecutive failures (R132). -/
def backoffSecs (n : Nat) : Nat := if n < 4 then 0 else min (2 ^ (n - 3)) 32768

/-- The back-off of the current failure count starts in full (R132, R133); a tick is 1/32,768 s. -/
def State.startBackoff (s : State) : State :=
  let n := s.failCount
  let s := (s.put F.LC.FAILS.count n).put F.LC.FAILS.backoff (min 65535 (backoffSecs n))
  { s with lc := { s.lc with backoff := 32768 * backoffSecs n } }

/-- The life-cycle latch at a power-on or system reset (R97, R125, R133). -/
def State.latchLc (s : State) : State :=
  let s := s.lcPermissions s.lcLatched
  let n := s.flash.lcRec.length
  let s := (s.put F.LC.STATE.next_page (min n 64)).putB F.LC.STATE.retire_only (decide (n = 63))
  s.startBackoff

/-! ### Cloche floors (R371, R373) -/

/-- Clock sources, and those among them that watch for short cycles (R352 to R354). -/
def cloClock (n : Nat) : Bool := decide (n < 15)
def cloShort (n : Nat) : Bool := decide (n < 15 ∧ n % 3 = 2)

/-- The floor word of source `n` (R371). -/
def State.floorWord (s : State) (n : Nat) : Nat := (s.reg (R.OPT.FLOOR + 4 * (n / 2))).toNat / 2 ^ (16 * (n % 2)) % 2 ^ 16

/-- A sens code is weaker than the floor's: below it on short sources, above it on high and low sources (R371). -/
def sensWeak (n sens floor : Nat) : Bool :=
  if cloShort n then decide (sens < floor / 2 ^ 12) else cloClock n && decide (floor / 2 ^ 12 < sens)

/-- Raise RESPn to its floor (R373). -/
def State.raiseFloor (n : Nat) (s : State) : State :=
  let f := s.floorWord n
  let r := F.CLO.RESP.resp.idx 4 n
  let s := s.put r (s.get r ||| f % 2 ^ 9)
  let s := if f.testBit 9 then s.put (F.CLO.RESP.en.idx 4 n) 1 else s
  let q := F.CLO.RESP.sens.idx 4 n
  if sensWeak n (s.get q) f then s.put q (f / 2 ^ 12) else s

/-- Raise every RESPn while floors apply (R373). -/
def State.raiseFloors (s : State) : State := if s.on F.LC.STATE.floors then foldState State.raiseFloor (numsFrom 32 0) s else s

end Sys2Proof.Machine
end

