-- ==== Sys2Proof/Machine/Mpu.lean ====
section
/-!
DEFINITION. The system MPU's judgement of an access (R251, R269 to R273): the active rules of a channel, the coverage of a
region in plain and subregion mode, and the record of a refused access.
-/
namespace Sys2Proof.Machine
open Sys2Proof

/-- The kind of an access as the MPU and the capability checks see it. -/
inductive Kind where
  | read | write | fetch
  deriving DecidableEq, Repr

/-- Address of CHCTRL of channel `ch`. -/
def aChctrl (ch : Nat) : Nat := R.SMPU.CHCTRL + 4 * ch
/-- Address of RBASE of region `n` of channel `ch`. -/
def aRbase (ch n : Nat) : Nat := R.SMPU.RBASE + 0x80 * ch + 8 * n
/-- Address of RATTR of region `n` of channel `ch`. -/
def aRattr (ch n : Nat) : Nat := R.SMPU.RATTR + 0x80 * ch + 8 * n

/-- A region's rule: its two register words. -/
structure Rule where
  base : Word
  attr : Word
  deriving DecidableEq, Repr

def Rule.en (r : Rule) : Bool := r.attr.toNat.testBit 0
def Rule.subMode (r : Rule) : Bool := r.attr.toNat.testBit 1
def Rule.size (r : Rule) : Nat := bitsOf r.attr.toNat 7 2
def Rule.r (r : Rule) : Bool := r.attr.toNat.testBit 8
def Rule.w (r : Rule) : Bool := r.attr.toNat.testBit 9
def Rule.x (r : Rule) : Bool := r.attr.toNat.testBit 10
def Rule.glassOnly (r : Rule) : Bool := r.attr.toNat.testBit 11
def Rule.srd (r : Rule) : Nat := bitsOf r.attr.toNat 23 16

/-- The size code is one of 5 to 32 (R275). -/
def Rule.sizeOk (r : Rule) : Bool := decide (5 ≤ r.size ∧ r.size ≤ 32)

/-- RBASE as the checks take it: bits below 2^size read 0 while the size is 5 to 32 (R275). -/
def Rule.baseAddr (r : Rule) : Nat :=
  if r.sizeOk then r.base.toNat / 2 ^ r.size * 2 ^ r.size else r.base.toNat / 32 * 32

/-- The address lies in the region's 2^size bytes (R270). -/
def Rule.inside (r : Rule) (a : Nat) : Bool := decide (r.baseAddr ≤ a ∧ a < r.baseAddr + 2 ^ r.size)

/-- The subregion of an address inside the region: eight equal parts, 0 the lowest (R270). -/
def Rule.subIndex (r : Rule) (a : Nat) : Nat := (a - r.baseAddr) / 2 ^ (r.size - 3)

/-- The region covers the address: in a plain region all of it, in subregion mode where the srd bit is 0 (R270). -/
def Rule.covers (r : Rule) (a : Nat) : Bool :=
  r.inside a && (!r.subMode || !r.srd.testBit (r.subIndex a))

/-- The address falls in a disabled subregion of the region (R271). -/
def Rule.disabledAt (r : Rule) (a : Nat) : Bool :=
  r.inside a && r.subMode && r.srd.testBit (r.subIndex a)

/-- The active rule of region `n` of channel `ch` (R276 to R278). -/
def State.activeRule (s : State) (ch n : Nat) : Rule :=
  ⟨tabGet 0 s.mpuActive (aRbase ch n), tabGet 0 s.mpuActive (aRattr ch n)⟩

/-- The pending rule of region `n` of channel `ch`: its registers. -/
def State.pendingRule (s : State) (ch n : Nat) : Rule := ⟨s.reg (aRbase ch n), s.reg (aRattr ch n)⟩

/-- Whether the channel's checks are on in its active rules (R271). -/
def State.chCheck (s : State) (ch : Nat) : Bool := (tabGet 0 s.mpuActive (aChctrl ch)).toNat.testBit 0

/-- The MPU channel of an initiator (R269); the management port has none. -/
def iniChannel : Ini → Option Nat
  | .core0 => some 0 | .core1 => some 1 | .trellis => some 2 | .cipher => some 3 | .cart => some 4
  | .host => some 5 | .probe => some 6 | .port => some 7 | .mgmt => none

/-- MPU sub-causes (R271's table). -/
def mpuNO_REGION : Nat := 1
def mpuPERM : Nat := 2
def mpuWORLD : Nat := 3
def mpuSUBREGION : Nat := 4
def mpuOVERLAP : Nat := 5

/-- The regions of a channel, numbered, that satisfy `p` on their active rule and are enabled. -/
def State.regionsWith (s : State) (ch : Nat) (p : Rule → Bool) : List Nat :=
  (numsFrom 16 0).filter fun n => (s.activeRule ch n).en && p (s.activeRule ch n)

/-- The MPU's judgement: none, or the sub-cause and the region it names (R251, R271, R272). Execution is checked on core
channels only (RATTR.x is ignored on channels 2 to 7). -/
def State.mpuJudge (s : State) (ch : Nat) (w : World) (k : Kind) (a : Nat) : Option (Nat × Nat) :=
  if decide (regionOf a = .sramG) && decide (w = .field) then some (mpuWORLD, 0)
  else if !s.chCheck ch then none
  else
    match s.regionsWith ch (·.covers a) with
    | [] =>
      match s.regionsWith ch (·.disabledAt a) with
      | [] => some (mpuNO_REGION, 0)
      | n :: _ => some (mpuSUBREGION, n)
    | [n] =>
      let r := s.activeRule ch n
      if r.glassOnly && decide (w = .field) then some (mpuWORLD, n)
      else if (match k with | .read => !r.r | .write => !r.w | .fetch => !r.x) then some (mpuPERM, n)
      else none
    | n :: _ => some (mpuOVERLAP, n)

/-- Record a refused access in MFAULTn and MFADDRn and set IRQ_RAW bit n (R272); an OVERLAP also reports the Cloche source
for bus and memory integrity errors (R273). -/
def State.mpuRecord (s : State) (ch sub region : Nat) (w : World) (write fetch : Bool) (a : Nat) : State :=
  let s :=
    if s.on (F.SMPU.MFAULT.valid.idx 4 ch) then s
    else
      let cnt := s.get (F.SMPU.MFAULT.count.idx 4 ch)
      (s.setReg (R.SMPU.MFAULT + 4 * ch)
        (BitVec.ofNat 32 (sub + 2 ^ 8 * region + 2 ^ 12 * worldCode w + 2 ^ 13 * b2n write + 2 ^ 14 * b2n fetch + 2 ^ 15 +
          2 ^ 16 * cnt))).setReg (R.SMPU.MFADDR + 4 * ch) (BitVec.ofNat 32 a)
  let s := (s.inc (F.SMPU.MFAULT.count.idx 4 ch)).irq pageSMPU ch
  if sub = mpuOVERLAP then s.cloche 28 0 else s

end Sys2Proof.Machine
end

