-- ==== Sys2Proof/Machine/Reset.lean ====
section
/-!
DEFINITION. Resets (ch. 5): what a power-on, a system and a core reset reach (R97 to R101), what a power domain loses when it
goes down (R84, R161, R255, R554), and the records of a reset (SYS.RST_CAUSE, RST_HIST, the event log).
-/
namespace Sys2Proof.Machine
open Sys2Proof

/-- The row of a page's register table that holds offset `off`. -/
def findReg (t : List RegInfo) (off : Nat) : Option RegInfo :=
  t.find? fun r => decide (r.off ≤ off ∧ off < r.off + r.stride * r.n ∧ (off - r.off) % r.stride = 0)

/-- The sticky bits of a register (RWS). -/
def rwsMask (a : Nat) : Word :=
  match findReg (pageRegs (pageOf a)) (a % 0x1000) with
  | some r => r.rws
  | none => 0

/-- An address lies in page `p`. -/
def inPage (p a : Nat) : Bool := decide (pageBase p ≤ a ∧ a < pageBase p + 0x1000)

/-- Reset page `p`: every register at its reset value, sticky bits kept (R97, the Reset column). -/
def State.resetPage (p : Nat) (s : State) : State :=
  let old := s.regs.filter fun e => inPage p e.1
  let s := { s with regs := tabDrop (inPage p) s.regs, lockKeys := tabDrop (· == p) s.lockKeys }
  let s := foldState (fun e s => s.setReg e.1 e.2) (resetRegs.filter fun e => inPage p e.1) s
  foldState (fun e s => s.setReg e.1 (s.reg e.1 ||| (e.2 &&& rwsMask e.1))) old s

/-- Reset several pages. -/
def State.resetPages (ps : List Nat) (s : State) : State := foldState State.resetPage ps s

/-- The boot ROM's own capability: the ROM, readable and executable, as a Glasshouse capability on index 32 (log 8). -/
def State.romPcc (s : State) : CapReg := s.root .glass 0 0x8000 (permSet [0, 2, 7, 9, 10])

/-- A core starts the boot ROM at 0x0000_0000 (R107, R101, R116; log 8), on the restart path or on the cold or warm path; while the Y880
is held in reset it has power and does not start (R46, R103). -/
def State.startRom (s : State) (c : CoreId) (restart : Bool) : State :=
  s.modCore c fun k =>
    if s.inReset then { k with powered := true }
    else { k with powered := true, started := true, wfi := false, world := .glass, pc := 0, rom := some restart,
                  glass := { k.glass with pcc := s.romPcc } }

/-- The MPU's active rules of channel `ch` become its register values (R276, R277). -/
def State.activate (s : State) (ch : Nat) : State :=
  let keys := aChctrl ch :: ((numsFrom 16 0).map (aRbase ch) ++ (numsFrom 16 0).map (aRattr ch))
  { s with mpuActive := foldState (fun a t => tabSet 0 a (s.reg a) t) keys s.mpuActive }

/-- The reset values become active for channel `ch` (R276). -/
def State.activateReset (s : State) (ch : Nat) : State :=
  let keys := aChctrl ch :: ((numsFrom 16 0).map (aRbase ch) ++ (numsFrom 16 0).map (aRattr ch))
  { s with mpuActive := foldState (fun a t => tabSet 0 a (tabGet 0 resetRegs a) t) keys s.mpuActive }

/-- Record a reset: the previous cause shifts into RST_HIST, RST_CAUSE takes cause and scope. -/
def State.recordReset (s : State) (cause scope : Nat) : State :=
  let h := (s.reg R.SYS.RST_HIST).toNat * 256 + s.get F.SYS.RST_CAUSE.cause
  let s := s.setReg R.SYS.RST_HIST (BitVec.ofNat 32 h)
  (s.put F.SYS.RST_CAUSE.cause cause).put F.SYS.RST_CAUSE.scope scope

/-- The log entry of a reset source (R99, R545): cause; scope and sys_count. -/
def State.logReset (s : State) (cause scope : Nat) : State :=
  s.log 0x01 cause (scope + 256 * s.get F.SYS.RST_CAUSE.sys_count)

/-- A REFCLK output of an enabled Ethernet port asks for the PLL (R426). -/
def State.refclkWanted (s : State) : Bool :=
  (numsFrom 2 0).any fun p => s.on (F.ETH.CTRL.en.idx 0x1000 p) && s.on (F.ETH.CTRL.ref_out.idx 0x1000 p)

/-- HFXO stops without users, and the PLL without HFXO, boost request or REFCLK output (the source table of ch. 4; R76). -/
def State.oscStop (s : State) : State :=
  let s := if s.get F.PWR.XO.users = 0 then s.put F.PWR.XO.hfxo_ok 0 else s
  if s.on F.PWR.XO.hfxo_ok && (s.on F.PWR.BOOST.req || s.refclkWanted) then s else s.put F.PWR.XO.pll_lock 0

/-- Set or clear a user of HFXO (R76). -/
def State.xoUser (s : State) (k : Nat) (b : Bool) : State := (s.putB (F.PWR.XO.users.bit k) b).oscStop

/-- Boost ends: the cores go back to 96 MHz, VCORE steps down, and the PLL and boost's user of HFXO are released (R79). -/
def State.boostOff (s : State) : State :=
  let was := s.on F.PWR.BOOST.active
  let s := (s.put F.PWR.BOOST.req 0).put F.PWR.BOOST.active 0
  { s with aon := { s.aon with vcore := s.aon.vcore.drop, winSkip := s.aon.winSkip || was } }.xoUser 4 false

/-- The power path takes VSYS while it is debounced and not forced to VBAT (R51, R53); a change of source is counted and
raises its event, and leaving VSYS drops boost (R79). -/
def State.pathUpdate (s : State) : State :=
  let want := s.on F.PWR.PATH.vsys_ok && !s.on F.PWR.PATH.force_vbat
  if want = s.on F.PWR.PATH.src then s
  else
    let s := (s.putB F.PWR.PATH.src want).inc F.PWR.PATH.switch_cnt
    if want then s.irq pagePWR 1
    else
      let s := s.irq pagePWR 0
      if s.on F.PWR.BOOST.active then (s.boostOff.put F.PWR.BOOST.dropped 1).irq pagePWR 3
      else if s.on F.PWR.BOOST.req then s.boostOff.inc F.PWR.BOOST.refused
      else s

/-- An SRAM address range loses contents, tags and row bits, and the caches its lines (R161, R255). -/
def State.loseSram (s : State) (lo hi : Nat) : State := (((s.clearMem lo hi).clearTags lo hi).clearRows lo hi).dropRange lo hi

/-- A running sweep drops the banks of a domain that powers down (R172). -/
def State.dropBanks (s : State) (bs : List Nat) : State :=
  { s with sweep := s.sweep.map fun w => { w with banks := w.banks.filter fun b => !bs.contains b } }

/-- What TRC keeps when PD13 goes down: with CTRL.retain, CTRL and WPTR and the trace RAM (R554). -/
def State.loseTrace (s : State) (reset : Bool) : State :=
  let ctrl := s.reg R.TRC.CTRL
  let wptr := s.reg R.TRC.WPTR
  let keep := s.on F.TRC.CTRL.retain
  let s := { s.resetPage pageTRC with trcFifo := [], trcLost := 0 }
  if keep then
    let s := (s.setReg R.TRC.CTRL ctrl).setReg R.TRC.WPTR wptr
    if reset then s.put F.TRC.CTRL.en 0 else s
  else s.clearMem 0x60000000 0x60010000

/-- A power domain loses what it holds: its pages and its hidden state (R84, R161, R255, R554). `reset` tells a reset from a
power-down. -/
def State.domainLost (s : State) (d : Nat) (reset : Bool) : State :=
  if d = 1 then 
    { s.resetPage pageRLP with trl := { s.trl with kept := [] }, radio := { Radio.init with wake := s.radio.wake }, sieve := Sieve.init }
  else if d = 2 then { (s.resetPage pageCPU0) with core0 := Core.init }
  else if d = 3 then { (s.resetPage pageCPU1) with core1 := Core.init }
  else if d = 4 then (s.loseSram 0x20000000 0x20040000).dropBanks [0, 1]
  else if d = 5 then (s.loseSram 0x20040000 0x20080000).dropBanks [2, 3]
  else if d = 6 then (s.loseSram 0x28000000 0x28020000).dropBanks [4]
  else if d = 7 then s.resetPage pageFLC
  else if d = 8 then s.resetPage pageLDG
  else if d = 9 then
    let s := match s.cry.refill with
      | some (_, i) => if reset then s else s.cutRecord (0x30004000 + 96 * i) 96
      | none => s
    let s := if reset then { s with ent := Ent.off 0 false false, cry := Cry.off [] }
      else { s with ent := Ent.off s.ent.chain s.ent.booted s.ent.failed, cry := Cry.off s.cry.ctxs }
    s.resetPages [pageENT, pageCRY, pageKEY]
  else if d = 11 then { (s.resetPages [pageTRL, pageRING, pageRDL, pageRDLT, pageETH0, pageETH1]) with
    trlLines := [], fab := { s.fab with trlEvict := none }, trl := Trl.init (if reset then [] else s.trl.kept)
    rules := [], rin := [], eth0 := EthPort.init, eth1 := EthPort.init, mdio := none }
  else if d = 12 then { s.resetPage pageGCB with gcb := { s.gcb with job := none } }
  else if d = 13 then { (s.resetPages [pageHLK, pageGPIO, pageADC, pagePRB]).loseTrace reset with
    adc := Adc.init, hlkUnderrun := false, prb := Prb.init }
  else s

/-- The pages of PD0 that a system reset reaches (R97's scope table). -/
def systemPages : List Nat := [pageSYS, pagePWR, pageLC, pageOPT, pageSMPU, pageCOL, pageINTC, pageTMR]

/-- A reset of any scope ends every built-in test of the Cloche without a result (R370). -/
def State.endTests (s : State) : State := (s.setReg R.CLO.BIST_A 0).setReg R.CLO.BIST_B 0

/-- What a system reset leaves of the machine, before the boot ROM starts: every domain but PD0 reset, the PD0 pages but AON,
CLO, MGP and SNAP reset, supplies and clocks that PD0 shows kept, epochs and sweeps as R173, the Col in NONE (R235), option
shadows and life-cycle latch reloaded (R97). -/
def State.systemClear (s : State) : State :=
  let s := s.flashAbort
  let path := s.reg R.PWR.PATH
  let grp := s.reg R.PWR.IOGRP
  let vbat := s.get F.PWR.VBAT.vbat_mv
  let lf := (s.get F.PWR.XO.lfxo_ok, s.get F.PWR.XO.lf_src)
  let pin := s.reg R.SYS.RSTPIN
  let rst := s.reg R.SYS.RST_CAUSE
  let s := foldState (fun d s => s.domainLost d true) [1, 2, 3, 4, 5, 6, 7, 8, 9, 11, 12, 13] s
  let s := s.resetPages systemPages
  let s := s.setReg R.PWR.PATH (path &&& 7)
  let s := ((s.setReg R.PWR.IOGRP grp).put F.PWR.VBAT.vbat_mv vbat).setReg R.SYS.RST_CAUSE rst
  let s := (s.put F.SYS.RSTPIN.level (F.SYS.RSTPIN.level.get pin)).put F.SYS.RSTPIN.held (F.SYS.RSTPIN.held.get pin)
  let s := (s.put F.PWR.XO.lfxo_ok lf.1).put F.PWR.XO.lf_src lf.2
  let s := s.pathUpdate
  let s := { s with
    slots := [], flash := { s.flash with op := none }
    lc := ⟨none, none, false, 0, 0⟩
    ldg := { s.ldg with ready := false, cmd := none, posted := [] }
    epochs := [], sweepDone := 2 ^ 64 - 1, sweep := none, sweepLast := (0, 0), trlLines := [], fab := .idle
    col := ⟨none, false, 0, false, []⟩
    mgp := { s.mgp with session := 0, mc := none }
    cloWait := none
    aon := { s.aon with
      seq := none, sleepHold := false, entry := none, committed := false, writing := false, raised := 0, pstate := 0, heldWake := 0
      vcore := s.aon.vcore.drop
      pinHold := [] } }
  let s := foldState (fun ch s => s.activateReset ch) (numsFrom 8 0) s
  ((s.endTests.loadOptions).latchLc).raiseFloors

/-- The Cloche's core response reaches both cores: one source (R98, R363). -/
def both9 (srcs : List RstSrc) : Bool := decide (⟨0x09, some .core0⟩ ∈ srcs ∧ ⟨0x09, some .core1⟩ ∈ srcs)

/-- The log entries of reset sources, in the order given (R99, R545): each with its cause and the scope it asks for; the Cloche's core
response to both cores is one source. -/
def State.logSources (s : State) (srcs : List RstSrc) : State :=
  let both := both9 srcs
  foldState (fun (r : RstSrc) s =>
    if both && decide (r.cause = 0x09) then (if r.core = some .core1 then s else s.logReset r.cause 4)
    else s.logReset r.cause (match r.core with | none => 1 | some k => 2 + coreNum k)) srcs s

/-- A system reset recorded with a cause of R98 (R97), from the sources given: counted and logged, and core 0 starts the boot ROM unless
RESET_N holds the reset (R103) or TEST is high (R46). -/
def State.systemResetFrom (s : State) (cause : Nat) (srcs : List RstSrc) : State :=
  let s := ((s.cutLedger.inc F.SYS.RST_CAUSE.sys_count).recordReset cause 1).logSources srcs
  let s := s.systemClear
  s.startRom .core0 false

/-- A system reset of one source. -/
def State.systemReset (s : State) (cause : Nat) : State := s.systemResetFrom cause [⟨cause, none⟩]

/-- Discard a core's edge latches (R225). -/
def State.clearLatches (s : State) (c : CoreId) : State :=
  foldState (fun n s => s.put ((F.INTC.LINE.latched.idx 4 n).bit (coreNum c)) 0) (numsFrom 128 0) s

/-- A core reset recorded with a cause of R98 and a scope (R100, R101): a Glasshouse stay is aborted, dirty lines are
discarded, the core, its page, predictor, latches and MPU channel return to reset values, and the core starts the boot ROM's
restart path. -/
def State.coreResetScope (s : State) (c : CoreId) (cause scope : Nat) : State :=
  let s := if s.colHeldBy c then s.colAbort c wiltCORE_RESET else s
  let s := (s.discardCache c).dropStall c
  let powered := (s.core c).powered
  let s := (s.setCore c { Core.init with powered := powered }).resetPage (cpuPage c)
  let s := ((s.clearLatches c).activateReset (coreNum c)).recordReset cause scope
  if powered then s.startRom c true else s

/-- A core reset of one core from the sources given. -/
def State.coreResetFrom (s : State) (c : CoreId) (cause : Nat) (srcs : List RstSrc) : State :=
  (s.endTests.logSources srcs).coreResetScope c cause (2 + coreNum c)

/-- A core reset of one core by one source. -/
def State.coreReset (s : State) (c : CoreId) (cause : Nat) : State := s.coreResetFrom c cause [⟨cause, some c⟩]

/-- A core reset of both cores (scope 4), which is one reset in RST_HIST. -/
def State.bothReset (s : State) (cause : Nat) (srcs : List RstSrc) : State :=
  let s := (s.endTests.logSources srcs).coreResetScope .core0 cause 4
  let k := s.reg R.SYS.RST_HIST
  (s.coreResetScope .core1 cause 4).setReg R.SYS.RST_HIST k

/-- R99: of several sources in one cycle the broadest scope is performed with the lowest cause among the sources of that scope, and every
source has its log entry. The Cloche's core response to both cores is one source of the scope of both cores, which is broader than one
core's. Sources that reset one core each, of different cores, are equally broad: the model takes them as one reset of both cores with the
lowest cause (DESIGN CHOICE, log 73). -/
def State.resetMany (s : State) (srcs : List RstSrc) : State :=
  let sys := srcs.filter (·.core.isNone)
  let low (l : List RstSrc) : Nat := l.foldl (fun m r => min m r.cause) 255
  match sys with
  | _ :: _ => s.systemResetFrom (low sys) srcs
  | [] =>
    let c0 := srcs.filter fun r => r.core == some .core0
    let c1 := srcs.filter fun r => r.core == some .core1
    if c0.isEmpty then (if c1.isEmpty then s else s.coreResetFrom .core1 (low c1) c1)
    else if c1.isEmpty then s.coreResetFrom .core0 (low c0) c0
    else s.bothReset (if both9 srcs then 0x09 else low srcs) srcs

end Sys2Proof.Machine
end

