-- ==== Sys2Proof/Machine/Traps.lean ====
section
/-!
DEFINITION. Checks on a fetch (R157 with o = pc, s = 4), trap entry (R211, R212), severe events and lockup (R217 to R219), the
raising of an instruction's fault (R210), imprecise bus errors (R215, R216), the interrupt that a core takes (R221 to R224), and what a core
does at an instruction boundary (R185, R232).
-/
namespace Sys2Proof.Machine
open Sys2Proof

/-- Fault classes (ch. 9). -/
def clsINTERRUPT : Nat := 0x10
def clsSOFTWARE : Nat := 8
def clsBUS_IMPRECISE : Nat := 4

/-- SCAUSE reasons (R217). -/
def sevESCALATED : Nat := 1
def sevVECTOR : Nat := 2
def sevCLOCHE : Nat := 3

/-- Vector offsets (R211). -/
def vecSync : Nat := 0x000
def vecImprecise : Nat := 0x040
def vecInterrupt : Nat := 0x080
def vecSoftware : Nat := 0x0C0
def vecSevere : Nat := 0x100

/-- An access to `a` waits for a domain that is powering up (R82). -/
def State.risingAt (s : State) (a : Nat) : Bool := s.pdRising (addrDomain a) && !s.pdServes (addrDomain a)

/-- A program or erase is running in the flash bank of address `a` (R284). -/
def State.bankBusy (s : State) (a : Nat) : Bool :=
  s.flash.op.isSome &&
    (match regionOf a with
    | .flash => decide (s.get F.FLC.STAT.bank = a % 0x400000 / 0x200000)
    | .option => decide (s.get F.FLC.STAT.bank = a % 0x4000 / 0x2000)
    | _ => false)

/-- A read of `a` stalls: its domain is powering up, or its flash bank is busy (R82, R284). -/
def State.readStalls (s : State) (a : Nat) : Bool := s.risingAt a || s.bankBusy a

/-- Where a bus error of a fetch comes from: an address the core cannot fetch from, or a domain that is off (R16, R82). -/
def State.fetchBus (s : State) (a : Nat) : Option Nat :=
  match regionOf a with
  | .rom | .flash | .sramF | .sramG =>
    if addrDomain a = 0 || s.pdServes (addrDomain a) || s.pdRising (addrDomain a) then none else some 3
  | _ => some 1

/-- The checks of R157 on a fetch of 4 bytes at offset `o` of `pcc` by a core in world `w`: the first that fails. A line that the instruction
cache holds needs no access. -/
def State.fetchCheck (s : State) (c : CoreId) (w : World) (pcc : CapReg) (o : Nat) : Option Flt :=
  let a := (pcc.base + o) % 2 ^ 32
  match s.useCause w pcc with
  | some k => some (fltCap k o a)
  | none =>
    if !pcc.perm permEXEC then some (fltCap capPERM o a)
    else if pcc.length < o + 4 then some (fltBounds bndFETCH o a)
    else if a % 4 ≠ 0 then some (fltMisaligned o a)
    else if isDevice a then some (fltCap capDEVICE o a)
    else
      match s.mpuJudge (coreNum c) w .fetch a with
      | some (sub, n) => some { cls := 7, sub := sub, tval := o, taddr := a, region := n, fetch := true }
      | none => if (s.core c).codeLine? a then none else (s.fetchBus a).map fun sub => fltBus sub o a

/-- What a fault leaves in the records outside the core: an MPU refusal in MFAULTn (R272), a domain-off access in PWR (R82), and
the core's counters of capability and bounds faults. -/
def State.countFault (s : State) (c : CoreId) (f : Flt) : State :=
  if f.cls = 7 then s.mpuRecord (coreNum c) f.sub f.region (s.worldOf c) f.write f.fetch f.taddr
  else if f.cls = 6 then s.inc (F.CPU.CAPCNT.cap_faults.cpu c)
  else if f.cls = 5 then s.inc (F.CPU.CAPCNT.bounds_faults.cpu c)
  else s

/-- A domain-off access is recorded by PWR and counted (R82). -/
def State.offAccess (s : State) (ini : Ini) (w : World) (wr : Bool) (a : Nat) : State :=
  (s.fault pagePWR 0x10 (iniCode ini) w wr a).inc F.PWR.OFFACC.count

/-- An integrity error that the SMPU page counts (R253, R256, R268): the counter, the first address, the event, the Cloche. -/
def State.integrity (s : State) (f : Fld) (a : Nat) : State :=
  let s := s.inc f
  let s := if s.on F.SMPU.INTEG.addr_valid then s
    else (s.setReg R.SMPU.INTADDR (BitVec.ofNat 32 a)).put F.SMPU.INTEG.addr_valid 1
  (s.irq pageSMPU 8).cloche 28 0

/-- What the failure of a vector fetch leaves in the records outside the core: it is no fault of the core's own (R212), so its counters
keep their values. -/
def State.vectorFault (s : State) (c : CoreId) (f : Flt) : State :=
  if f.cls = 7 then s.mpuRecord (coreNum c) f.sub f.region (s.worldOf c) f.write f.fetch f.taddr
  else if f.cls = 3 ∧ f.sub = 3 then s.offAccess (coreIni c) (s.worldOf c) f.write f.taddr
  else s

/-- Lockup of a core in the Field (R219): counted, logged, and reset as SYS.LOCKUP.action selects. -/
def State.lockup (s : State) (c : CoreId) : State :=
  let sc := (s.core c).scause.toNat
  let s := (s.inc F.SYS.LOCKUP.count).trig 10
  (if s.on F.SYS.LOCKUP.action then s.systemReset 0x08 else s.coreReset c 0x08).log 0x04 (coreNum c) sc

/-- A severe event on a core (R217, R218): in a stay the Col aborts it; in the Field SCAUSE, SPC, SVAL and MASK are written, the
reservation ends (R192) and the core continues at TVEC offset 0x100, or locks up at mask level 15 or when that fetch fails (R219). -/
def State.severe (s : State) (c : CoreId) (reason cls sub : Nat) (spc : Word) (sval : Nat) : State :=
  if s.colHeldBy c then s.colAbort c wiltSEVERE
  else if (s.core c).mask = 15 then s.lockup c
  else
    let k := s.core c
    let tvec := k.bank.tvec
    let sc := BitVec.ofNat 32 (reason + 2 ^ 8 * cls + 2 ^ 16 * sub)
    let s := s.setCore c ({ k with scause := sc, spc := spc, sval := BitVec.ofNat 32 sval, mask := 15, resv := none, pc := 0x100 }.setBank
      { k.bank with pcc := tvec })
    let s := s.trace 0x12 (coreNum c) k.world sc.toNat spc.toNat
    match s.fetchCheck c k.world tvec vecSevere with
    | some f => (s.vectorFault c f).lockup c
    | none => s

/-- Report the posted stores of a core that ended with a bus error, oldest first (R216): the first pending error of a world is
kept, a further one sets overflow. -/
def Core.report (k : Core) (p : Posted) : Core :=
  let upd (b : Bank) : Bank :=
    if b.timpr.toNat.testBit 0 then { b with timpr := b.timpr ||| 2 }
    else { b with timpr := BitVec.ofNat 32 (1 + 16 * p.sub), timprAddr := BitVec.ofNat 32 p.addr }
  if p.world = .glass then { k with glass := upd k.glass } else { k with field := upd k.field }

/-- Every posted store of a core reports what became of it. -/
def Core.drain (k : Core) : Core := { (k.posted.foldl Core.report k) with posted := [] }

/-- Every outstanding store of a core completes: posted ledger stores are written, and errors are reported (R204, R211 step 1, R216, R301;
log 31). -/
def State.fence (s : State) (c : CoreId) : State := (s.ledgerFence (coreIni c)).modCore c Core.drain

/-- A trap at level `l` through vector offset `off` (R211), with the vector fetch of R212. -/
def State.takeTrap (s : State) (c : CoreId) (l off cls sub tval taddr : Nat) : State :=
  let s := s.fence c
  let k := s.core c
  let b := k.bank
  let cause := BitVec.ofNat 32 (cls + 2 ^ 8 * sub + 2 ^ 16 * l + 2 ^ 20 * k.mask)
  let b' := { b with
    epcc := b.pcc
    tpc := k.pc
    tcause := cause
    tval := BitVec.ofNat 32 tval
    taddr := BitVec.ofNat 32 taddr
    pcc := b.tvec }
  let s := s.setCore c ({ k with mask := l, resv := none, pc := BitVec.ofNat 32 off }.setBank b')
  let s := s.trace (if cls = clsINTERRUPT then 0x10 else 0x11) (coreNum c) k.world
    (if cls = clsINTERRUPT then tval else cause.toNat) (if cls = clsINTERRUPT then l else k.pc.toNat)
  match s.fetchCheck c k.world b.tvec off with
  | some f => (s.vectorFault c f).severe c sevVECTOR cls sub (BitVec.ofNat 32 off) tval
  | none => s

/-- A synchronous fault or TRAP of a core (R210): at level 14 through `off`; at mask level 14 it escalates to severe; at 15 the
core locks up, or in a stay the Col takes it as severe (R219). -/
def State.raiseAt (s : State) (c : CoreId) (off : Nat) (f : Flt) : State :=
  let s := s.countFault c f
  let k := s.core c
  if k.mask < 14 then s.takeTrap c 14 off f.cls f.sub f.tval f.taddr
  else s.severe c sevESCALATED f.cls f.sub k.pc f.tval

/-- A synchronous fault (R210). -/
def State.raise (s : State) (c : CoreId) (f : Flt) : State :=
  (if f.cls = 3 ∧ f.sub = 3 then (s.offAccess (coreIni c) (s.worldOf c) f.write f.taddr).raiseAt c vecSync f
  else s.raiseAt c vecSync f).settle

/-- The pending imprecise bus error of the running world is taken at level 14 and cleared (R216); `none` when it is not
deliverable. -/
def State.takeImprecise (s : State) (c : CoreId) : Option State :=
  let k := s.core c
  let b := k.bank
  if b.timpr.toNat.testBit 0 && decide (k.mask < 14) then
    let s := s.setCore c (k.setBank { b with timpr := 0, timprAddr := 0 })
    some (s.takeTrap c 14 vecImprecise clsBUS_IMPRECISE (bitsOf b.timpr.toNat 7 4) 0 b.timprAddr.toNat)
  else none

/-! ### Events at an instruction boundary -/

/-- A line is routed to a core and a world, above priority 0 (R221, R224). -/
def State.lineRouted (s : State) (n : Nat) (c : CoreId) (w : World) : Bool :=
  (s.lineTarget n).testBit (coreNum c) && (s.lineGlass n == decide (w = .glass)) && decide (0 < s.linePrio n)

/-- The line a core would take for a world: of the pending lines routed to it the highest priority, then the lowest number
(R221). -/
def State.bestLine (s : State) (c : CoreId) (w : World) : Option Nat :=
  (numsFrom 128 0).foldl (fun best n =>
    if s.linePending n c && s.lineRouted n c w then
      match best with
      | none => some n
      | some b => if s.linePrio b < s.linePrio n then some n else best
    else best) none

/-- The edge latch of a taken line clears for the core that takes it (R221). -/
def State.takeLatch (s : State) (n : Nat) (c : CoreId) : State :=
  if s.lineEdge n then s.put ((F.INTC.LINE.latched.idx 4 n).bit (coreNum c)) 0 else s

/-- The Field lines that a core would take but for its stay in the Glasshouse, and that this stay has not yet deferred (R223). -/
def State.deferrable (s : State) (c : CoreId) : List Nat :=
  if s.colHeldBy c then
    (numsFrom 128 0).filter fun n => s.linePending n c && s.lineRouted n c .field && decide ((s.core c).mask < s.linePrio n) &&
      !s.col.deferred.contains n
  else []

/-- R223: each Field line is deferred during a stay, and counted once for it. -/
def State.deferLines (s : State) (c : CoreId) : State :=
  match s.deferrable c with
  | [] => s
  | ns => { s.addSat F.INTC.DEFER.count ns.length with col := { s.col with deferred := s.col.deferred ++ ns } }

/-- The Cloche severe response that a core holds is taken at the boundary; SVAL is the source (R217, R218). -/
def State.severeTaken (s : State) (c : CoreId) : Option State :=
  match (s.core c).severePending with
  | some src =>
    let s := s.modCore c fun k => { k with severePending := none }
    some (s.severe c sevCLOCHE 0 0 (s.core c).pc src).settle
  | none => none

/-- The highest pending line of the running world above the mask level is taken at its priority (R209, R221). -/
def State.lineTaken (s : State) (c : CoreId) : Option State :=
  match s.bestLine c (s.worldOf c) with
  | some n =>
    if (s.core c).mask < s.linePrio n then
      some ((s.takeLatch n c).takeTrap c (s.linePrio n) vecInterrupt clsINTERRUPT 0 n 0).settle
    else none
  | none => none

/-- What a core serves before its next instruction, in order: a severe event, a deliverable imprecise bus error, the interrupt (R232). -/
def State.eventTaken (s : State) (c : CoreId) : Option State :=
  (s.severeTaken c).orElse fun _ => ((s.takeImprecise c).map State.settle).orElse fun _ => s.lineTaken c

/-! ### Instruction boundaries -/

/-- A core executes instructions: powered, started, its clock not stopped, not halted by the probe, no lockstep mismatch (R178). -/
def Core.executing (k : Core) : Bool := k.powered && k.started && !k.wfi && !k.halted && !k.stopped

/-- A halted core that the probe has asked for a step (R148). -/
def Core.stepReady (k : Core) : Bool := k.powered && k.started && !k.wfi && k.halted && k.stepping && !k.stopped

/-- The probe's halt takes effect on a core (R148). -/
def State.haltCore (s : State) (c : CoreId) : State :=
  ((s.modCore c fun k => { k with halted := true, haltPending := false, stepping := false }).irq pagePRB 1).settle

/-- A core in the Glasshouse, to which a level below 3 has no rights, halts at the first Field boundary only (R148). -/
def State.haltsLater (s : State) (c : CoreId) : Bool := decide (s.worldOf c = .glass) && decide (s.get F.LC.STATE.probe < 3)

/-- After its step the core halts again, at the first boundary where it may (R148); a step whose access stalls goes on. A reset in the step
ends the halt. -/
def State.haltAgain (s : State) (c : CoreId) : State :=
  let k := s.core c
  if k.rom.isSome || !k.powered then s
  else if k.stalled.isSome then s.modCore c fun k => { k with stepping := true }
  else if s.haltsLater c then s.modCore c fun k => { k with haltPending := true, stepping := false }
  else s.haltCore c

/-- A pending halt is due: the core is at a Field boundary (R148). -/
def Core.haltDue (k : Core) : Bool := k.haltPending && decide (k.world = .field) && k.rom.isNone

/-- What a core does at an instruction boundary, where it does something: while it executes, or as the step of a halted core. A pending
halt takes effect at the first Field boundary. A core whose access stalls is at no boundary (R185). -/
def State.boundary (s : State) (c : CoreId) (f : State → Option State) : State :=
  let k := s.core c
  if k.stalled.isSome then s
  else if k.executing && k.haltDue then s.haltCore c
  else if k.executing then (f s).getD s
  else if k.stepReady then
    match f (s.modCore c fun k => { k with halted := false, stepping := false }) with
    | some t => t.haltAgain c
    | none => s
  else s

/-- Where a core fetches its next instruction. -/
def Core.fetchAddr (k : Core) : Nat := (k.bank.pcc.base + k.pc.toNat) % 2 ^ 32

/-- The next fetch of a core waits: no line of its instruction cache serves it, and the read of its memory stalls (R82, R284). -/
def State.fetchStalls (s : State) (c : CoreId) : Bool :=
  !(s.core c).codeLine? (s.core c).fetchAddr && s.readStalls (s.core c).fetchAddr

/-- What a boundary leaves at which a core goes on to its next instruction: the lines that its stay defers are counted (R223), the fetch has
filled the instruction cache (R233), and a bump that came before is no longer of this cycle (R159). -/
def State.fetched (s : State) (c : CoreId) : State :=
  { (s.deferLines c).fillCode c (s.core c).fetchAddr with fab := { s.fab with bump := none } }

/-- An instruction of a core whose fetch saw the epoch counters of `v` (R159): nothing while the core does not execute; what R232 puts before
it comes first; the fetch is checked and may fault (R157, R158) or wait; then the instruction has its effect. -/
def State.execSeen (s : State) (c : CoreId) (v : State → State) (f : State → State) : State :=
  s.boundary c fun s =>
    match s.eventTaken c with
    | some t => some t
    | none =>
      match (v s).fetchCheck c (s.core c).world (s.core c).bank.pcc (s.core c).pc.toNat with
      | some e => some (s.raise c e)
      | none => if s.fetchStalls c then none else some (f (s.fetched c))

/-- An instruction of a core. -/
def State.execOn (s : State) (c : CoreId) (f : State → State) : State := s.execSeen c id f

/-- A core's access has come to an end after a stall: the boundary after its instruction halts the core where the probe has asked for it
(R148). -/
def State.stallOver (s : State) (c : CoreId) : State :=
  let k := s.core c
  if k.stalled.isSome then s
  else if k.stepping then s.haltAgain c
  else if k.haltPending && !s.haltsLater c && k.rom.isNone then s.haltCore c
  else s

/-- A memory instruction with the word `word`: while its access stalls, the same instruction presented again goes on with it, and no other
begins (R82, R185, R195, R284, R332). -/
def State.execMem (s : State) (c : CoreId) (word : Nat) (f : State → State) : State :=
  match (s.core c).stalled with
  | none => s.execOn c f
  | some w =>
    if w = word && (s.core c).executing then (f (s.modCore c fun k => { k with stalled := none })).stallOver c
    else s

/-- The access of an instruction stalls. -/
def State.stall (s : State) (c : CoreId) (word : Nat) : State := s.modCore c fun k => { k with stalled := some word }

/-- The next instruction in sequence. -/
def Core.next (k : Core) : Core := { k with pc := k.pc + 4 }

end Sys2Proof.Machine
end

