-- ==== Sys2Proof/Machine/Operands.lean ====
section
/-!
DEFINITION. Operand forms of the instructions (R180 to R183, R189): the words of the formats, 5-bit fields that name capability
registers (R182), sign- and zero-extended immediates, and the offset and address that a memory instruction forms.
-/
namespace Sys2Proof.Machine
open Sys2Proof

/-- Format R: op, rd, rs1, rs2, fn. -/
def wordR (op : Nat) (rd rs1 rs2 : Fin 32) (fn : Nat) : Nat :=
  op * 2 ^ 26 + rd.val * 2 ^ 21 + rs1.val * 2 ^ 16 + rs2.val * 2 ^ 11 + fn
/-- Formats I and B: op, two 5-bit fields, imm16. -/
def wordI (op : Nat) (a b : Fin 32) (imm : BitVec 16) : Nat := op * 2 ^ 26 + a.val * 2 ^ 21 + b.val * 2 ^ 16 + imm.toNat
/-- Format Q: op, a, b, c, d, fn. -/
def wordQ (op : Nat) (a b c d : Fin 32) (fn : Nat) : Nat :=
  op * 2 ^ 26 + a.val * 2 ^ 21 + b.val * 2 ^ 16 + c.val * 2 ^ 11 + d.val * 2 ^ 6 + fn
/-- Format M: op, rt, rs, cs, imm13. -/
def wordM (op : Nat) (rt rs : Fin 32) (cs : Fin 8) (imm : BitVec 13) : Nat :=
  op * 2 ^ 26 + rt.val * 2 ^ 21 + rs.val * 2 ^ 16 + cs.val * 2 ^ 13 + imm.toNat
/-- Format J: op, rd, imm21. -/
def wordJ (op : Nat) (rd : Fin 32) (imm : BitVec 21) : Nat := op * 2 ^ 26 + rd.val * 2 ^ 21 + imm.toNat
/-- Format CJ: op, rd, rs1, cs, cd, lc, imm9. -/
def wordCJ (op : Nat) (rd rs1 : Fin 32) (cs cd : Fin 8) (lc : Bool) (imm : BitVec 9) : Nat :=
  op * 2 ^ 26 + rd.val * 2 ^ 21 + rs1.val * 2 ^ 16 + cs.val * 2 ^ 13 + cd.val * 2 ^ 10 + b2n lc * 2 ^ 9 + imm.toNat
/-- Format S: op, rd, rs1, imm12, fn. -/
def wordS (rd rs1 : Fin 32) (imm : BitVec 12) (fn : Nat) : Nat :=
  0x38 * 2 ^ 26 + rd.val * 2 ^ 21 + rs1.val * 2 ^ 16 + imm.toNat * 2 ^ 4 + fn

/-- A 5-bit field that names a capability register has bits 3 and 4 clear (R182). -/
def isCap (r : Fin 32) : Bool := decide (r.val < 8)

/-- The capability register of a 5-bit field: its bits [2:0] (R182). -/
def capOf (r : Fin 32) : Fin 8 := Fin.ofNat 8 r.val

/-- The illegal opcode fault of an instruction word (R183). -/
def State.illegal (s : State) (c : CoreId) (word : Nat) : State := s.raise c (fltIllegal word)

/-- A capability fault that is not of an access: TVAL is the instruction word, TADDR 0 (ch. 9, fault classes). -/
def State.capFault (s : State) (c : CoreId) (cause word : Nat) : State := s.raise c (fltCap cause word 0)

/-- The offset of a memory instruction: rs + imm13 modulo 2^32 (R189). -/
def Core.offset (k : Core) (rs : Fin 32) (imm : BitVec 13) : Word := k.rd rs + imm.signExtend 32

/-- The address an offset names through a capability: base + o modulo 2^32. -/
def capAddr (v : CapReg) (o : Nat) : Nat := (v.base + o) % 2 ^ 32

/-- Write a general register and go on to the next instruction. -/
def State.finish (s : State) (c : CoreId) (rd : Fin 32) (v : Word) : State := s.modCore c fun k => (k.wr rd v).next

/-- Write a capability register and go on to the next instruction. -/
def State.finishCap (s : State) (c : CoreId) (cd : Fin 8) (v : CapReg) : State := s.modCore c fun k => (k.cwr cd v).next

end Sys2Proof.Machine
end

