-- ==== Sys2Proof/Machine/Capability.lean ====
section
/-!
DEFINITION. The capability instructions (R162 to R165, R200 to R202), epoch counters and tag sweeps (R168 to R172), and the
counter clear of CPUn (R167). LDCAPX is Memory.lean's.
-/
namespace Sys2Proof.Machine
open Sys2Proof

/-- All 5-bit capability fields of an instruction name capability registers, else the illegal opcode fault (R182). -/
def State.withCaps (s : State) (c : CoreId) (word : Nat) (fs : List (Fin 32)) (f : State → State) : State :=
  if fs.all isCap then f s else s.illegal c word

/-- CMOVE: the copy with its tag; R167 applies. -/
def execCmove (c : CoreId) (cd cs : Fin 32) (s : State) : Out :=
  .next (s.execOn c fun s => s.withCaps c (wordQ 0x30 cd cs 0 0 0x00) [cd, cs] fun s =>
    let (v, s) := s.moveCap c ((s.core c).crd (capOf cs))
    s.finishCap c (capOf cd) v)

/-- CCLRT: the 128 bits with tag 0; no check. -/
def execCclrt (c : CoreId) (cd cs : Fin 32) (s : State) : Out :=
  .next (s.execOn c fun s => s.withCaps c (wordQ 0x30 cd cs 0 0 0x01) [cd, cs] fun s =>
    s.finishCap c (capOf cd) { (s.core c).crd (capOf cs) with tag := false })

/-- A derivation from a checked source (R162, R200): DERIVE or OTYPE by `f`, else the result into cd. -/
def State.derive (s : State) (c : CoreId) (cd cs : Fin 32) (word : Nat) (f : CapReg → Except Nat CapReg) : State :=
  let v := (s.core c).crd (capOf cs)
  match s.useCause (s.worldOf c) v with
  | some k => s.capFault c k word
  | none =>
    match f v with
    | .error k => s.capFault c k word
    | .ok r => s.finishCap c (capOf cd) r

/-- CBOUND: base = cs.base + off, length = len; DERIVE unless off + len ≤ cs.length without wrap. -/
def boundCap (v : CapReg) (off len : Word) : Except Nat CapReg :=
  if v.length < off.toNat + len.toNat then .error capDERIVE
  else .ok ⟨capBits (v.base + off.toNat) len.toNat v.perms v.otype v.epoch v.eidx, true⟩

def execCbound (c : CoreId) (cd cs off len : Fin 32) (s : State) : Out :=
  .next (s.execOn c fun s =>
    let word := wordQ 0x30 cd cs off len 0x02
    s.withCaps c word [cd, cs] fun s =>
      s.derive c cd cs word fun v => boundCap v ((s.core c).rd off) ((s.core c).rd len))

/-- CANDP: perms ANDed with mask[10:0]. -/
def andpCap (v : CapReg) (mask : Word) : CapReg :=
  ⟨capBits v.base v.length (v.perms &&& (mask.toNat % 2 ^ 11)) v.otype v.epoch v.eidx, true⟩

def execCandp (c : CoreId) (cd cs mask : Fin 32) (s : State) : Out :=
  .next (s.execOn c fun s =>
    let word := wordQ 0x30 cd cs mask 0 0x03
    s.withCaps c word [cd, cs] fun s =>
      s.derive c cd cs word fun v => .ok (andpCap v ((s.core c).rd mask)))

/-- The authority of CSEAL and CUNSEAL: the four checks, then SEAL or UNSEAL (R200). -/
def State.authorityCause (s : State) (w : World) (ca : CapReg) (perm : Nat) : Option Nat :=
  match s.useCause w ca with
  | some k => some k
  | none => if ca.perm perm then none else some capPERM

/-- R163: sealing with a type under a checked authority. -/
def sealCap (w : World) (v ca : CapReg) (type : Word) : Except Nat CapReg :=
  let t := type.toNat
  if 256 ≤ t ∨ t = 0 ∨ 0xF1 ≤ t then .error capOTYPE
  else if t < ca.base ∨ ca.base + ca.length ≤ t then .error capOTYPE
  else if t = 0xF0 && !(decide (w = .glass) && v.perm permEXEC && v.perm permGATE && v.perm permGLASS) then .error capOTYPE
  else .ok ⟨capBits v.base v.length v.perms t v.epoch v.eidx, true⟩

def execCseal (c : CoreId) (cd cs ca type : Fin 32) (s : State) : Out :=
  .next (s.execOn c fun s =>
    let word := wordQ 0x30 cd cs ca type 0x04
    s.withCaps c word [cd, cs, ca] fun s =>
      let w := s.worldOf c
      let a := (s.core c).crd (capOf ca)
      s.derive c cd cs word fun v =>
        match s.authorityCause w a permSEAL with
        | some k => .error k
        | none => sealCap w v a ((s.core c).rd type))

/-- R164: unsealing under a checked authority; a GLASS result in the Field is GLASS (R165). -/
def unsealCap (w : World) (v ca : CapReg) : Except Nat CapReg :=
  if v.otype = 0 ∨ v.otype = 0xF0 then .error capOTYPE
  else if v.otype < ca.base ∨ ca.base + ca.length ≤ v.otype then .error capOTYPE
  else if decide (w = .field) && v.perm permGLASS then .error capGLASS
  else .ok ⟨capBits v.base v.length v.perms 0 v.epoch v.eidx, true⟩

def execCunseal (c : CoreId) (cd cs ca : Fin 32) (s : State) : Out :=
  .next (s.execOn c fun s =>
    let word := wordQ 0x30 cd cs ca 0 0x05
    s.withCaps c word [cd, cs, ca] fun s =>
      let w := s.worldOf c
      let v := (s.core c).crd (capOf cs)
      let a := (s.core c).crd (capOf ca)
      if !v.tag then s.capFault c capTAG word
      else if s.stale v then s.capFault c capREVOKED word
      else
        match s.authorityCause w a permUNSEAL with
        | some k => s.capFault c k word
        | none =>
          match unsealCap w v a with
          | .error k => s.capFault c k word
          | .ok r => s.finishCap c (capOf cd) r)

/-- R201: rebinding to an epoch index at its current counter. -/
def epochCap (s : State) (w : World) (v : CapReg) (idx : Word) : Except Nat CapReg :=
  let i := idx.toNat
  if 64 ≤ i ∨ i = 0 then .error capDERIVE
  else if w = .field ∧ (32 ≤ i ∨ v.eidx ≠ 0) then .error capDERIVE
  else if w = .glass ∧ v.eidx ≠ 0 ∧ v.eidx ≠ 32 then .error capDERIVE
  else .ok ⟨capBits v.base v.length v.perms v.otype (s.epochOf i) i, true⟩

def execCepoch (c : CoreId) (cd cs idx : Fin 32) (s : State) : Out :=
  .next (s.execOn c fun s =>
    let word := wordQ 0x30 cd cs idx 0 0x06
    s.withCaps c word [cd, cs] fun s =>
      s.derive c cd cs word fun v => epochCap s (s.worldOf c) v ((s.core c).rd idx))

/-- The field of a capability register that CGET selects (R200); `none` for a reserved selector. -/
def State.getField (s : State) (v : CapReg) (sel : Nat) : Option Nat :=
  match sel with
  | 0 => some v.base
  | 1 => some v.length
  | 2 => some v.perms
  | 3 => some v.otype
  | 4 => some v.epoch
  | 5 => some v.eidx
  | 6 => some (b2n v.tag)
  | 7 => some (b2n (v.tag && !s.stale v))
  | _ => none

def execCget (c : CoreId) (wd cs sel : Fin 32) (s : State) : Out :=
  .next (s.execOn c fun s =>
    let word := wordQ 0x30 wd cs sel 0 0x08
    s.withCaps c word [cs] fun s =>
      match s.getField ((s.core c).crd (capOf cs)) sel.val with
      | none => s.illegal c word
      | some v => s.finish c wd (BitVec.ofNat 32 v))

/-! ### Epoch counters and sweeps -/

/-- The result of EBUMP on index word `x` by a core in world `w` (R168). -/
def State.bumpResult (s : State) (w : World) (x : Word) : Nat :=
  let i := x.toNat
  if 64 ≤ i then 0x0E
  else if w = .field ∧ 32 ≤ i then 0x06
  else if (match s.sweep with | some sw => decide (sw.index = i) | none => false) || (decide (s.epochOf i = 255) && !s.sweepDone.testBit i)
    then 0x04
  else 0

/-- The sweep-done bits with bit `i` at `b`. -/
def setDone (d i : Nat) (b : Bool) : Nat := if b then d ||| 2 ^ i else if d.testBit i then d - 2 ^ i else d

/-- Count the result of an EBUMP or ESWEEP in CPUn.EPOCH_STAT. -/
def State.epochStat (s : State) (c : CoreId) (res : Nat) : State :=
  let s := s.put (F.CPU.EPOCH_STAT.result.cpu c) res
  if res = 0x04 then s.inc (F.CPU.EPOCH_STAT.state_refused.cpu c)
  else if res = 0x01 then s.inc (F.CPU.EPOCH_STAT.busy_refused.cpu c)
  else s

/-- What the fetch of an EBUMP saw of the epoch counters (R159): when the command before it is the other core's bump of the index of its PCC,
the two may lie in one fabric cycle, and the fetch then came before that bump; which it is, is a free value (log 76). -/
def State.bumpSeen (s : State) (c : CoreId) : (State → State) × State :=
  match s.fab.bump with
  | some (d, i) =>
    if d ≠ c ∧ i = (s.core c).bank.pcc.eidx then
      let (n, s) := s.draw
      (if Config.freeNat n % 2 = 0 then fun s => { s with epochs := tabSet 0 i ((s.epochOf i + 255) % 256) s.epochs } else id, s)
    else (id, s)
  | none => (id, s)

/-- EBUMP (R168, R169): the counter rises modulo 256; from 255 to 0 its sweep-done bit clears. -/
def execEbump (c : CoreId) (wd ws : Fin 32) (s : State) : Out :=
  let (v, s) := s.bumpSeen c
  .next (s.execSeen c v fun s =>
    let x := (s.core c).rd ws
    let res := s.bumpResult (s.worldOf c) x
    let s := if res ≠ 0 then s
      else
        let e := s.epochOf x.toNat
        let s := { s with epochs := tabSet 0 x.toNat ((e + 1) % 256) s.epochs, fab := { s.fab with bump := some (c, x.toNat) } }
        if e = 255 then { s with sweepDone := setDone s.sweepDone x.toNat false } else s
    (s.epochStat c res).finish c wd (BitVec.ofNat 32 res))

/-- The five SRAM banks: first address, end, power domain (ch. 11). -/
def bankRange (b : Nat) : Nat × Nat × Nat :=
  match b with
  | 0 => (0x20000000, 0x20020000, 4)
  | 1 => (0x20020000, 0x20040000, 4)
  | 2 => (0x20040000, 0x20060000, 5)
  | 3 => (0x20060000, 0x20080000, 5)
  | _ => (0x28000000, 0x28020000, 6)

/-- A capability that a sweep of index `i` clears: it has eidx `i` and an epoch other than the counter. -/
def State.swept (s : State) (i : Nat) (v : CapReg) : Bool := v.tag && decide (v.eidx = i) && s.stale v

/-- Clear what a sweep clears of a capability register. -/
def State.sweepReg (s : State) (i : Nat) (v : CapReg) : CapReg := if s.swept i v then { v with tag := false } else v

/-- Clear what a sweep clears of a bank. -/
def State.sweepBank (s : State) (i : Nat) (b : Bank) : Bank :=
  { b with c := b.c.map (s.sweepReg i), pcc := s.sweepReg i b.pcc, tvec := s.sweepReg i b.tvec, epcc := s.sweepReg i b.epcc }

/-- How many tags a sweep clears in a bank of registers. -/
def State.sweepCount (s : State) (i : Nat) (b : Bank) : Nat :=
  ((b.c.toList ++ [b.pcc, b.tvec, b.epcc]).filter (s.swept i)).length

/-- R171 step 1: the capability registers of both banks of both cores. -/
def State.sweepCores (s : State) (i : Nat) : State :=
  let f (k : Core) : Core := { k with field := s.sweepBank i k.field, glass := s.sweepBank i k.glass }
  { s with core0 := f s.core0, core1 := f s.core1 }

/-- The result of ESWEEP (R170). -/
def State.sweepResult (s : State) (w : World) (x : Word) : Nat :=
  let i := x.toNat
  if 64 ≤ i then 0x0E
  else if w = .field ∧ 32 ≤ i then 0x06
  else if s.sweep.isSome then 0x01
  else 0

/-- ESWEEP (R170, R171 step 1). -/
def execEsweep (c : CoreId) (wd ws : Fin 32) (s : State) : Out :=
  .next (s.execOn c fun s =>
    let x := (s.core c).rd ws
    let i := x.toNat
    let res := s.sweepResult (s.worldOf c) x
    let s := if res ≠ 0 ∨ s.sweepDone.testBit i then s
      else
        let n := s.sweepCount i s.core0.field + s.sweepCount i s.core0.glass + s.sweepCount i s.core1.field +
          s.sweepCount i s.core1.glass
        let banks := (numsFrom 5 0).filter fun b => s.pdOn (bankRange b).2.2
        { s.sweepCores i with sweep := some ⟨i, c, banks, n⟩, sweepLast := (i, s.sweepLast.2) }
    (s.epochStat c res).finish c wd (BitVec.ofNat 32 res))

/-- The capability stored in granule `g`. -/
def State.granuleCap (s : State) (g : Nat) : CapReg := ⟨BitVec.ofNat 128 (s.loadN (16 * g) 16), s.tag g⟩

/-- Clear granule `g`'s tag if a sweep of index `i` clears it. -/
def State.sweepGranule (i : Nat) (g : Nat) (s : State) : State :=
  if s.swept i (s.granuleCap g) then s.setTag g false else s

/-- A granule lies in one of the banks. -/
def inBanks (banks : List Nat) (a : Nat) : Bool :=
  banks.any fun b => decide ((bankRange b).1 ≤ a ∧ a < (bankRange b).2.1)

/-- The granules whose two tag copies a sweep finds in disagreement (R256): free numbers of granules of its banks (log 9). -/
def State.badTags (s : State) (sw : Sweep) : List Nat × State :=
  let (n, s) := s.draw
  ((Config.freeGranules n).filter fun g => inBanks sw.banks (16 * g), s)

/-- A sweep ends (R171 steps 2 and 3, R172): every tagged granule of its banks is visited through the coherent fabric, the
sweep-done bit is set, and the count and the event of the core that started it are recorded. A tag whose copies disagree counts as 0: nothing
is cleared there, and the error is reported (R256). -/
def State.sweepEnd (s : State) : State :=
  match s.sweep with
  | none => s
  | some sw =>
    let (bad, s) := s.badTags sw
    let gs := (s.tags.map (·.1)).filter fun g => inBanks sw.banks (16 * g) && !bad.contains g
    let n := (gs.filter fun g => s.swept sw.index (s.granuleCap g)).length
    let share (k : Core) : Core := { k with dcache := k.dcache.map fun l => if inBanks sw.banks l.addr then l.share else l }
    let s := { s with core0 := share s.core0, core1 := share s.core1 }
    let s := foldState (State.sweepGranule sw.index) gs s
    let s := foldState (fun g s => s.integrity F.SMPU.INTEG.sram (16 * g)) bad s
    let s := { s with sweep := none, sweepDone := setDone s.sweepDone sw.index true
                      sweepLast := (sw.index, satAdd 65535 sw.cleared n) }
    s.irq (cpuPage sw.core) 0

def execSweepDone (s : State) : Out := .next s.sweepEnd.settle

end Sys2Proof.Machine
end

