-- ==== Sys2Proof/Machine/Sha.lean ====
section
/-!
DEFINITION. The hash functions that the spec names: SHA-256, SHA-512 (FIPS 180-4) and HMAC (FIPS 198-1) over lists of bytes
(R113, R131, R333). The spec names the standards and does not repeat them (log 40).
-/
namespace Sys2Proof.Machine
open Sys2Proof

/-- The first 80 primes: FIPS 180-4 takes both tables of constants from their roots. -/
def shaPrimes : List Nat :=
  [2, 3, 5, 7, 11, 13, 17, 19, 23, 29, 31, 37, 41, 43, 47, 53, 59, 61, 67, 71] ++
  [73, 79, 83, 89, 97, 101, 103, 107, 109, 113, 127, 131, 137, 139, 149, 151, 157, 163, 167, 173] ++
  [179, 181, 191, 193, 197, 199, 211, 223, 227, 229, 233, 239, 241, 251, 257, 263, 269, 271, 277, 281] ++
  [283, 293, 307, 311, 313, 317, 331, 337, 347, 349, 353, 359, 367, 373, 379, 383, 389, 397, 401, 409]

/-- One step of Newton's method towards the integer `j`-th root of `n`, from above: it falls until it has reached it. -/
def rootStep (j n x : Nat) : Nat := min x (((j - 1) * x + n / x ^ (j - 1)) / j)

/-- That many steps of it. -/
def rootSteps (j n : Nat) : Nat → Nat → Nat
  | 0, x => x
  | f + 1, x => rootSteps j n f (rootStep j n x)

/-- The first 64 bits after the point of the `j`-th root of a prime `p`, that root being below 8. -/
def rootBits (j p : Nat) : Nat := rootSteps j (p * 2 ^ (64 * j)) 10 (2 ^ 67) % 2 ^ 64

/-- Initial hash values of SHA-512, from the square roots of the first 8 primes; their high halves are those of SHA-256. -/
def shaH : List Nat := (shaPrimes.take 8).map (rootBits 2)

/-- The 80 round constants of SHA-512, from the cube roots of the primes; the high halves of the first 64 are those of SHA-256. -/
def shaK : List Nat := shaPrimes.map (rootBits 3)

/-- The parameters of one hash function: word width, rounds, rotations of the four sigma functions. -/
structure ShaKind where
  w : Nat
  rounds : Nat
  s0 : Nat × Nat × Nat
  s1 : Nat × Nat × Nat
  m0 : Nat × Nat × Nat
  m1 : Nat × Nat × Nat
  deriving DecidableEq, Repr

def sha256Kind : ShaKind := ⟨32, 64, (2, 13, 22), (6, 11, 25), (7, 18, 3), (17, 19, 10)⟩
def sha512Kind : ShaKind := ⟨64, 80, (28, 34, 39), (14, 18, 41), (1, 8, 7), (19, 61, 6)⟩

/-- A constant of SHA-512 narrowed to the kind's word. -/
def ShaKind.const (k : ShaKind) (c : Nat) : Nat := c >>> (64 - k.w)
def ShaKind.trunc (k : ShaKind) (x : Nat) : Nat := x % 2 ^ k.w
def ShaKind.rotr (k : ShaKind) (x n : Nat) : Nat := (x >>> n) ||| k.trunc (x <<< (k.w - n))
def ShaKind.big (k : ShaKind) (r : Nat × Nat × Nat) (x : Nat) : Nat := k.rotr x r.1 ^^^ k.rotr x r.2.1 ^^^ k.rotr x r.2.2
def ShaKind.small (k : ShaKind) (r : Nat × Nat × Nat) (x : Nat) : Nat := k.rotr x r.1 ^^^ k.rotr x r.2.1 ^^^ (x >>> r.2.2)
def ShaKind.not (k : ShaKind) (x : Nat) : Nat := x ^^^ (2 ^ k.w - 1)

/-- The 16 words before the next message word, newest first, to that word. -/
def ShaKind.nextW (k : ShaKind) (ws : List Nat) : Nat :=
  k.trunc (k.small k.m1 (ws.getD 1 0) + ws.getD 6 0 + k.small k.m0 (ws.getD 14 0) + ws.getD 15 0)

/-- One round on the eight working variables. -/
def ShaKind.round (k : ShaKind) (v : List Nat) (w c : Nat) : List Nat :=
  match v with
  | [a, b, cc, d, e, f, g, h] =>
    let t1 := h + k.big k.s1 e + ((e &&& f) ^^^ (k.not e &&& g)) + k.const c + w
    let t2 := k.big k.s0 a + ((a &&& b) ^^^ (a &&& cc) ^^^ (b &&& cc))
    [k.trunc (t1 + t2), a, b, cc, k.trunc (d + t1), e, f, g]
  | _ => v

/-- The rounds: `todo` holds the block's words not used yet, `ws` the last 16 words newest first. -/
def ShaKind.rounds' (k : ShaKind) : List Nat → List Nat → List Nat → List Nat → List Nat
  | [], _, _, v => v
  | c :: cs, todo, ws, v =>
    match todo with
    | w :: t => ShaKind.rounds' k cs t (w :: ws) (k.round v w c)
    | [] =>
      let w := k.nextW ws
      ShaKind.rounds' k cs [] ((w :: ws).take 16) (k.round v w c)

/-- Cut a list into pieces of `n`. -/
def chunks {α : Type} (n : Nat) : Nat → List α → List (List α)
  | 0, _ => []
  | fuel + 1, l => if l.isEmpty then [] else l.take n :: chunks n fuel (l.drop n)

/-- One block into the chaining value. -/
def ShaKind.block (k : ShaKind) (h : List Nat) (b : List Byte) : List Nat :=
  let ws := (chunks (k.w / 8) 16 b).map natBE
  let v := k.rounds' (shaK.take k.rounds) ws [] h
  List.zipWith (fun x y => k.trunc (x + y)) h v

/-- The padded message. -/
def ShaKind.pad (k : ShaKind) (m : List Byte) : List Byte :=
  let bl := 2 * k.w
  let z := (bl - (m.length + 1 + k.w / 4) % bl) % bl
  m ++ [0x80] ++ List.replicate z 0 ++ bytesBE (k.w / 4) (8 * m.length)

/-- The hash of a message. -/
def ShaKind.hash (k : ShaKind) (m : List Byte) : List Byte :=
  let p := k.pad m
  let h := (chunks (2 * k.w) p.length p).foldl k.block (shaH.map k.const)
  (h.map (bytesBE (k.w / 8))).flatten

def sha256 (m : List Byte) : List Byte := sha256Kind.hash m
def sha512 (m : List Byte) : List Byte := sha512Kind.hash m

/-- HMAC with a hash kind. -/
def ShaKind.hmac (k : ShaKind) (key m : List Byte) : List Byte :=
  let bl := 2 * k.w
  let k0 := if bl < key.length then k.hash key else key
  let k0 := k0 ++ List.replicate (bl - k0.length) 0
  k.hash (k0.map (· ^^^ 0x5C) ++ k.hash (k0.map (· ^^^ 0x36) ++ m))

end Sys2Proof.Machine
end

