-- ==== Sys2Proof/Machine/Aes.lean ====
section
/-!
DEFINITION. AES (FIPS 197) with the modes of operation of R333 (ECB, CBC, CTR, CCM, GCM, CMAC: SP 800-38A to D and B), and the
SP 800-108 counter-mode derivation with AES-CMAC. Blocks are lists of 16 bytes (log 40).
-/
namespace Sys2Proof.Machine
open Sys2Proof

/-- The AES S-box: entries 32j to 32j+31, entry 0 in the low byte. -/
def sboxTab : List Nat := [0xc072a49cafa2d4adf04759fa7dc982ca76abd7fe2b670130c56f6bf27b777c63,
  0x75b227ebe28012079a059618c323c7041531d871f1e5a534ccf73f362693fdb7,
  0xcf584c4a39becb6a5bb1fc20ed00d153842fe329b3d63b52a05a6e1b1a2c8309,
  0xd2f3ff1021dab6bcf5389d928f40a351a89f3c507f02f94585334d43fbaaefd0,
  0xdb0b5ede14b8ee4688902a22dc4f816073195d643d7ea7c41744975fec130ccd,
  0x08ae7a65eaf4566ca94ed58d6d37c8e779e4959162acd3c25c2406490a3a32e0,
  0x9e1dc186b95735610ef6034866b53e708a8bbd4b1f74dde8c6b4a61c2e2578ba,
  0x16bb54b00f2d99416842e6bf0d89a18cdf2855cee9871e9b948ed9691198f8e1]
/-- The inverse AES S-box: entries 32j to 32j+31, entry 0 in the low byte. -/
def invSboxTab : List Nat := [0xcbe9dec444438e3487ff2f9b8239e37cfbd7f3819ea340bf38a53630d56a0952,
  0x25d18b6d49a25b76b224d92866a12e084ec3fa420b954cee3d23c2a632947b54,
  0x849d8da75746155edab9edfd5048706c92b6655dcc5ca4d41698688664f6f872,
  0x6b8a130103bdafc1020f3fca8f1e2cd00645b3b80558e4f70ad3bc8c00abd890,
  0x6edf751ce837f9e28535ade72274ac9673e6b4f0cecff297eadc674f4111913a,
  0xf45acd78fec0db9a2079d2c64b3e56fc1bbe18aa0e62b76f89c5291d711af147,
  0xef9cc9939f7ae52d0d4ab519a97f51605fec8027591012b131c7078833a8dd1f,
  0x7d0c2155631469e126d677ba7e042b17619953833cbbebc8b0f52aae4d3be0a0]

def tab8 (t : List Nat) (b : Byte) : Byte := BitVec.ofNat 8 (t.getD (b.toNat / 32) 0 >>> (8 * (b.toNat % 32)))
def sbox (b : Byte) : Byte := tab8 sboxTab b
def invSbox (b : Byte) : Byte := tab8 invSboxTab b

def xtime (b : Byte) : Byte := if b.getLsbD 7 then (b <<< 1) ^^^ 0x1B else b <<< 1

/-- Multiplication in the AES field by a small constant. -/
def gmul (c : Nat) (b : Byte) : Byte :=
  let b2 := xtime b
  let b4 := xtime b2
  let b8 := xtime b4
  (if c.testBit 0 then b else 0) ^^^ (if c.testBit 1 then b2 else 0) ^^^ (if c.testBit 2 then b4 else 0) ^^^
    (if c.testBit 3 then b8 else 0)

def xorB (a b : List Byte) : List Byte := List.zipWith (· ^^^ ·) a b

/-- One more 4-byte word of the key schedule: words newest first, `i` its index, `nk` the key's words. -/
def keyWord (nk i : Nat) (ws : List (List Byte)) (rcon : Byte) : List Byte :=
  let t := ws.headD []
  let back := ws.getD (nk - 1) []
  let t := if i % nk = 0 then
      xorB ((t.drop 1 ++ t.take 1).map sbox) [rcon, 0, 0, 0]
    else if 6 < nk ∧ i % nk = 4 then t.map sbox else t
  xorB back t

def keySched (nk : Nat) : Nat → Nat → List (List Byte) → Byte → List (List Byte)
  | 0, _, ws, _ => ws
  | n + 1, i, ws, rcon => keySched nk n (i + 1) (keyWord nk i ws rcon :: ws) (if i % nk = 0 then xtime rcon else rcon)

/-- The round keys of a 16-, 24- or 32-byte key. -/
def roundKeys (key : List Byte) : List (List Byte) :=
  let nk := key.length / 4
  let w0 := (chunks 4 nk key).reverse
  let ws := (keySched nk (4 * (nk + 7) - nk) nk w0 1).reverse
  (chunks 16 (nk + 7) ws.flatten)

/-- ShiftRows: byte 4c+r comes from column c+r. -/
def shiftRows (b : List Byte) : List Byte := (List.range 16).map fun i => b.getD ((i + 4 * (i % 4)) % 16) 0
def invShiftRows (b : List Byte) : List Byte := (List.range 16).map fun i => b.getD ((i + 12 * (i % 4)) % 16) 0

def mixCol (c0 c1 c2 c3 : Nat) (c : List Byte) : List Byte :=
  match c with
  | [a, b, d, e] =>
    [gmul c0 a ^^^ gmul c1 b ^^^ gmul c2 d ^^^ gmul c3 e, gmul c3 a ^^^ gmul c0 b ^^^ gmul c1 d ^^^ gmul c2 e,
     gmul c2 a ^^^ gmul c3 b ^^^ gmul c0 d ^^^ gmul c1 e, gmul c1 a ^^^ gmul c2 b ^^^ gmul c3 d ^^^ gmul c0 e]
  | _ => c

def mixCols (b : List Byte) : List Byte := ((chunks 4 4 b).map (mixCol 2 3 1 1)).flatten
def invMixCols (b : List Byte) : List Byte := ((chunks 4 4 b).map (mixCol 14 11 13 9)).flatten

def aesRounds : List (List Byte) → List Byte → List Byte
  | [], b => b
  | [k], b => xorB (shiftRows (b.map sbox)) k
  | k :: ks, b => aesRounds ks (xorB (mixCols (shiftRows (b.map sbox))) k)

def aesInvRounds : List (List Byte) → List Byte → List Byte
  | [], b => b
  | [k], b => xorB ((invShiftRows b).map invSbox) k
  | k :: ks, b => aesInvRounds ks (invMixCols (xorB ((invShiftRows b).map invSbox) k))

/-- The forward cipher on one block. -/
def aesEnc (key b : List Byte) : List Byte :=
  match roundKeys key with
  | [] => b
  | k :: ks => aesRounds ks (xorB b k)

/-- The inverse cipher on one block. -/
def aesDec (key b : List Byte) : List Byte :=
  match (roundKeys key).reverse with
  | [] => b
  | k :: ks => aesInvRounds ks (xorB b k)

/-! ### Modes over a block function of any block length -/

def ecbMode (f : List Byte → List Byte) (bl : Nat) (m : List Byte) : List Byte := ((chunks bl m.length m).map f).flatten

def cbcEnc (f : List Byte → List Byte) : List Byte → List (List Byte) → List Byte
  | _, [] => []
  | iv, b :: bs => let c := f (xorB b iv); c ++ cbcEnc f c bs

def cbcDec (f : List Byte → List Byte) : List Byte → List (List Byte) → List Byte
  | _, [] => []
  | iv, b :: bs => xorB (f b) iv ++ cbcDec f b bs

/-- The last CBC block: the MAC chain. -/
def cbcChain (f : List Byte → List Byte) (iv : List Byte) (bs : List (List Byte)) : List Byte := bs.foldl (fun c b => f (xorB c b)) iv

/-- A counter block advanced by `k` in its last `w` bits. -/
def ctrAdd (w : Nat) (c : List Byte) (k : Nat) : List Byte :=
  let n := natBE c
  bytesBE 16 (n / 2 ^ w * 2 ^ w + (n % 2 ^ w + k) % 2 ^ w)

/-- CTR mode from counter block `c` with a counter of `w` bits. -/
def ctrMode (f : List Byte → List Byte) (w : Nat) (c m : List Byte) : List Byte :=
  let bs := chunks 16 m.length m
  (List.zipWith (fun k b => xorB b (f (ctrAdd w c k))) (numsFrom bs.length 0) bs).flatten

/-- Zero-pad to a multiple of `bl` bytes. -/
def padZero (bl : Nat) (m : List Byte) : List Byte := m ++ List.replicate ((bl - m.length % bl) % bl) 0

/-- Doubling of a 16-byte string for CMAC. -/
def cmacDbl (b : List Byte) : List Byte :=
  let n := natBE b
  bytesBE 16 ((2 * n % 2 ^ 128) ^^^ (if n.testBit 127 then 0x87 else 0))

/-- AES-CMAC. -/
def aesCmac (key m : List Byte) : List Byte :=
  let f := aesEnc key
  let k1 := cmacDbl (f (List.replicate 16 0))
  let k2 := cmacDbl k1
  let full := decide (m ≠ [] ∧ m.length % 16 = 0)
  let head := if full then m.take (m.length - 16) else m.take (m.length / 16 * 16)
  let tail := m.drop head.length
  let last := if full then xorB tail k1 else xorB (padZero 16 (tail ++ [0x80])) k2
  f (xorB (cbcChain f (List.replicate 16 0) (chunks 16 head.length head)) last)

/-- SP 800-108 in counter mode with AES-CMAC: counter of 4 bytes, the label and context as fixed data, the length in bits. -/
def kdfCounter (key fixed : List Byte) (n : Nat) : List Byte :=
  (((numsFrom ((n + 15) / 16) 1).map fun i => aesCmac key (bytesBE 4 i ++ fixed ++ bytesBE 4 (8 * n))).flatten).take n

/-- Multiplication in GF(2^128) as GCM defines it: bit 0 is the most significant bit of byte 0. -/
def gcmMulAux (x : Nat) : Nat → Nat → Nat → Nat
  | 0, _, z => z
  | n + 1, v, z => gcmMulAux x n ((v >>> 1) ^^^ (if v.testBit 0 then 0xE1 <<< 120 else 0)) (if x.testBit n then z ^^^ v else z)
def gcmMul (x h : Nat) : Nat := gcmMulAux x 128 h 0

def ghash (h : Nat) (m : List Byte) : Nat := (chunks 16 m.length m).foldl (fun y b => gcmMul (y ^^^ natBE b) h) 0

/-- GCM: the text under CTR and the 16-byte tag over AAD and ciphertext. `enc` tells which of the two the input is. -/
def gcmMode (key iv aad m : List Byte) (enc : Bool) : List Byte × List Byte :=
  let f := aesEnc key
  let h := natBE (f (List.replicate 16 0))
  let j0 := if iv.length = 12 then iv ++ [0, 0, 0, 1]
    else bytesBE 16 (ghash h (padZero 16 iv ++ List.replicate 8 0 ++ bytesBE 8 (8 * iv.length)))
  let out := ctrMode f 32 (ctrAdd 32 j0 1) m
  let c := if enc then out else m
  let s := ghash h (padZero 16 aad ++ padZero 16 c ++ bytesBE 8 (8 * aad.length) ++ bytesBE 8 (8 * c.length))
  (out, xorB (bytesBE 16 s) (f j0))

/-- CCM with a length field of `l` bytes, nonce of 15 − l bytes, tag of `t` bytes. -/
def ccmMode (key nonce aad m : List Byte) (l t : Nat) (enc : Bool) : List Byte × List Byte :=
  let f := aesEnc key
  let a0 := BitVec.ofNat 8 (l - 1) :: nonce ++ List.replicate l 0
  let out := ctrMode f (8 * l) (ctrAdd (8 * l) a0 1) m
  let p := if enc then m else out
  let b0 := BitVec.ofNat 8 ((if aad.isEmpty then 0 else 64) + 8 * ((t - 2) / 2) + (l - 1)) :: nonce ++ bytesBE l p.length
  let alen := if aad.isEmpty then [] else if aad.length < 0xFF00 then bytesBE 2 aad.length else [0xFF, 0xFE] ++ bytesBE 4 aad.length
  let x := b0 ++ padZero 16 (alen ++ aad) ++ padZero 16 p
  let mac := cbcChain f (List.replicate 16 0) (chunks 16 x.length x)
  (out, (xorB mac (f a0)).take t)

end Sys2Proof.Machine
end

