-- ==== Sys2Proof/Machine/Des.lean ====
section
/-!
DEFINITION. TDEA (SP 800-67) on 8-byte blocks, with the MAC of ISO/IEC 9797-1 algorithm 3 (R333; log 40).
-/
namespace Sys2Proof.Machine
open Sys2Proof

/-- Initial permutation -/
def desIP : List Nat := [58, 50, 42, 34, 26, 18, 10, 2, 60, 52, 44, 36, 28, 20, 12, 4, 62, 54, 46, 38, 30, 22, 14, 6, 64, 56, 48, 40,
  32, 24, 16, 8, 57, 49, 41, 33, 25, 17, 9, 1, 59, 51, 43, 35, 27, 19, 11, 3, 61, 53, 45, 37, 29, 21, 13, 5, 63,
  55, 47, 39, 31, 23, 15, 7]
/-- Final permutation -/
def desFP : List Nat := [40, 8, 48, 16, 56, 24, 64, 32, 39, 7, 47, 15, 55, 23, 63, 31, 38, 6, 46, 14, 54, 22, 62, 30, 37, 5, 45, 13,
  53, 21, 61, 29, 36, 4, 44, 12, 52, 20, 60, 28, 35, 3, 43, 11, 51, 19, 59, 27, 34, 2, 42, 10, 50, 18, 58, 26,
  33, 1, 41, 9, 49, 17, 57, 25]
/-- Expansion -/
def desE : List Nat := [32, 1, 2, 3, 4, 5, 4, 5, 6, 7, 8, 9, 8, 9, 10, 11, 12, 13, 12, 13, 14, 15, 16, 17, 16, 17, 18, 19, 20, 21, 20,
  21, 22, 23, 24, 25, 24, 25, 26, 27, 28, 29, 28, 29, 30, 31, 32, 1]
/-- Permutation of the round function -/
def desP : List Nat := [16, 7, 20, 21, 29, 12, 28, 17, 1, 15, 23, 26, 5, 18, 31, 10, 2, 8, 24, 14, 32, 27, 3, 9, 19, 13, 30, 6, 22,
  11, 4, 25]
/-- Permuted choice 1 -/
def desPC1 : List Nat := [57, 49, 41, 33, 25, 17, 9, 1, 58, 50, 42, 34, 26, 18, 10, 2, 59, 51, 43, 35, 27, 19, 11, 3, 60, 52, 44, 36,
  63, 55, 47, 39, 31, 23, 15, 7, 62, 54, 46, 38, 30, 22, 14, 6, 61, 53, 45, 37, 29, 21, 13, 5, 28, 20, 12, 4]
/-- Permuted choice 2 -/
def desPC2 : List Nat := [14, 17, 11, 24, 1, 5, 3, 28, 15, 6, 21, 10, 23, 19, 12, 4, 26, 8, 16, 7, 27, 20, 13, 2, 41, 52, 31, 37, 47,
  55, 30, 40, 51, 45, 33, 48, 44, 49, 39, 56, 34, 53, 46, 42, 50, 36, 29, 32]
/-- Rotations of the key schedule -/
def desShift : List Nat := [1, 1, 2, 2, 2, 2, 2, 2, 1, 2, 2, 2, 2, 2, 2, 1]
/-- The eight S-boxes, entry 0 of each in the low four bits. -/
def desS : List Nat := [0xd60ae3b5719428cf05a379cfb26d8e148359bc6a1d2e47f07095c6a38bf21d4e,
  0x9e50c76b24f31a8df2396c851d4ab7e05b96a10ce82f74d3a50cd27943b6e81f,
  0xc25b3ef478960da17ea5c21b03f8946d1fbce582a643907d824b7cd15f36e90a,
  0xe27cb5498d1a60f34825e31fd7bc096a9ea1c27430f65b8df4cb5821a9603ed7,
  0x354a90f6d2e17c8be0365c9f87dab1246893af051d74c2be9e0df3586ba714c2,
  0xd80671ebaf59c2346bd1a4073c825fe983b0ed1659c724fab57e43d08629fa1c,
  0xc32ef0597a418db6295086fae73cdb4168f2c53ea1947b0d16a579c3d80fe2b4,
  0xb65309cfd8a47e12853fda602ec914b729e0b65c473a8df17c05e39a1bf6482d]

/-- Permute the bits of an `n`-bit number; bit 1 of the tables is the most significant. -/
def desPerm (n : Nat) (t : List Nat) (v : Nat) : Nat := t.foldl (fun r x => 2 * r + (v >>> (n - x)) % 2) 0

def rot28 (v s : Nat) : Nat := ((v <<< s) ||| (v >>> (28 - s))) % 2 ^ 28

/-- The 16 round keys from the halves c and d. -/
def desKeys : List Nat → Nat → Nat → List Nat
  | [], _, _ => []
  | s :: ss, c, d =>
    let c := rot28 c s
    let d := rot28 d s
    desPerm 56 desPC2 (c * 2 ^ 28 + d) :: desKeys ss c d

/-- The round function. -/
def desF (r k : Nat) : Nat :=
  let e := desPerm 32 desE r ^^^ k
  let f := (numsFrom 8 0).foldl (fun f i =>
    let x := (e >>> (42 - 6 * i)) % 64
    16 * f + ((desS.getD i 0) >>> (4 * ((x / 32 * 2 + x % 2) * 16 + x / 2 % 16))) % 16) 0
  desPerm 32 desP f

/-- DES on one block under an 8-byte key. -/
def desBlock (enc : Bool) (key b : List Byte) : List Byte :=
  let cd := desPerm 64 desPC1 (natBE key)
  let ks := desKeys desShift (cd / 2 ^ 28) (cd % 2 ^ 28)
  let ks := if enc then ks else ks.reverse
  let v := desPerm 64 desIP (natBE b)
  let (l, r) := ks.foldl (fun (p : Nat × Nat) k => (p.2, p.1 ^^^ desF p.2 k)) (v / 2 ^ 32, v % 2 ^ 32)
  bytesBE 8 (desPerm 64 desFP (r * 2 ^ 32 + l))

/-- The three 8-byte keys of a 16- or 24-byte TDEA key. -/
def tdeaKeys (key : List Byte) : List Byte × List Byte × List Byte :=
  let k1 := key.take 8
  let k2 := (key.drop 8).take 8
  (k1, k2, if key.length < 24 then k1 else (key.drop 16).take 8)

def tdeaEnc (key b : List Byte) : List Byte :=
  let (k1, k2, k3) := tdeaKeys key
  desBlock true k3 (desBlock false k2 (desBlock true k1 b))
def tdeaDec (key b : List Byte) : List Byte :=
  let (k1, k2, k3) := tdeaKeys key
  desBlock false k1 (desBlock true k2 (desBlock false k3 b))

/-- ISO/IEC 9797-1 MAC algorithm 3 on whole blocks: the DES chain under the first key, then the second and the first. -/
def retailMac (key m : List Byte) : List Byte :=
  let (k1, k2, _) := tdeaKeys key
  let c := cbcChain (desBlock true k1) (List.replicate 8 0) (chunks 8 m.length m)
  desBlock true k1 (desBlock false k2 c)

end Sys2Proof.Machine
end

