-- ==== Sys2Proof/Machine/Curves.lean ====
section
/-!
DEFINITION. The public-key operations that the spec names (R113, R141, R333): ECDSA and key agreement on P-256 (FIPS 186-5,
SEC 1), Ed25519 (RFC 8032) and X25519 (RFC 7748), over natural numbers (log 40).
-/
namespace Sys2Proof.Machine
open Sys2Proof

/-- `b ^ e` modulo `m`, with `n` bits of `e` from the top. -/
def powMod (m b e : Nat) : Nat → Nat
  | 0 => 1 % m
  | n + 1 => let r := powMod m b (e / 2) n
             if e % 2 = 1 then r * r % m * b % m else r * r % m

/-- Modular inverse for a prime modulus. -/
def invMod (p a : Nat) : Nat := powMod p (a % p) (p - 2) 256

/-- Subtraction modulo `p`. -/
def subMod (p a b : Nat) : Nat := (a + (p - b % p)) % p

/-! ### P-256 -/

def p256P : Nat := 0xffffffff00000001000000000000000000000000ffffffffffffffffffffffff
def p256N : Nat := 0xffffffff00000000ffffffffffffffffbce6faada7179e84f3b9cac2fc632551
def p256B : Nat := 0x5ac635d8aa3a93e7b3ebbd55769886bc651d06b0cc53b0f63bce3c3e27d2604b
def p256G : Nat × Nat := (0x6b17d1f2e12c4247f8bce6e563a440f277037d812deb33a0f4a13945d898c296,
  0x4fe342e2fe1a7f9b8ee7eb4a7c0f9e162bce33576b315ececbb6406837bf51f5)

/-- A point in Jacobian coordinates; z = 0 is the point at infinity. -/
structure Jac where
  x : Nat
  y : Nat
  z : Nat
  deriving DecidableEq, Repr

def jacDbl (q : Jac) : Jac :=
  let p := p256P
  if q.z = 0 ∨ q.y = 0 then ⟨1, 1, 0⟩
  else
    let d := q.z * q.z % p
    let g := q.y * q.y % p
    let b := q.x * g % p
    let a := 3 * (subMod p q.x d) * (q.x + d) % p
    let x := subMod p (a * a) (8 * b)
    let z := 2 * q.y * q.z % p
    ⟨x, subMod p (a * subMod p (4 * b) x) (8 * g * g), z⟩

def jacAdd (q r : Jac) : Jac :=
  let p := p256P
  if q.z = 0 then r
  else if r.z = 0 then q
  else
    let z1 := q.z * q.z % p
    let z2 := r.z * r.z % p
    let u1 := q.x * z2 % p
    let u2 := r.x * z1 % p
    let s1 := q.y * z2 * r.z % p
    let s2 := r.y * z1 * q.z % p
    if u1 = u2 then (if s1 = s2 then jacDbl q else ⟨1, 1, 0⟩)
    else
      let h := subMod p u2 u1
      let k := subMod p s2 s1
      let h2 := h * h % p
      let h3 := h2 * h % p
      let v := u1 * h2 % p
      let x := subMod p (subMod p (k * k) h3) (2 * v)
      ⟨x, subMod p (k * subMod p v x) (s1 * h3), h * q.z * r.z % p⟩

/-- Scalar multiplication over `n` bits. -/
def jacMul (q : Jac) : Nat → Nat → Jac
  | 0, _ => ⟨1, 1, 0⟩
  | n + 1, k => let r := jacDbl (jacMul q n (k / 2))
                if k % 2 = 1 then jacAdd r q else r

def Jac.affine (q : Jac) : Option (Nat × Nat) :=
  if q.z = 0 then none
  else
    let i := invMod p256P q.z
    let i2 := i * i % p256P
    some (q.x * i2 % p256P, q.y * i2 % p256P * i % p256P)

def p256Mul (k : Nat) (q : Nat × Nat) : Option (Nat × Nat) := (jacMul ⟨q.1, q.2, 1⟩ 256 k).affine

/-- The point satisfies the curve's equation. -/
def p256On (q : Nat × Nat) : Bool :=
  decide (q.1 < p256P ∧ q.2 < p256P) &&
    decide (q.2 * q.2 % p256P = (q.1 * q.1 * q.1 + (p256P - 3) * q.1 + p256B) % p256P)

/-- ECDSA from k⁻¹ and r: s = k⁻¹ (e + r d). -/
def ecdsaFinish (kinv r d e : Nat) : Nat := kinv * ((e + r * d) % p256N) % p256N

/-- ECDSA verification of the digest value `e`. -/
def ecdsaVerify (q : Nat × Nat) (e r s : Nat) : Bool :=
  decide (0 < r ∧ r < p256N ∧ 0 < s ∧ s < p256N) && p256On q &&
    (let w := invMod p256N s
     match (jacAdd (jacMul ⟨p256G.1, p256G.2, 1⟩ 256 (e * w % p256N)) (jacMul ⟨q.1, q.2, 1⟩ 256 (r * w % p256N))).affine with
     | none => false
     | some pt => decide (pt.1 % p256N = r))

/-- A public point from 64 big-endian bytes, x then y. -/
def pointBE (b : List Byte) : Nat × Nat := (natBE (b.take 32), natBE ((b.drop 32).take 32))

/-- ECDSA P-256 with SHA-256 over a message, with key and signature as 64 big-endian bytes each. -/
def ecdsaVerifyMsg (pub msg sig : List Byte) : Bool :=
  ecdsaVerify (pointBE pub) (natBE (sha256 msg)) (natBE (sig.take 32)) (natBE ((sig.drop 32).take 32))

/-! ### Curve25519 -/

def c25519P : Nat := 2 ^ 255 - 19
def ed25519L : Nat := 2 ^ 252 + 27742317777372353535851937790883648493
def ed25519D : Nat := 0x52036cee2b6ffe738cc740797779e89800700a4d4141d8ab75eb4dca135978a3
def ed25519G : Nat × Nat := (0x216936D3CD6E53FEC0A4E231FDD6DC5C692CC7609525A7B2C9562D608F25D51A,
  0x6666666666666666666666666666666666666666666666666666666666666658)

/-- A point in extended coordinates. -/
structure Ext where
  x : Nat
  y : Nat
  z : Nat
  t : Nat
  deriving DecidableEq, Repr

def extAdd (a b : Ext) : Ext :=
  let p := c25519P
  let e1 := subMod p a.y a.x * subMod p b.y b.x % p
  let e2 := (a.y + a.x) * (b.y + b.x) % p
  let c := 2 * a.t * ed25519D % p * b.t % p
  let d := 2 * a.z * b.z % p
  let e := subMod p e2 e1
  let f := subMod p d c
  let g := (d + c) % p
  let h := (e2 + e1) % p
  ⟨e * f % p, g * h % p, f * g % p, e * h % p⟩

def extMul (q : Ext) : Nat → Nat → Ext
  | 0, _ => ⟨0, 1, 1, 0⟩
  | n + 1, k => let r := extMul q n (k / 2)
                let r := extAdd r r
                if k % 2 = 1 then extAdd r q else r

def extOf (q : Nat × Nat) : Ext := ⟨q.1, q.2, 1, q.1 * q.2 % c25519P⟩
def Ext.same (a b : Ext) : Bool :=
  decide (a.x * b.z % c25519P = b.x * a.z % c25519P ∧ a.y * b.z % c25519P = b.y * a.z % c25519P)

/-- The encoding of a point: y with the parity of x in the top bit. -/
def Ext.enc (q : Ext) : List Byte :=
  let i := invMod c25519P q.z
  let x := q.x * i % c25519P
  let y := q.y * i % c25519P
  bytesLE 32 (y + (x % 2) * 2 ^ 255)

/-- Decoding of a point (RFC 8032, 5.1.3). -/
def edDecode (b : List Byte) : Option Ext :=
  let n := natLE b
  let y := n % 2 ^ 255
  let sign := n / 2 ^ 255
  let p := c25519P
  if p ≤ y then none
  else
    let u := subMod p (y * y) 1
    let v := (ed25519D * y * y + 1) % p
    let x0 := u * powMod p v 3 2 % p * powMod p (u * powMod p v 7 3 % p) ((p - 5) / 8) 256 % p
    let vx := v * x0 % p * x0 % p
    let x := if vx = u then some x0
      else if vx = (p - u) % p then some (x0 * powMod p 2 ((p - 1) / 4) 256 % p)
      else none
    match x with
    | none => none
    | some x => if x = 0 ∧ sign = 1 then none else some (extOf (if x % 2 = sign then x else p - x, y))

/-- The clamped scalar and the prefix of a private key. -/
def edSecret (sk : List Byte) : Nat × List Byte :=
  let h := sha512 sk
  let a := natLE (h.take 32)
  (a / 8 % 2 ^ 251 * 8 + 2 ^ 254, h.drop 32)

def edPublic (sk : List Byte) : List Byte := (extMul (extOf ed25519G) 256 (edSecret sk).1).enc

def edSign (sk msg : List Byte) : List Byte :=
  let (a, pre) := edSecret sk
  let r := natLE (sha512 (pre ++ msg)) % ed25519L
  let rb := (extMul (extOf ed25519G) 256 r).enc
  let k := natLE (sha512 (rb ++ edPublic sk ++ msg)) % ed25519L
  rb ++ bytesLE 32 ((r + k * a) % ed25519L)

def edVerify (pub msg sig : List Byte) : Bool :=
  match edDecode pub, edDecode (sig.take 32) with
  | some a, some r =>
    let s := natLE ((sig.drop 32).take 32)
    let k := natLE (sha512 (sig.take 32 ++ pub ++ msg)) % ed25519L
    decide (s < ed25519L) && (extMul (extOf ed25519G) 256 s).same (extAdd r (extMul a 256 k))
  | _, _ => false

/-- One step of the Montgomery ladder on (x2, z2, x3, z3). -/
def ladderStep (x1 : Nat) (q : Nat × Nat × Nat × Nat) : Nat × Nat × Nat × Nat :=
  let p := c25519P
  let (x2, z2, x3, z3) := q
  let a := (x2 + z2) % p
  let aa := a * a % p
  let b := subMod p x2 z2
  let bb := b * b % p
  let e := subMod p aa bb
  let da := subMod p x3 z3 * a % p
  let cb := (x3 + z3) * b % p
  let x5 := (da + cb) % p
  let z5 := subMod p da cb
  (aa * bb % p, e * (aa + 121665 * e) % p, x5 * x5 % p, x1 * (z5 * z5 % p) % p)

def ladder (x1 k : Nat) : Nat → Nat × Nat × Nat × Nat
  | 0 => (1, 0, x1, 1)
  | n + 1 =>
    let (x2, z2, x3, z3) := ladder x1 (k / 2) n
    if k % 2 = 1 then
      let (x3', z3', x2', z2') := ladderStep x1 (x3, z3, x2, z2)
      (x2', z2', x3', z3')
    else ladderStep x1 (x2, z2, x3, z3)

/-- X25519 of a private key and a u-coordinate, 32 bytes each. -/
def x25519 (sk u : List Byte) : List Byte :=
  let a := natLE sk
  let k := a % 2 ^ 254 / 8 * 8 + 2 ^ 254
  let (x2, z2, _, _) := ladder (natLE u % 2 ^ 255 % c25519P) k 255
  bytesLE 32 (x2 * invMod c25519P z2 % c25519P)

def x25519Base : List Byte := bytesLE 32 9

end Sys2Proof.Machine
end

