-- ==== Sys2Proof/Machine/Flash.lean ====
section
/-!
DEFINITION. Reads of the flash array through its sense paths and error code (R281, R282). The FLC page is FlashCtl.lean's.
-/
namespace Sys2Proof.Machine
open Sys2Proof

/-- An uncorrectable error or a mismatch of both sensings: the FLC event and the Cloche source (R281, R282; ch. 12, IRQ_RAW[4]). -/
def State.flashError (s : State) (src : Nat) : State := (s.irq pageFLC 4).cloche src 0

/-- A line read: data and whether it came (R281, R282). A mismatch of the sense paths can only show while redund is 1. -/
def State.flashSense (s : State) (_a : Nat) (g : Integ) : State × Bool :=
  match g with
  | .flashCorrected => (s.inc F.FLC.ECC.corrected, true)
  | .flashUncorrectable => ((s.inc F.FLC.ECC.uncorr).flashError 28, false)
  | .flashMismatch => if s.on F.FLC.CTRL.redund then ((s.inc F.FLC.REDUND.count).flashError 29, false) else (s, true)
  | _ => (s, true)

end Sys2Proof.Machine
end

