-- ==== Sys2Proof/Machine/Fabric.lean ====
section
/-!
DEFINITION. Accesses to memory regions over the fabric by any initiator (R16, R17, R82, R251 to R256, R262, R267, R268, R272,
R555): SRAM with its check codes and caches, boot ROM, flash and option window, ledger, trace RAM. Register pages are
Pages.lean's.
-/
namespace Sys2Proof.Machine
open Sys2Proof

/-- Bus sub-causes (ch. 9). -/
def busDECODE : Nat := 1
def busPAGE : Nat := 2
def busOFF : Nat := 3
def busINTEG : Nat := 4

/-- The domain of an access answers it. One that is powering up makes the access wait until it is up (R82): cores and the probe present theirs
again (`State.readStalls`), and a DMA transfer that meets it completes as it will then. -/
def State.domainReady (s : State) (d : Nat) : Bool := (decide (d = 0) && decide (s.aon.pstate ≠ 4)) || s.pdServes d || s.pdRising d

/-- The row of an SRAM address has its initialised bit set (R255). -/
def State.rowReady (s : State) (a : Nat) : Bool := tabGet false s.rowInit (a / 32)

/-- Write SRAM bytes: stored, the granule's tag cleared, the row initialised (R161, R255). -/
def State.sramStore (s : State) (a n v : Nat) : State := (s.setBytes a (bytesLE n v)).touchSram a

/-- End the reservations that a write by `ini` breaks (R192: another agent writes any byte of the granule). -/
def State.breakResv (s : State) (ini : Ini) (a : Nat) : State :=
  let s := if ini = .core0 then s else { s with core0 := s.core0.endResv (a / 16) }
  if ini = .core1 then s else { s with core1 := s.core1.endResv (a / 16) }

/-- The core that an initiator is. -/
def iniCore : Ini → Option CoreId
  | .core0 => some .core0 | .core1 => some .core1 | _ => none

/-- A read of SRAM itself fails (R253, R256): its check code where the row has contents, or for a core's fill the two copies of a tag. What a
cache holds Modified is served from there (R262). -/
def State.sramFails (s : State) (ini : Ini) (a : Nat) (g : Integ) : Bool :=
  !s.servedByCache ini a &&
    ((decide (g = .sramCheck) && s.rowReady a) || (decide (g = .tagCopies) && (iniCore ini).isSome))

/-- A read of up to 16 bytes of SRAM inside one line (R253, R255, R256, R262, R268). -/
def State.sramRead (s : State) (ini : Ini) (a n : Nat) (g : Integ) : State × Except Nat Nat :=
  let hit := match iniCore ini with | some c => ((s.core c).line? a).isSome | none => false
  if hit then (s, .ok (s.loadN a n))
  else if g = .reqBeat then (s.integrity F.SMPU.INTEG.beat a, .error busINTEG)
  else if s.sramFails ini a g then (s.integrity F.SMPU.INTEG.sram a, .error busINTEG)
  else
    let s := match iniCore ini with | some c => s.coreReadLine c a | none => s.dmaReadLine ini a
    if g = .respBeat then (s.integrity F.SMPU.INTEG.beat a, .error busINTEG)
    else (s, .ok (s.loadN a n))

/-- A write by `ini` first reads what it does not replace: a core's store that misses fills its line, another agent's write of a part of a
word merges into it (R254, R262). -/
def writeReads (ini : Ini) (a n : Nat) : Bool := (iniCore ini).isSome || decide (a % 4 ≠ 0) || decide (n % 4 ≠ 0)

/-- A write of up to 16 bytes of SRAM inside one granule (R161, R253 to R256, R262, R268). -/
def State.sramWrite (s : State) (ini : Ini) (a n v : Nat) (g : Integ) : State × Option Nat :=
  let hit := match iniCore ini with | some c => ((s.core c).line? a).isSome | none => false
  if !hit && decide (g = .reqBeat) then (s.integrity F.SMPU.INTEG.beat a, some busINTEG)
  else if !hit && writeReads ini a n && s.sramFails ini a g then (s.integrity F.SMPU.INTEG.sram a, some busINTEG)
  else
    let s := match iniCore ini with | some c => s.coreOwnLine c a | none => s.dmaWriteLine ini a
    let s := (s.sramStore a n v).breakResv ini a
    if !hit && decide (g = .respBeat) then (s.integrity F.SMPU.INTEG.beat a, some busINTEG) else (s, none)

/-- The fabric's beats on an uncached access: a bad request beat changes nothing at the target, a bad response beat leaves the
target's action and takes its data (R268). -/
def State.beats (s : State) (a : Nat) (g : Integ) (act : State → State × Except Nat Nat) : State × Except Nat Nat :=
  if g = .reqBeat then (s.integrity F.SMPU.INTEG.beat a, .error busINTEG)
  else
    let (s, r) := act s
    if g = .respBeat then (s.integrity F.SMPU.INTEG.beat a, .error busINTEG) else (s, r)

/-- A read of `n` bytes at `a` from a memory region, the trace window or an unmapped address, by an initiator acting for world `w`
(the MPU has passed it). -/
def State.memRead (s : State) (ini : Ini) (w : World) (a n : Nat) (g : Integ) : State × Except Nat Nat :=
  if !s.domainReady (addrDomain a) then (s.offAccess ini w false a, .error busOFF)
  else
    match regionOf a with
    | .sramF | .sramG => s.sramRead ini a n g
    | .rom => s.beats a g fun s => (s, .ok (s.loadN a n))
    | .flash | .option => s.beats a g fun s =>
        let (s, ok) := s.flashSense a g
        if ok then (s, .ok (s.loadN a n)) else (s, .error busINTEG)
    | .ledger => s.beats a g fun s => s.ledgerRead ini w a n g
    | .trace => s.beats a g fun s =>
        if n = 4 ∧ a % 4 = 0 then (s, .ok (if a < 0x60002000 then s.loadN a 4 else 0)) else (s, .error busDECODE)
    | _ => (s, .error busDECODE)

/-- A write of `n` bytes at `a` likewise (R17, R296 to R301, R555). -/
def State.memWrite (s : State) (ini : Ini) (w : World) (a n v : Nat) (g : Integ) : State × Option Nat :=
  if !s.domainReady (addrDomain a) then (s.offAccess ini w true a, some busOFF)
  else
    match regionOf a with
    | .sramF | .sramG => s.sramWrite ini a n v g
    | .ledger =>
      if g = .reqBeat then (s.integrity F.SMPU.INTEG.beat a, some busINTEG)
      else
        let (s, e) := s.ledgerWrite ini w a n v g
        if g = .respBeat then (s.integrity F.SMPU.INTEG.beat a, some busINTEG) else (s, e)
    | _ => if g = .reqBeat ∨ g = .respBeat then (s.integrity F.SMPU.INTEG.beat a, some busINTEG) else (s, some busDECODE)

/-- A DMA access of a channel: judged by the MPU, refused and recorded, or passed (R271, R272). -/
def State.dmaAllowed (s : State) (ini : Ini) (w : World) (k : Kind) (a : Nat) : State × Bool :=
  match iniChannel ini with
  | none => (s, true)
  | some ch =>
    match s.mpuJudge ch w k a with
    | some (sub, n) => (s.mpuRecord ch sub n w (decide (k = .write)) false a, false)
    | none => (s, true)

/-- The refusal of a page access from a channel that R20 does not admit (R580 step 1). -/
def State.pageChannelRefused (s : State) (ini : Ini) (w : World) (wr : Bool) (a : Nat) : State :=
  let p := pageOf a
  if !s.domainReady (pageDomain p) then s.offAccess ini w wr a
  else (s.fault p 0x01 (iniCode ini) w wr a).inc (F.HDR.OWNER.world_refused.onPage p)

/-- The fate of one access of a command whose operand is `g`: other than `ok` it says that accesses of the command fail so, and which of them do
is a free value (log 6). -/
def State.beatFate (s : State) (g : Integ) : Integ × State :=
  if g = .ok then (.ok, s)
  else
    let (n, s) := s.draw
    (if Config.freeNat n % 2 = 1 then g else .ok, s)

/-- A DMA read of `n` bytes at `a` reaches a flash bank that a program or an erase keeps busy: it waits until that ends (R284). -/
def State.dmaStalls (s : State) (a n : Nat) : Bool := decide (0 < n) && (s.bankBusy a || s.bankBusy (a + n - 1))

/-- Bytes that one DMA beat may hold: up to the end of its 16-byte granule. -/
def beatLen (a n : Nat) : Nat := min n (16 - a % 16)

/-- A DMA read of `n` bytes: beat by beat, ending at the first beat refused or failing (R271). The bytes read so far, and whether
all came. -/
def State.dmaRead (ini : Ini) (w : World) (g : Integ) : Nat → State → Nat → Nat → State × List Byte × Bool
  | 0, s, _, n => (s, [], decide (n = 0))
  | fuel + 1, s, a, n =>
    if n = 0 then (s, [], true)
    else
      let m := beatLen a n
      let (s, pass) := s.dmaAllowed ini w .read a
      if !pass then (s, [], false)
      else if regionOf a = .pages then (s.pageChannelRefused ini w false a, [], false)
      else
        let (b, s) := s.beatFate g
        let (s, r) := s.memRead ini w a m b
        match r with
        | .error _ => (s, [], false)
        | .ok v =>
          let (s, bs, ok) := State.dmaRead ini w g fuel s (a + m) (n - m)
          (s, bytesLE m v ++ bs, ok)

/-- A DMA write of bytes: beat by beat, ending at the first beat refused or failing; the earlier beats stay (R271). How many bytes
were written. -/
def State.dmaWriteLen (ini : Ini) (w : World) (g : Integ) : Nat → State → Nat → List Byte → State × Nat
  | 0, s, _, _ => (s, 0)
  | fuel + 1, s, a, bs =>
    if bs.isEmpty then (s, 0)
    else
      let m := beatLen a bs.length
      let (s, pass) := s.dmaAllowed ini w .write a
      if !pass then (s, 0)
      else if regionOf a = .pages then (s.pageChannelRefused ini w true a, 0)
      else
        let (b, s) := s.beatFate g
        let (s, e) := s.memWrite ini w a m (natLE (bs.take m)) b
        match e with
        | some _ => (s, 0)
        | none =>
          let (s, k) := State.dmaWriteLen ini w g fuel s (a + m) (bs.drop m)
          (s, m + k)

/-- A whole DMA write, and whether it all arrived. -/
def State.dmaWrite (s : State) (ini : Ini) (w : World) (g : Integ) (a : Nat) (bs : List Byte) : State × Bool :=
  let (s, k) := State.dmaWriteLen ini w g (bs.length + 1) s a bs
  (s, decide (k = bs.length))

/-- A whole DMA read. -/
def State.dmaLoad (s : State) (ini : Ini) (w : World) (g : Integ) (a n : Nat) : State × List Byte × Bool :=
  State.dmaRead ini w g (n + 1) s a n

end Sys2Proof.Machine
end

