-- ==== Sys2Proof/Machine/PageRules.lean ====
section
/-!
DEFINITION. What a register page does with an access before its block acts (ch. 2): the order of R580, ownership (R29, R30),
/G and locked fields (R31, R36), the OWNER, LOCK and FAULT registers (R24 to R26, R32 to R35, R42), and the reads of the
common header (R24).
-/
namespace Sys2Proof.Machine
open Sys2Proof

/-- Page causes (R28's table). -/
def causeWORLD : Nat := 0x01
def causeLOCKED_WRITE : Nat := 0x02
def causeWIDTH : Nat := 0x03
def causeHOLE : Nat := 0x04
def causeLOCK_CMD : Nat := 0x05
def causeLOCK_KEY : Nat := 0x06
def causeBAD_OWNER : Nat := 0x07

/-- The owner code of page `p`: 0 Field, 1 Glasshouse, 2 system. -/
def State.owner (s : State) (p : Nat) : Nat := s.get (F.HDR.OWNER.owner.onPage p)

/-- R29: the world may read the page. -/
def State.mayRead (s : State) (p : Nat) (w : World) : Bool := decide (w = .glass) || decide (s.owner p ≠ 1)

/-- R29: the world may write the page. -/
def State.mayWrite (s : State) (p : Nat) (w : World) : Bool := decide (w = .glass) || decide (s.owner p = 0)

/-- The page is soft- or hard-locked. -/
def State.locked (s : State) (p : Nat) : Bool := s.on (F.HDR.LOCK.state.onPage p)

/-- Channels that R20 admits. -/
def pageAdmits : Ini → Bool
  | .core0 | .core1 | .probe | .mgmt => true
  | _ => false

/-- The register of the common header or of the block that an offset names; header CTRL and STAT belong to the block. -/
def pageReg (p off : Nat) : Option RegInfo :=
  match findReg (pageRegs p) off with
  | some r => some r
  | none => findReg hdrRegs off

/-- Where R580 ends an access: with a bus error, at a hole, or at a register. -/
inductive Judged where
  | busErr (sub : Nat) (s : State)
  | hole (s : State)
  | reg (r : RegInfo)

/-- The probe level (LC.STATE.probe). -/
def State.probeLevel (s : State) : Nat := s.get F.LC.STATE.probe

/-- The world that an access of the probe port counts for (R123); other initiators bring their own. -/
def State.probeWorld (s : State) : World := if s.probeLevel = 3 then .glass else .field

/-- LC registers that a token transition writes, and those of a debug challenge (R128). -/
def lcTokenReg (a : Nat) : Bool := decide (a = R.LC.ADVANCE ∨ (R.LC.TOKEN ≤ a ∧ a < R.LC.TOKEN + 32))
def lcDebugReg (a : Nat) : Bool := decide (a = R.LC.DBG_CTRL ∨ (R.LC.DBG_KEY ≤ a ∧ a < R.LC.DBG_SIG + 64))

/-- R128: writes to LC that R29 would refuse. -/
def State.lcOpen (s : State) (ini : Ini) (a : Nat) : Bool :=
  if ini = .probe then
    (lcTokenReg a && decide (s.get F.LC.STATE.state ≠ 5)) || (lcDebugReg a && decide (s.probeLevel ≠ 1))
  else decide (s.get F.LC.STATE.state = 4) && lcTokenReg a

/-- The rights of the probe port on pages (R122, R128): ID registers and the LC page at every level, Field-owned pages at level 2, every
page at level 3. -/
def State.probeMayPage (s : State) (wr : Bool) (a : Nat) : Bool :=
  if wr then decide (s.probeLevel = 3) || s.lcOpen .probe a || (decide (s.probeLevel = 2) && decide (s.owner (pageOf a) = 0))
  else decide (s.probeLevel = 3) || decide (a % 0x1000 = R.HDR.ID) || decide (pageOf a = pageLC) ||
    (decide (s.probeLevel = 2) && decide (s.owner (pageOf a) = 0))

/-- A probe access refused at level 0 or 1 is reported to the Cloche as its source 31 (R147), once for the access. -/
def State.probeTamper (s : State) : State :=
  if s.probeLevel < 2 ∧ ¬ (31, 0) ∈ s.cloReport then s.cloche 31 0 else s

/-- R29 with the exceptions of R122 and R128: the access is allowed by ownership. -/
def State.mayAccess (s : State) (ini : Ini) (w : World) (wr : Bool) (a : Nat) : Bool :=
  if ini = .probe then s.probeMayPage wr a
  else if wr then s.mayWrite (pageOf a) w || s.lcOpen ini a
  else s.mayRead (pageOf a) w

/-- R580 steps 1 to 4, after the domain's state (R43, R82). -/
def State.pageJudge (s : State) (ini : Ini) (w : World) (wr : Bool) (size a : Nat) : Judged :=
  let p := pageOf a
  let n := iniCode ini
  if !s.domainReady (pageDomain p) then .busErr busOFF (s.offAccess ini w wr a)
  else if !pageAdmits ini then .busErr busPAGE ((s.fault p causeWORLD n w wr a).inc (F.HDR.OWNER.world_refused.onPage p))
  else if size ≠ 4 ∨ a % 4 ≠ 0 then .busErr busPAGE (s.fault p causeWIDTH n w wr a)
  else if !s.mayAccess ini w wr a then
    let s := if ini = .probe then s.probeTamper else s
    .busErr busPAGE ((s.fault p causeWORLD n w wr a).inc (F.HDR.OWNER.world_refused.onPage p))
  else
    match pageReg p (a % 0x1000) with
    | none => .hole (s.fault p causeHOLE n w wr a)
    | some r => .reg r

/-- A write that has reached its register (R580 step 5): where, who, the written value, the register before it, the value the
plain fields leave, the written bits that may act, and whether the access has recorded its cause. -/
structure Wr where
  p : Nat
  off : Nat
  a : Nat
  ini : Ini
  w : World
  v : Word
  old : Word
  new : Word
  act : Word
  recorded : Bool
  deriving DecidableEq, Repr

/-- A field of the bits that may act, as a number. -/
def Wr.bits (x : Wr) (f : Fld) : Nat := f.get x.act

/-- A written command bit of the bits that may act. -/
def Wr.on (x : Wr) (f : Fld) : Bool := decide (x.bits f ≠ 0)

/-- A block cause of a write, unless the access has recorded one already (R580). -/
def State.blockCause (s : State) (x : Wr) (cause : Nat) : State :=
  if x.recorded then s else s.fault x.p cause (iniCode x.ini) x.w true x.a

/-- The store of a write's plain fields. -/
def State.storeNew (s : State) (x : Wr) : State := s.setReg x.a x.new

/-- The new value with one field kept as it was: the response to a reserved encoding (R7). -/
def Wr.keep (x : Wr) (f : Fld) : Wr := { x with new := f.put (f.get x.old) x.new }

/-- The new value with one field replaced. -/
def Wr.with (x : Wr) (f : Fld) (v : Nat) : Wr := { x with new := f.put v x.new }

/-- CTL of a ring record: its low bits take a command, which reads 0, and show the state (R376). -/
def ringCtlAt (a : Nat) : Bool :=
  decide (pageOf a = pageRING ∧ 0x100 ≤ a % 0x1000 ∧ a % 0x1000 < 0xD00 ∧ a % 0x1000 % 32 = 20)

/-- The current value that R31 and R36 hold a write against: a command field reads 0. -/
def State.current (s : State) (a : Nat) : Word := if ringCtlAt a then s.reg a &&& ~~~7 else s.reg a

/-- The bits that behave as /G now: in a LINE register whose world bit is 1, and in the record of a ring or group whose world
reads 1, every writable field does (ch. 9, INTC; R376, R397). -/
def State.dynG (s : State) (r : RegInfo) (a : Nat) : Word :=
  let off := a % 0x1000
  let all := r.rw ||| r.w1c ||| r.g ||| (if ringCtlAt a then 7 else 0)
  if pageOf a = pageINTC ∧ 0x200 ≤ off then (if (s.reg a).getLsbD 6 then all else r.g)
  else if pageOf a = pageRING then
    if 0x100 ≤ off ∧ off < 0xD00 then (if s.on (F.RING.CFG.world.idx 32 ((off - 0x100) / 32)) then all else r.g)
    else if 0xD00 ≤ off ∧ off < 0xE00 then (if s.on (F.RING.GCFG.world.idx 8 ((off - 0xD00) / 8)) then all else r.g)
    else r.g
  else r.g

/-- R31 and R36: what a write changes, and what its refusal of fields records. -/
def State.fieldWrite (s : State) (r : RegInfo) (ini : Ini) (w : World) (a : Nat) (v : Word) : State × Wr :=
  let p := pageOf a
  let old := s.reg a
  let g : Word := if w = .field then s.dynG r a else 0
  let l : Word := if s.locked p then r.lk &&& ~~~ g else 0
  let gd := decide ((v ^^^ s.current a) &&& g ≠ 0)
  let ld := decide ((v ^^^ s.current a) &&& l ≠ 0)
  let keep := g ||| (if s.locked p then r.lk else 0)
  let eff := r.rw &&& ~~~ keep
  let new := ((old &&& ~~~ eff) ||| (v &&& eff)) &&& ~~~ (v &&& r.w1c &&& ~~~ keep)
  let s := if gd then (s.fault p causeWORLD (iniCode ini) w true a).inc (F.HDR.OWNER.world_refused.onPage p)
    else if ld then s.fault p causeLOCKED_WRITE (iniCode ini) w true a else s
  let s := if ld then s.inc (F.HDR.OWNER.lock_refused.onPage p) else s
  (s, ⟨p, a % 0x1000, a, ini, w, v, old, new, v &&& ~~~ keep, gd || ld⟩)

/-- A write of OWNER (R24 to R26, R31, R36): clr_cnt first, then the owner field of a reassignable page. A Glasshouse write of 0b10 or 0b11 on
a locked page records LOCKED_WRITE and not BAD_OWNER, as R580 has an access record one cause at most (DESIGN CHOICE, log 71: the spec does
not say which). -/
def State.writeOwner (s : State) (ini : Ini) (w : World) (a : Nat) (v : Word) : State :=
  let p := pageOf a
  let n := iniCode ini
  let s := if F.HDR.OWNER.clr_cnt.get v = 1 then
      (s.put (F.HDR.OWNER.world_refused.onPage p) 0).put (F.HDR.OWNER.lock_refused.onPage p) 0
    else s
  let o := F.HDR.OWNER.owner.get v
  if !pageReassignable p || o = s.owner p then s
  else if w = .field then (s.fault p causeWORLD n w true a).inc (F.HDR.OWNER.world_refused.onPage p)
  else if s.locked p then (s.fault p causeLOCKED_WRITE n w true a).inc (F.HDR.OWNER.lock_refused.onPage p)
  else if 2 ≤ o then s.fault p causeBAD_OWNER n w true a
  else s.put (F.HDR.OWNER.owner.onPage p) o

/-- The refusal of a LOCK command (R33). -/
def State.lockRefused (s : State) (ini : Ini) (w : World) (a : Nat) : State :=
  (s.fault (pageOf a) causeLOCK_CMD (iniCode ini) w true a).inc (F.HDR.OWNER.lock_refused.onPage (pageOf a))

/-- A write of LOCK (R32 to R34). -/
def State.writeLock (s : State) (ini : Ini) (w : World) (a : Nat) (v : Word) : State :=
  let p := pageOf a
  let key := F.HDR.LOCK.key.get v
  let cmd := F.HDR.LOCK.cmd.get v
  let st := s.get (F.HDR.LOCK.state.onPage p)
  if key = 0 then s.lockRefused ini w a
  else if cmd = 0x4C4B ∧ st = 0 then
    let s := ((s.put (F.HDR.LOCK.state.onPage p) 1).put (F.HDR.LOCK.locker.onPage p) (worldCode w)).put
      (F.HDR.LOCK.bad_keys.onPage p) 0
    { s with lockKeys := tabSet 0 p (BitVec.ofNat 32 key) s.lockKeys }
  else if cmd = 0x554C ∧ st = 1 ∧ (w = .glass ∨ s.get (F.HDR.LOCK.locker.onPage p) = worldCode w) then
    if tabGet 0 s.lockKeys p = BitVec.ofNat 32 key then
      let s := ((s.put (F.HDR.LOCK.state.onPage p) 0).put (F.HDR.LOCK.locker.onPage p) 0).put (F.HDR.LOCK.bad_keys.onPage p) 0
      { s with lockKeys := tabSet 0 p 0 s.lockKeys }
    else
      let s := (s.fault p causeLOCK_KEY (iniCode ini) w true a).inc (F.HDR.OWNER.lock_refused.onPage p)
      let s := s.inc (F.HDR.LOCK.bad_keys.onPage p)
      if 4 ≤ s.get (F.HDR.LOCK.bad_keys.onPage p) then s.put (F.HDR.LOCK.state.onPage p) 2 else s
  else if cmd = 0x484C ∧ w = .glass ∧ st ≤ 1 then s.put (F.HDR.LOCK.state.onPage p) 2
  else s.lockRefused ini w a

/-- A write of FAULT: valid clears FAULT and FAULT_ADDR (R42). -/
def State.writeFault (s : State) (a : Nat) (v : Word) : State :=
  if F.HDR.FAULT.valid.get v = 1 then (s.setReg (R.HDR.FAULT + pageBase (pageOf a)) 0).setReg (R.HDR.FAULT_ADDR + pageBase (pageOf a)) 0
  else s

/-- Clear a page monitor's statistics (R544). -/
def State.monClear (s : State) (p : Nat) : State :=
  let b := pageBase p
  let s := foldState (fun k s => s.setReg (R.HDR.MON_BIN + b + 4 * k) 0) (numsFrom 16 0) s
  (((s.setReg (R.HDR.MON_COUNT + b) 0).setReg (R.HDR.MON_SUM + b) 0).setReg (R.HDR.MON_MAX + b) 0).setReg (R.HDR.MON_MIN + b) 0xFFFFFFFF

/-- How many MON_SEL quantities each page defines, from 1 on (the chapters' MON_SEL tables). -/
def monQuantities (p : Nat) : Nat :=
  if p = pagePWR ∨ p = pageADC then 4
  else if p = pageFLC ∨ p = pageLDG ∨ p = pageSMPU ∨ p = pageCLO ∨ p = pageCRY ∨ p = pageTRL ∨ p = pageGCB then 3
  else if p = pageOPT ∨ p = pageRDLT then 0
  else if p = pageCPU0 ∨ p = pageCPU1 ∨ p = pageCOL ∨ p = pageINTC ∨ p = pageENT ∨ p = pageRDL ∨ p = pageETH0 ∨ p = pageETH1 ∨
    p = pageRLP ∨ p = pageHLK ∨ p = pageMGP then 2
  else 1

/-- A quantity that page `p` defines; any other is reserved and stops the monitor (R544). RLP has 0x40 and 0x41 as well (ch. 17). -/
def monDefined (p q : Nat) : Bool := decide ((0 < q ∧ q ≤ monQuantities p) ∨ (p = pageRLP ∧ (q = 0x40 ∨ q = 0x41)))

/-- Header registers with a behaviour of their own: SNAP_CFG clears held (R540), MON_SEL and MON_CTRL (R544); the rest store. -/
def State.writeHeader (s : State) (x : Wr) : State :=
  if x.off = R.HDR.SNAP_CFG then s.setReg x.a (F.HDR.SNAP_CFG.held.put 0 x.new)
  else if x.off = R.HDR.MON_SEL then
    let s := s.storeNew x
    if F.HDR.MON_SEL.quantity.get x.new = F.HDR.MON_SEL.quantity.get x.old then s
    else
      let s := s.monClear x.p
      if monDefined x.p (F.HDR.MON_SEL.quantity.get x.new) then s else s.put (F.HDR.MON_CTRL.run.onPage x.p) 0
  else if x.off = R.HDR.MON_CTRL then
    let s := s.storeNew x
    let q := s.get (F.HDR.MON_SEL.quantity.onPage x.p)
    let s := if monDefined x.p q then s else s.put (F.HDR.MON_CTRL.run.onPage x.p) 0
    if x.on (F.HDR.MON_CTRL.clear) then s.monClear x.p else s
  else s.storeNew x

/-- A header register's value as a read returns it; `none` where the block's own registers follow (R24). -/
def State.readHeader (s : State) (p off : Nat) : Option Word :=
  let b := pageBase p
  if off = R.HDR.ID then
    some (BitVec.ofNat 32 (2 ^ 16 * pageType p + 2 ^ 8 * b2n (decide (p = pageCPU1 ∨ p = pageETH1)) + 2))
  else if off = R.HDR.CAPS then some (BitVec.ofNat 32 (2 ^ 24 + (Config.capsLow p).toNat))
  else if off = R.HDR.OWNER then
    some ((s.reg (b + off)) ||| BitVec.ofNat 32 (4 * b2n (pageReassignable p) + 8 * b2n (s.locked p)))
  else if off = R.HDR.IRQ_PEND then some (s.reg (R.HDR.IRQ_RAW + b) &&& s.reg (R.HDR.IRQ_EN + b))
  else if off = R.HDR.STAT ∨ off = R.HDR.CTRL then none
  else if (findReg hdrRegs off).isSome then some (s.reg (b + off))
  else none

/-- The mirrors of STAT[31:30] (R24). -/
def State.statMirror (s : State) (p : Nat) : Word :=
  BitVec.ofNat 32 (2 ^ 31 * s.get (F.HDR.FAULT.valid.onPage p) + 2 ^ 30 * b2n (s.locked p))

end Sys2Proof.Machine
end

