-- ==== Sys2Proof/Machine/Interrupts.lean ====
section
/-!
DEFINITION. The interrupt controller (R220 to R225): arbitration, deferral, entry, severe and imprecise events as commands, and the
registers of INTC. Lines.lean has the sources and latches.
-/
namespace Sys2Proof.Machine
open Sys2Proof

/-- INTERRUPT_ENTRY (R209, R221 to R224): what R232 puts first at the boundary; a line that only waits for the Field is deferred. -/
def execInterruptEntry (c : CoreId) (s : State) : Out := .next ((s.deferLines c).boundary c fun s => s.eventTaken c)

/-- IMPRECISE_BUS_ERROR (R216): after a severe event, which R232 puts before it. -/
def execImpreciseBusError (c : CoreId) (s : State) : Out :=
  .next (s.boundary c fun s => (s.severeTaken c).orElse fun _ => (s.takeImprecise c).map State.settle)

/-- POSTED_STORE_ERROR (R216): the oldest failed posted store of a core sets TIMPR.pending or overflow in its world's bank. -/
def execPostedStoreError (c : CoreId) (s : State) : Out :=
  match (s.core c).posted with
  | [] => .next s
  | p :: ps => .next (s.modCore c fun k => { k.report p with posted := ps })

/-- SEVERE_EVENT (R217, R218). -/
def execSevereEvent (c : CoreId) (s : State) : Out := .next (s.boundary c fun s => s.severeTaken c)

/-- Lines with RO world bit (ch. 9, LINE.world). -/
def fixedWorld (n : Nat) : Bool := decide (n = 66 ∨ n = 68 ∨ n = 69 ∨ n = 70)

/-- Reserved lines (R220). -/
def reservedLine (n : Nat) : Bool := decide (n = 71 ∨ 80 ≤ n)

/-- A write to the INTC page's own registers (ch. 9). -/
def intcWrite (x : Wr) (s : State) : State :=
  if x.a = R.INTC.SW_SET then
    let old := s.get F.INTC.SW_SET.set
    let s := s.put F.INTC.SW_SET.set (old ||| x.bits F.INTC.SW_SET.set)
    if !old.testBit 7 && (s.get F.INTC.SW_SET.set).testBit 7 then s.trig 7 else s
  else if x.a = R.INTC.SW_CLR then
    s.put F.INTC.SW_SET.set (s.get F.INTC.SW_SET.set &&& ((2 ^ 8 - 1) ^^^ x.bits F.INTC.SW_CLR.clr))
  else if x.a = R.INTC.DEFER then
    if x.on F.INTC.DEFER.clr then s.put F.INTC.DEFER.count 0 else s
  else if R.INTC.LINE ≤ x.a then
    let n := x.a % 512 / 4
    if reservedLine n then s
    else
      let x := if fixedWorld n then x.keep (F.INTC.LINE.world.idx 4 n) else x
      let p := F.INTC.LINE.prio.get x.new
      if 14 ≤ p then (s.storeNew (x.keep F.INTC.LINE.prio)).blockCause x 0x10 else s.storeNew x
  else s.storeNew x

/-- CORE0_STAT and CORE1_STAT as read (R584). -/
def State.coreStat (s : State) (c : CoreId) : Word :=
  match s.bestLine c (s.worldOf c) with
  | some n => BitVec.ofNat 32 (n + 2 ^ 7 + 2 ^ 8 * s.linePrio n + 2 ^ 12 * (s.core c).mask)
  | none => BitVec.ofNat 32 (2 ^ 12 * (s.core c).mask)

/-- INTC registers that a read computes. -/
def intcRead (a : Nat) (s : State) : Word :=
  if R.INTC.PEND ≤ a ∧ a < R.INTC.PEND + 16 then
    let m := (a + 8) % 16 / 4
    BitVec.ofNat 32 ((numsFrom 32 0).foldl (fun v k => if s.linePendingAny (32 * m + k) then v + 2 ^ k else v) 0)
  else if a = R.INTC.CORE0_STAT then s.coreStat .core0
  else if a = R.INTC.CORE1_STAT then s.coreStat .core1
  else if R.INTC.LINE ≤ a then
    let n := a % 512 / 4
    s.reg a ||| BitVec.ofNat 32 (2 ^ 8 * b2n (s.linePendingAny n))
  else s.reg a

end Sys2Proof.Machine
end

