-- ==== Sys2Proof/Machine/LedgerCtl.lean ====
section
/-!
DEFINITION. The counter engine (R307 to R310), the completion of posted ledger stores (R301, R319), the log scan (R316) and the
LDG page.
-/
namespace Sys2Proof.Machine
open Sys2Proof

/-- A write of CNT_CMD with an op and a number (R310): refused, or started. -/
def State.cntCommand (s : State) (op n : Nat) : State :=
  if s.ldg.cmd.isSome then (s.put F.LDG.CNT_RES.code rcBUSY).inc F.LDG.CNT_REFUSE.busy
  else if !s.ldg.ready then (s.put F.LDG.CNT_RES.code rcSTATE).inc F.LDG.CNT_REFUSE.state
  else { s with ldg := { s.ldg with cmd := some (op, n) } }

/-- The command ends (R307 to R309). -/
def State.cntRun (s : State) (op n : Nat) (f : CellFate) : Nat × State :=
  if cntRights op n ≠ rcOK then (cntRights op n, s) else s.engine op n (s.getPair R.LDG.CNT_ARG (R.LDG.CNT_ARG + 4)) f

/-- CNT_DONE's effect on CNT_VAL, CNT_RES, CNT_REFUSE and cnt_done. -/
def State.cntDone (s : State) (f : CellFate) : State :=
  match s.ldg.cmd with
  | none => s
  | some (op, n) =>
    let s := { s with ldg := { s.ldg with cmd := none } }
    let (r, s) := s.cntRun op n f
    let s := (s.put F.LDG.CNT_RES.code r).irq pageLDG 0
    if r = rcOK then
      let c := s.counter n
      let s := s.put F.LDG.CNT_RES.seq c.2
      if op = cntRAISE then s
      else (s.setReg R.LDG.CNT_VAL (BitVec.ofNat 32 c.1)).setReg (R.LDG.CNT_VAL + 4) (BitVec.ofNat 32 (c.1 / 2 ^ 32))
    else if r = rcAUTH then s.inc F.LDG.CNT_REFUSE.auth
    else s.inc F.LDG.CNT_REFUSE.other

/-- CNT_DONE. -/
def execCntDone (bad : Bool) (passes : Fin 5) (verified : Bool) (s : State) : Out := .next (s.cntDone ⟨bad, ⟨passes, verified⟩⟩).settle

/-- LEDGER_WRITE_DONE: a posted store completes after its passes (R301): a private port's first, otherwise the oldest (R303). -/
def State.ledgerStoreDone (s : State) (q : Pulse) : State :=
  match s.ldg.posted.find? (fun p => decide (9 ≤ p.ini)) <|> s.ldg.posted.head? with
  | none => s
  | some p => ({ s with ldg := { s.ldg with posted := s.ldg.posted.erase p } }).storeEnds p q

def execLedgerWriteDone (passes : Fin 5) (verified : Bool) (s : State) : Out := .next (s.ledgerStoreDone ⟨passes, verified⟩).settle

/-- `a` is after `b` in 16-bit serial arithmetic. -/
def serialAfter (a b : Nat) : Bool := decide (0 < (a + 65536 - b) % 65536 ∧ (a + 65536 - b) % 65536 < 32768)

/-- The newest committed event log slot and its sequence (R316); a slot that `bad` names could not be read. -/
def State.newestSlot (s : State) (bad : Nat → Bool) : Option (Nat × Nat) :=
  (numsFrom 768 0).foldl (fun best i =>
    let a := 0x3001D000 + 16 * i
    if bad i then best
    else if s.loadN (a + 14) 2 = 0x4C47 then
      let q := s.loadN (a + 12) 2
      match best with
      | none => some (i, q)
      | some b => if serialAfter q b.2 then some (i, q) else best
    else best) none

/-- A scan by a private port of `n` records: the records whose hidden code fails are a free value (log 6); each is counted and reported
(R302). -/
def State.scanBad (s : State) (n : Nat) : List Nat × State :=
  let (d, s) := s.draw
  let bad := (numsFrom n 0).filter fun i => (Config.freeNat d).testBit i
  (bad, foldState (fun _ s => s.ledgerInteg) bad s)

/-- LOG_SCAN: the scan after a power-on or system reset ends (R316). With no committed slot it starts at slot 0, sequence 0. -/
def execLogScan (s : State) : Out :=
  if s.pdOn 8 && !s.ldg.ready then
    let (bad, s) := s.scanBad 768
    let (slot, seq) := match s.newestSlot bad.contains with
      | some (i, q) => ((i + 1) % 768, (q + 1) % 65536)
      | none => (0, 0)
    .next { s with ldg := { s.ldg with ready := true, logSlot := slot, logSeq := seq } }
  else .next s

/-- A write to the LDG page's own registers. -/
def ldgWrite (x : Wr) (s : State) : State :=
  if x.a = R.LDG.CNT_CMD then s.cntCommand (F.LDG.CNT_CMD.op.get x.v) (F.LDG.CNT_CMD.number.get x.v)
  else if x.a = R.LDG.CNTCLR then
    if x.on F.LDG.CNTCLR.clr then
      let s := (((s.setReg R.LDG.CNT_REFUSE 0).setReg R.LDG.RETRY 0).setReg R.LDG.INTEG 0).setReg R.LDG.REFUSE 0
      (s.put F.LDG.WEAR.warn_count 0).put F.LDG.STAT.wear_warn 0
    else s
  else s.storeNew x

/-- LDG registers that a read computes. -/
def ldgRead (a : Nat) (s : State) : Word :=
  if a = R.LDG.STAT then
    s.reg a ||| BitVec.ofNat 32 (b2n (s.ldg.cmd.isSome || !s.ldg.posted.isEmpty) + 4 * b2n (decide (240 ≤ s.sparesUsed)) +
      8 * b2n (decide (256 ≤ s.sparesUsed)) + 16 * b2n s.ldg.ready)
  else if a = R.LDG.CNT_RES then s.reg a ||| BitVec.ofNat 32 (2 ^ 8 * b2n s.ldg.cmd.isSome)
  else if a = R.LDG.SPARE then BitVec.ofNat 32 s.sparesUsed
  else if a = R.LDG.LOGPOS then BitVec.ofNat 32 (s.ldg.logSlot + 2 ^ 16 * s.ldg.logSeq)
  else s.reg a

end Sys2Proof.Machine
end

