-- ==== Sys2Proof/Machine/Entropy.lean ====
section
/-!
DEFINITION. The entropy block (R321 to R332): the CTR_DRBG of SP 800-90A with AES-256 (R325), health tests, seeds, the wake seed
reserve (R314, R327, R328), and the ENT page.
-/
namespace Sys2Proof.Machine
open Sys2Proof

/-- ENT.STAT.state codes. -/
def entOFF : Nat := 0
def entSTARTUP : Nat := 1
def entRUN : Nat := 2
def entTEST : Nat := 3
def entFAILED : Nat := 4

def State.entState (s : State) : Nat := s.get F.ENT.STAT.state

/-- Sources that are not excluded, counted. -/
def State.sourcesOk (s : State) : Nat := ((numsFrom 4 0).filter fun k => (s.get F.ENT.STAT.src_ok).testBit k).length

/-! ### The CTR_DRBG -/

/-- `n` blocks of the generator from V + 1 on. -/
def drbgBlocks (key v n : Nat) : List Byte :=
  ((numsFrom n 1).map fun k => aesEnc (bytesBE 32 key) (bytesBE 16 ((v + k) % 2 ^ 128))).flatten

/-- CTR_DRBG_Update with 48 bytes of provided data. -/
def Ent.update (e : Ent) (provided : Nat) : Ent :=
  let t := natBE (drbgBlocks e.key e.v 3) ^^^ provided
  { e with key := t / 2 ^ 128, v := t % 2 ^ 128 }

/-- Instantiation from a 384-bit seed. -/
def Ent.instantiate (e : Ent) (seed : Nat) : Ent := { { e with key := 0, v := 0 }.update seed with inst := true }

/-- A generate request of `n` bytes. -/
def Ent.generate (e : Ent) (n : Nat) : List Byte × Ent :=
  let m := (n + 15) / 16
  let out := (drbgBlocks e.key e.v m).take n
  (out, { e with v := (e.v + m) % 2 ^ 128 }.update 0)

/-- A noise reseed from the seed that waits (R326, R329). -/
def State.reseed (s : State) : State :=
  match s.ent.seed with
  | none => s
  | some seed =>
    if s.ent.inst then
      let s := { s with ent := { s.ent.update seed with seed := none, bg := false, chain := 0 } }
      ((s.put F.ENT.REQCNT.since 0).inc F.ENT.REQCNT.reseeds).irq pageENT 3
    else s

/-- The DRBG serves a request now: instantiated, and not waiting for the seed that the 1,025th request needs (R326). -/
def State.drbgServes (s : State) : Bool := s.ent.inst && (decide (s.get F.ENT.REQCNT.since ≠ 1024) || s.ent.seed.isSome)

/-- A request waits: in FAILED there is no output to wait for (R324, R326). -/
def State.drbgWaits (s : State) : Bool := decide (s.entState ≠ entFAILED) && !s.drbgServes

/-- A private-wire request of `n` bytes (R326): none while the DRBG cannot serve, or while it waits for a seed. -/
def State.drbg (s : State) (n : Nat) : Option (List Byte) × State :=
  if !s.drbgServes then (none, s)
  else
    let s := if s.get F.ENT.REQCNT.since = 1024 then s.reseed else s
    let (out, e) := s.ent.generate n
    (some out, ({ s with ent := e }).inc F.ENT.REQCNT.since)

/-- A request whose output nothing outside can see (masking, jitter, sampling): it counts and advances the generator. -/
def State.drbgTake (s : State) : State := (s.drbg 64).2

/-- The Cloche draws a word for its burst-offset generator (R357). -/
def State.cloReseed (s : State) : State :=
  match s.drbg 4 with
  | (some w, s) => { s with cloGen := natLE w }
  | (none, s) => s

/-- A place in R330's order. -/
def DrbgUser.rank : DrbgUser → Nat
  | .keyStore => 0 | .cipher => 1 | .cloche => 2 | .jitter c => 3 + coreNum c

/-- A private request waits, once for each consumer, in the order of R330. -/
def State.drbgWait (s : State) (u : DrbgUser) : State :=
  let l := s.ent.waiting
  if u ∈ l then s
  else { s with ent := { s.ent with
    waiting := (l.filter fun v => decide (v.rank < u.rank)) ++ u :: l.filter fun v => decide (u.rank < v.rank) } }

/-- The consumer waits no longer. -/
def State.drbgServed (s : State) (u : DrbgUser) : State :=
  { s with ent := { s.ent with waiting := s.ent.waiting.filter fun v => decide (v ≠ u) } }

/-! ### Noise -/

/-- The longest run of equal samples that ends the list's prefix: the run so far of `b`, and the longest. -/
def runLength : List Bool → Bool → Nat → Nat → Nat
  | [], _, n, m => max n m
  | x :: xs, b, n, m => if x = b then runLength xs b (n + 1) m else runLength xs x 1 (max n m)

/-- The repetition count test of SP 800-90B with cutoff 41 fails on consecutive samples (R321). -/
def rctFails (xs : List Bool) : Bool :=
  match xs with
  | [] => false
  | x :: xs => decide (41 ≤ runLength xs x 1 0)

/-- The adaptive proportion test of SP 800-90B with cutoff 795 fails on a window of 1,024 samples: the first sample's value counts itself
(R321). -/
def aptFails (xs : List Bool) : Bool :=
  match xs.take 1024 with
  | [] => false
  | x :: ys => decide (xs.length ≥ 1024 ∧ 795 ≤ 1 + (ys.filter (· == x)).length)

/-- The CBC-MAC over blocks of 16 bytes. -/
def cbcMac (key : List Byte) (blocks : List (List Byte)) : List Byte :=
  blocks.foldl (fun m b => aesEnc key (List.zipWith (· ^^^ ·) m b)) (List.replicate 16 0)

/-- The conditioner (R323): 2,048 raw bits give a block of 128 bits, and three blocks a seed of 384. `raw` holds the bits of the three
blocks, first bit most significant, as the sources that are not excluded supply them: 512 each where all four do, and their share of an
excluded one's (log 74). -/
def condition (raw : BitVec 6144) : Nat :=
  let bytes := bytesBE 768 raw.toNat
  let block (k : Nat) : List Byte := cbcMac (bytesBE 32 Config.conditionKey.toNat) (chunks 16 16 (bytes.drop (256 * k)))
  natBE (block 0 ++ block 1 ++ block 2)

/-! ### States -/

/-- Fewer than two sources, or instantiation impossible: the DRBG state is zeroised (R323, R324). -/
def State.entFail (s : State) : State :=
  let s := { s with ent := { s.ent with
    key := 0, v := 0, inst := false, seed := none, fifo := [], testing := false, bg := false, failed := true } }
  (s.put F.ENT.STAT.state entFAILED).irq pageENT 1

/-- A source fails a health test (R321): excluded, counted, logged; `rct` and `apt` tell which tests it failed. -/
def State.sourceFail (s : State) (k : Nat) (rct apt : Bool) : State :=
  let s := s.put (F.ENT.STAT.src_ok.bit k) 0
  let f : Fld := ⟨R.ENT.HEALTH, 8 * k + 7, 8 * k⟩
  let s := s.inc f
  (s.log 0x07 k (b2n rct + 2 * b2n apt + 2 ^ 8 * s.get f)).irq pageENT 0

/-- After an exclusion: FAILED while fewer than two sources remain (R323). -/
def State.checkSources (s : State) : State := if s.sourcesOk < 2 && !s.ent.failed then s.entFail else s

/-- HEALTH_TEST_FAIL: `recent` are the latest samples of a source that is in use, `window` its window of the adaptive test; a source that
fails either test is excluded (R321). -/
def execHealthTestFail (k : Fin 4) (recent window : List Bool) (s : State) : Out :=
  if s.pdOn 10 && !s.ent.testing && (s.get F.ENT.STAT.src_ok).testBit k && (rctFails recent || aptFails window) then
    .next ((s.sourceFail k (rctFails recent) (aptFails window)).checkSources).settle
  else .next s

/-- The test of 1,024 samples of each source ends (R322): `samples` holds them, source by source. Sources that pass are in use, one that was
excluded before among them (DESIGN CHOICE, log 74). -/
def State.testEnds (s : State) (samples : List (List Bool)) : State :=
  if s.ent.testing then
    let of (k : Nat) : List Bool := samples.getD k []
    let bad := (numsFrom 4 0).filter fun k => rctFails (of k) || aptFails (of k)
    let s := { s with ent := { s.ent with testing := false } }
    let s := s.put F.ENT.STAT.src_ok 0xF
    let s := foldState (fun k s => s.sourceFail k (rctFails (of k)) (aptFails (of k))) bad s
    let s := s.irq pageENT 2
    let s := if s.entState = entTEST then s.put F.ENT.STAT.state entRUN else s
    s.checkSources
  else s

/-- The conditioner has made a seed (R323): in STARTUP the DRBG instantiates from it (R327). -/
def State.seedMade (s : State) (raw : BitVec 6144) : State :=
  if s.pdOn 10 && !s.ent.testing && decide (2 ≤ s.sourcesOk) && s.ent.seed.isNone && decide (s.entState ≠ entFAILED) then
    if s.entState = entSTARTUP then
      let e := s.ent.instantiate (condition raw)
      let s := { s with ent := { e with bg := false, chain := 0, booted := true } }
      (s.put F.ENT.STAT.state entRUN).put F.ENT.REQCNT.since 0
    else { s with ent := { s.ent with seed := some (condition raw) } }
  else s

/-! ### The seed reserve -/

/-- R328, R314: 384 bits go to the copy that does not hold the higher save number, committed last (R311). A write that fails leaves the copy
uncommitted; what the cells make of the writes is a free value (log 6). -/
def State.writeReserve (s : State) : State :=
  let (copy, save) := s.reserveNext
  let (o, s) := s.drbg 48
  match o with
  | none => s
  | some d =>
    let (ps, s) := s.pulses 4
    (s.hwWrites (recordWrites (reserveAddr copy) (d ++ bytesLE 4 save ++ List.replicate 8 0) (bytesLE 4 (0x53520000 + save % 65536))) ps).1

/-- The committed copy that a wake uses (R314), where its words can be read: which copies fail their hidden codes is a free value (R302;
log 6). -/
def State.reserveFor (s : State) : Option Nat × State :=
  let (bad, s) := s.scanBad 2
  let a := if bad.contains 0 then none else s.reserveSave 0
  let b := if bad.contains 1 then none else s.reserveSave 1
  (match a, b with
    | some a, some b => if b < a then some 0 else some 1
    | some _, none => some 0
    | none, some _ => some 1
    | none, none => none, s)

/-- R327 at a power-up of PD9: from the reserve under a new DRBG_WAKE value, or STARTUP; FAILED stays (R324). The reserve's bytes and the
numbers XORed into them are taken most significant first (log 43). What the ledger's cells make of the increment is a free value (log 6). -/
def State.entPowerUp (s : State) : State :=
  let start := { s.put F.ENT.STAT.state entSTARTUP with ent := Ent.off s.ent.chain s.ent.booted s.ent.failed }
  if s.ent.failed then start.put F.ENT.STAT.state entFAILED
  else if !s.ent.booted || !s.pdOn 8 then start
  else
    match start.reserveFor with
    | (none, t) => t
    | (some copy, t) =>
      let (d, t) := t.draw
      let (ps, t) := t.pulses 1
      match t.engine cntINC cntDRBG_WAKE 0 ⟨decide (Config.freeNat d % 2 = 1), ps.headD .clean⟩ with
      | (r, t) =>
        if r ≠ rcOK then t
        else
          let wake := (t.counter cntDRBG_WAKE).1
          let mix := wake * 2 ^ 320 + (Config.uid.toNat % 2 ^ 32) * 2 ^ 288 + (Config.uid.toNat / 2 ^ 32) * 2 ^ 256
          let seed := natBE (t.bytes (reserveAddr copy) 48) ^^^ mix
          { t.put F.ENT.STAT.state entRUN with ent := { t.ent.instantiate seed with bg := true } }

/-! ### The software port -/

/-- How a read ends that may stall (R332). -/
inductive ReadRes where
  | val (w : Word) | err (sub : Nat) | stall
  deriving DecidableEq, Repr

/-- Refill the FIFO when it is empty: one request, which private requests and a test hold up (R330, R331). -/
def State.fillFifo (s : State) : State :=
  if !s.ent.fifo.isEmpty || decide (s.entState ≠ entRUN) || !s.ent.waiting.isEmpty then s
  else
    match s.drbg 64 with
    | (none, s) => s
    | (some d, s) => { s with ent := { s.ent with fifo := (chunks 4 16 d).map fun b => BitVec.ofNat 32 (natLE b) } }

/-- A read that returns no word (R332). -/
def State.noData (s : State) (ini : Ini) (w : World) : State :=
  (s.fault pageENT 0x10 (iniCode ini) w false R.ENT.DATA).inc F.ENT.WAIT.no_data

/-- Ticks of CK27 in t_ENTWAIT (R332). -/
def entWaitTicks : Nat := 2850

/-- A read of ENT.DATA (R331, R332): each word is delivered once, and the FIFO is filled again when its last word leaves. `off` is the
offset of a core's load. -/
def State.entData (s : State) (ini : Ini) (w : World) (off : Option Nat) : State × ReadRes :=
  let s := s.fillFifo
  let rest := s.ent.stalled.filter fun x => decide (x.ini ≠ ini)
  match s.ent.fifo with
  | d :: t => (State.fillFifo { s with ent := { s.ent with fifo := t, stalled := rest } }, .val d)
  | [] =>
    if s.on F.ENT.CTRL.mode then (State.noData { s with ent := { s.ent with stalled := rest } } ini w, .err 2)
    else if s.ent.stalled.any (fun x => decide (x.ini = ini)) then (s, .stall)
    else ({ s.inc F.ENT.WAIT.stalls with ent := { s.ent with stalled := s.ent.stalled ++ [⟨ini, w, off, entWaitTicks⟩] } }, .stall)

/-- A stalled read ends with NO_DATA (R332): a core's load with a bus error, a probe's read with the failure that its next frame reports. -/
def State.stallEnds (s : State) (x : Stalled) : State :=
  let s := { s with ent := { s.ent with stalled := s.ent.stalled.erase x } }
  let s := s.noData x.ini x.world
  match x.off, iniCore x.ini with
  | some o, some c =>
    if (s.core c).stalled.isSome then ((s.modCore c fun k => { k with stalled := none }).raise c (fltBus 2 o R.ENT.DATA)).stallOver c else s
  | _, _ => if x.ini = .probe then { s with prb := { s.prb with run := none, bad := some 2 } } else s.answer [] 2

/-- A tick of CK27 counts t_ENTWAIT; reads whose time is up end (R332). -/
def State.entTick (s : State) : State :=
  let s := { s with ent := { s.ent with stalled := s.ent.stalled.map fun x => { x with left := x.left - 1 } } }
  foldState (fun x s => s.stallEnds x) (s.ent.stalled.filter fun x => decide (x.left = 0)) s

/-- ENT_WAIT_TIMEOUT: the oldest stalled read ends where the last tick of t_ENTWAIT is due (R332). -/
def execEntWaitTimeout (s : State) : Out :=
  match s.ent.stalled with
  | [] => .next s
  | x :: _ => if x.left ≤ 1 then .next (s.stallEnds x).settle else .next s

/-- Start the source test (R322, R324): restart also drops the DRBG and waits for noise. -/
def State.entRestart (s : State) : State :=
  let s := { s.put F.ENT.STAT.state entSTARTUP with
    ent := { Ent.off s.ent.chain s.ent.booted false with stalled := s.ent.stalled, waiting := s.ent.waiting, testing := true } }
  s.put F.ENT.STAT.src_ok 0

/-- test_now: an on-demand test of every source (R322); in RUN the state is TEST while it lasts. -/
def State.entTestNow (s : State) : State :=
  let s := if s.entState = entRUN then s.put F.ENT.STAT.state entTEST else s
  { s with ent := { s.ent with testing := true } }

/-- A write to the ENT page's own registers. -/
def entWrite (x : Wr) (s : State) : State :=
  if x.a = R.ENT.CTRL then
    let s := s.storeNew x
    if x.on F.ENT.CTRL.restart then s.entRestart
    else if x.on F.ENT.CTRL.test_now then s.entTestNow
    else s
  else s.storeNew x

/-- ENT registers that a read computes. -/
def entRead (a : Nat) (s : State) : Word :=
  if a = R.ENT.STAT then
    s.reg a ||| BitVec.ofNat 32 (2 ^ 8 * s.ent.fifo.length + 2 ^ 13 * b2n s.ent.seed.isSome)
  else if a = R.ENT.CHAIN then BitVec.ofNat 32 s.ent.chain
  else s.reg a

end Sys2Proof.Machine
end

