-- ==== Sys2Proof/Machine/TrellisCore.lean ====
section
/-!
DEFINITION. The Trellis rings (R374 to R400): ring records and their writes, indices, commands, descriptors over channel 2, halting
faults, completion and interrupt groups, and the record of kept rings. Serving a client's descriptor is Trellis.lean's.
-/
namespace Sys2Proof.Machine
open Sys2Proof

/-! ### Ring records -/

/-- A field of ring `n`'s record. -/
def Fld.ring (f : Fld) (n : Nat) : Fld := f.idx 32 n

def ringDISABLED : Nat := 0
def ringRUN : Nat := 1
def ringPAUSING : Nat := 2
def ringPAUSED : Nat := 3
def ringHALTED : Nat := 4

def State.ringState (s : State) (n : Nat) : Nat := s.get (F.RING.CTL.state.ring n)
def State.ringEntries (s : State) (n : Nat) : Nat := 2 ^ s.get (F.RING.CFG.lsize.ring n)
def State.ringClass (s : State) (n : Nat) : Nat := s.get (F.RING.CFG.class.ring n)
def State.ringClient (s : State) (n : Nat) : Nat := s.get (F.RING.CFG.client.ring n)
def State.ringFixed (s : State) (n : Nat) : Bool := s.on (F.RING.CFG.fixed.ring n)
def State.ringWorld (s : State) (n : Nat) : World := if s.on (F.RING.CFG.world.ring n) then .glass else .field
def State.pidx (s : State) (n : Nat) : Nat := s.get (F.RING.IDX.pidx.ring n)
def State.cidx (s : State) (n : Nat) : Nat := s.get (F.RING.IDX.cidx.ring n)
def State.ringSbase (s : State) (n : Nat) : Nat := s.get (F.RING.SBASE.base.ring n)
def State.ringSlen (s : State) (n : Nat) : Nat := s.get (F.RING.SLEN.len.ring n)
/-- The stride of a fixed ring (R388). -/
def State.ringStride (s : State) (n : Nat) : Nat := s.ringSlen n >>> s.get (F.RING.CFG.lsize.ring n)

/-- Clients (R374). -/
def clNONE : Nat := 0
def clETH0_RX : Nat := 1
def clETH0_TX : Nat := 2
def clETH1_RX : Nat := 3
def clETH1_TX : Nat := 4
def clRADIO_RX : Nat := 5
def clRADIO_TX : Nat := 6
def clMIRROR : Nat := 7
def clCIPHER : Nat := 8
def clCART : Nat := 9
def clHOST : Nat := 10

def clientRx (c : Nat) : Bool := decide (c = clETH0_RX ∨ c = clETH1_RX ∨ c = clRADIO_RX ∨ c = clMIRROR)
def clientTx (c : Nat) : Bool := decide (c = clETH0_TX ∨ c = clETH1_TX ∨ c = clRADIO_TX)

/-- The initiator that moves a client's buffer data (R375). -/
def clientIni (c : Nat) : Ini :=
  if c = clCIPHER then .cipher else if c = clCART then .cart else if c = clHOST then .host else .port

/-- Modulo 65,536 difference of indices. -/
def idxSub (a b : Nat) : Nat := (a + 65536 - b) % 65536

/-- Posted descriptors of a ring (R386); of a fixed ring, buffers free to fill (R388). -/
def State.ringPosted (s : State) (n : Nat) : Nat :=
  if s.ringFixed n then s.ringEntries n - idxSub (s.cidx n) (s.pidx n) else idxSub (s.pidx n) (s.cidx n)

/-- Frames that clients hold for a ring. -/
def State.ringHeld (s : State) (n : Nat) : Nat := (s.trl.rx.filter fun f => decide (f.ring = n)).length

/-! ### Descriptors -/

/-- The fabric's part of a descriptor access: the halt cause where its beats fail, or SRAM under a line that the descriptor cache does not
hold (R253, R267, R268, R396). -/
def State.descBus (s : State) (a : Nat) (g : Integ) : State × Nat :=
  let (b, s) := s.beatFate g
  if s.trlLines.any fun l => decide (l.1 = lineOf a) then (s, 0)
  else if b = .reqBeat ∨ b = .respBeat then (s.integrity F.SMPU.INTEG.beat a, 2)
  else if s.sramFails .trellis a b then (s.integrity F.SMPU.INTEG.sram a, 2)
  else (s, 0)

/-- A descriptor access by the Trellis through channel 2: the halt cause where it fails (R396). -/
def State.descFault (s : State) (n : Nat) (wr : Bool) (a : Nat) (g : Integ) : State × Nat :=
  if isDevice a then (s, 1)
  else if !hasTags a then (s, 2)
  else
    let (s, pass) := s.dmaAllowed .trellis (s.ringWorld n) (if wr then .write else .read) a
    if !pass then (s, 2)
    else if !s.domainReady (addrDomain a) then (s.offAccess .trellis (s.ringWorld n) wr a, 2)
    else s.descBus a g

/-- A read of the descriptor at `a` would halt ring `n` for where it lies (R396). -/
def State.descRefused (s : State) (n a : Nat) : Bool :=
  isDevice a || !hasTags a || (s.mpuJudge 2 (s.ringWorld n) .read a).isSome || !s.domainReady (addrDomain a)

/-- The descriptor cache takes a line; of its 64 the oldest makes room, and goes to the eviction buffer if it is Modified (R265; log 20). -/
def State.trlFill (s : State) (a : Nat) (st : Mesi) : State :=
  let rest := s.trlLines.filter fun (l : Nat × Mesi) => decide (l.1 ≠ lineOf a)
  let out := rest.take (rest.length + 1 - 64)
  { s with
    trlLines := rest.drop (rest.length + 1 - 64) ++ [(lineOf a, st)]
    fab := { s.fab with trlEvict := match out.find? fun l => decide (l.2 = .modified) with
      | some l => some l.1
      | none => s.fab.trlEvict } }

/-- The Trellis reads the line of a descriptor through its cache of 64 lines (R262; ch. 11). -/
def State.trlRead (s : State) (a : Nat) : State :=
  if s.trlLines.any (fun l => decide (l.1 = lineOf a)) then s.inc F.TRL.DCACHE.hits
  else
    let held := s.core0.dcache.any (fun l => decide (l.addr = lineOf a)) || s.core1.dcache.any (fun l => decide (l.addr = lineOf a))
    let s := ((s.snoop .trellis a).modCore .core0 (·.shareLine a)).modCore .core1 (·.shareLine a)
    (s.inc F.TRL.DCACHE.misses).trlFill a (if held then .shared else .exclusive)

/-- The Trellis writes descriptor bytes: it owns the line, and the granule's tag clears (R161, R262). -/
def State.trlWrite (s : State) (a : Nat) (bs : List Byte) : State :=
  let s := if s.trlLines.contains (lineOf a, .modified) then s
    else ((s.snoop .trellis a).modCore .core0 (·.dropLine a)).modCore .core1 (·.dropLine a)
  (((s.trlFill a .modified).setBytes a bs).touchSram a).breakResv .trellis a

/-- The address of entry `i`'s descriptor. -/
def State.descAddr (s : State) (n i : Nat) : Nat :=
  s.get (F.RING.DBASE.base.ring n) / (16 * s.ringEntries n) * (16 * s.ringEntries n) + 16 * (i % s.ringEntries n)

/-- Signal group `g` when its count is reached or a member halts (R398). -/
def State.groupActive (s : State) (g : Nat) : State := s.put (F.RING.GSTAT.active.idx 8 g) 1

/-- The first pending completion of a group starts its holdoff (R398). -/
def State.holdStart (s : State) (g : Nat) : State :=
  { s with trl := { s.trl with holds := (s.trl.holds.filter fun e => decide (e.1 ≠ g)) ++ [(g, 0)] } }

/-- A completion counts toward its ring's group by CFG.irq (R376, R397, R398). -/
def State.groupCount (s : State) (n : Nat) (irqFlag : Bool) : State :=
  let m := s.get (F.RING.CFG.irq.ring n)
  if m = 1 ∨ (m = 2 ∧ irqFlag) then
    let g := s.get (F.RING.CFG.group.ring n)
    let s := if s.on (F.RING.GSTAT.pending.idx 8 g) then s else s.holdStart g
    let s := s.inc (F.RING.GSTAT.pending.idx 8 g)
    if s.get (F.RING.GCFG.count.idx 8 g) ≤ s.get (F.RING.GSTAT.pending.idx 8 g) then s.groupActive g else s
  else s

/-- A ring halts (R396). -/
def State.ringHalt (s : State) (n cause a : Nat) : State :=
  let s := ((s.put (F.RING.CTL.state.ring n) ringHALTED).put (F.RING.CTL.halt_cause.ring n) cause).irq pageTRL 0
  let s := if s.on F.TRL.HALT_RING.valid then s
    else ((s.put F.TRL.HALT_RING.ring n).put F.TRL.HALT_RING.valid 1).setReg R.TRL.HALT_ADDR (BitVec.ofNat 32 a)
  let g := s.get (F.RING.CFG.group.ring n)
  (s.put (F.RING.GSTAT.halt.idx 8 g) 1).groupActive g

/-- Read entry `i` of a ring: its descriptor, or the ring halts (R388, R396). In a fixed ring none is fetched. `g` tells what may befall the
reading and the writing back of it. -/
def State.fetchDesc (s : State) (n i : Nat) (g : Integ) : State × Option Desc :=
  let a := s.descAddr n i
  if s.ringFixed n then
    (s, some ⟨a, (s.ringSbase n + s.ringStride n * (i % s.ringEntries n)) % 2 ^ 32, min (s.ringStride n) 65535, 0, 0, 0, g⟩)
  else
    let (s, h) := s.descFault n false a g
    if h ≠ 0 then (s.ringHalt n h a, none)
    else
      let s := s.trlRead a
      (s, some ⟨a, s.loadN a 4, s.loadN (a + 4) 4, s.loadN (a + 8) 4, s.loadN (a + 12) 4, 0, g⟩)

/-- len of a descriptor. -/
def Desc.len (d : Desc) : Nat := d.w1 % 65536
def Desc.sop (d : Desc) : Bool := d.w2.testBit 16
def Desc.eop (d : Desc) : Bool := d.w2.testBit 17
def Desc.dirIn (d : Desc) : Bool := d.w2.testBit 19
def Desc.cbyte (d : Desc) : Nat := d.w2 / 2 ^ 24 % 256

/-- R381: the code of a descriptor before any data moves. -/
def State.judgeDesc (s : State) (n : Nat) (d : Desc) : Nat :=
  if d.len = 0 then rcRANGE
  else if d.w0 < s.ringSbase n ∨ s.ringSbase n + s.ringSlen n < d.w0 + d.len then rcBOUNDS
  else if s.ringClient n = clCIPHER ∧ (d.len ≠ 64 ∨ d.w0 % 16 ≠ 0) then rcRANGE
  else rcOK

/-- The wait of entry `i` of ring `n`. -/
def State.waitOf (s : State) (n i : Nat) : Wait :=
  (s.trl.waits.find? fun w => decide (w.ring = n ∧ w.idx = i)).getD ⟨n, i, 0, false⟩

/-- Entry `i` of ring `n` waits no more, or waits as `w` says. -/
def State.setWait (s : State) (n i : Nat) (w : Option Wait) : State :=
  { s with trl := { s.trl with waits := (s.trl.waits.filter fun v => !decide (v.ring = n ∧ v.idx = i)) ++ w.toList } }

/-- Mark entry `i` of ring `n` deferred (R384, R394). -/
def State.markDeferred (s : State) (n i : Nat) : State := s.setWait n i (some { s.waitOf n i with deferred := true })

/-- The ring's head descriptor is marked deferred (R394). -/
def State.isDeferred (s : State) (n : Nat) : Bool := (s.waitOf n (s.cidx n)).deferred

/-- Nothing of ring `n` waits or is shown to the host link any more. -/
def State.dropWaits (s : State) (n : Nat) : State :=
  { s with trl := { s.trl with
    waits := s.trl.waits.filter fun w => decide (w.ring ≠ n)
    shown := s.trl.shown.filter fun e => decide (e.1 ≠ n) } }

/-- Write a completed descriptor back, then advance cidx and count the completion (R379, R386, R396, R398). `flags` are bits 8 and 9
of word 2. -/
def State.completeDesc (s : State) (n : Nat) (d : Desc) (code ret flags : Nat) (w3 : Nat) (cbyte : Nat) : State :=
  let (s, h) := s.descFault n true d.addr d.back
  if h ≠ 0 then s.ringHalt n h d.addr
  else
    let w1 := d.len + 2 ^ 16 * (ret % 65536)
    let w2 := code + 2 ^ 8 * flags + 2 ^ 10 * b2n (s.isDeferred n) + 2 ^ 16 * (d.w2 / 2 ^ 16 % 16) + 2 ^ 24 * cbyte
    let body := bytesLE 4 w1 ++ bytesLE 4 w2 ++ bytesLE 4 w3
    let s := if s.ringFixed n then s.trlWrite d.addr (bytesLE 4 d.w0 ++ body) else s.trlWrite (d.addr + 4) body
    let s := s.setWait n (s.cidx n) none
    let s := { s with trl := { s.trl with shown := s.trl.shown.filter fun e => decide (e.1 ≠ n) } }
    let s := s.put (F.RING.IDX.cidx.ring n) ((s.cidx n + 1) % 65536)
    let s := if code = rcBOUNDS then s.inc (F.RING.REFUSE.bounds.ring n) else if code = rcRANGE then s.inc (F.RING.REFUSE.range.ring n) else s
    let s := s.groupCount n (d.w2.testBit 18)
    let lo := s.get F.TRC.RING_SEL.lo
    let hi := s.get F.TRC.RING_SEL.hi
    if lo ≤ n ∧ n ≤ hi then s.trace 0x20 0 (s.ringWorld n) n w2 else s

/-- Entry `i` of ring `n`, eligible, sees a slot given to a higher effective class: it is deferred, and counted once (R394). -/
def State.deferEntry (n i : Nat) (s : State) : State :=
  if (s.waitOf n i).deferred then s
  else
    let s := s.inc (F.RING.DEFER.class.ring n)
    let c := s.ringClass n
    (s.inc ⟨R.TRL.DEFCNT, 8 * c + 7, 8 * c⟩).markDeferred n i

/-! ### Offering frames to receive rings (R395) -/

/-- A receive ring takes a frame: RUN, with a buffer that no frame waits for. -/
def State.ringTakes (s : State) (n : Nat) : Bool :=
  clientRx (s.ringClient n) && decide (s.ringState n = ringRUN) && decide (s.ringHeld n < s.ringPosted n)

/-- Count a frame refused by a ring (R395). -/
def State.refuseFull (s : State) (n : Nat) : State := (s.inc (F.RING.REFUSE.full.ring n)).irq pageTRL 1

/-- Offer a frame to ring `n`: held for service, or refused (R395). -/
def State.offer (s : State) (f : RxFrame) : State × Bool :=
  if s.ringTakes f.ring then ({ s with trl := { s.trl with rx := s.trl.rx ++ [f] } }, true) else (s.refuseFull f.ring, false)

/-! ### Indices and commands -/

/-- A write of IDX.pidx (R387, R388, R392). -/
def State.writePidx (s : State) (x : Wr) (n p : Nat) : State :=
  let span := if s.ringFixed n then idxSub (s.cidx n) p else idxSub p (s.cidx n)
  if s.ringState n = ringHALTED then (s.put (F.RING.CTL.result.ring n) rcSTATE).inc (F.RING.REFUSE.state.ring n)
  else if s.ringEntries n < span then
    ((s.put (F.RING.CTL.result.ring n) rcBOUNDS).blockCause x 0x12).inc (F.RING.REFUSE.bounds.ring n)
  else s.put (F.RING.IDX.pidx.ring n) p

/-- R390: ENABLE may run. -/
def State.enableOk (s : State) (n : Nat) : Bool :=
  decide (s.ringClient n ≠ clNONE) && decide (s.ringSbase n + s.ringSlen n ≤ 2 ^ 32) &&
    (!s.ringFixed n || (clientRx (s.ringClient n) && decide (64 ≤ s.ringStride n) && decide (s.ringStride n % 16 = 0)))

/-- The result of a ring command in the ring's state (R389). -/
def State.ringVerdict (s : State) (n cmd : Nat) : Nat :=
  let st := s.ringState n
  if cmd = 5 then rcOK
  else if 6 ≤ cmd then rcRANGE
  else if st = ringPAUSING then rcBUSY
  else if cmd = 1 then (if st = ringDISABLED then (if s.enableOk n then rcOK else rcRANGE) else rcSTATE)
  else if cmd = 2 then (if st = ringRUN then rcOK else rcSTATE)
  else if cmd = 3 then (if st = ringPAUSED then rcOK else rcSTATE)
  else (if st = ringRUN then rcSTATE else rcOK)

/-- What an accepted ring command does (R389). -/
def State.ringDo (s : State) (n cmd : Nat) : State :=
  if cmd = 5 then (s.setReg (R.RING.DEFER + 32 * n) 0).setReg (R.RING.REFUSE + 32 * n) 0
  else if cmd = 1 ∨ cmd = 3 then s.put (F.RING.CTL.state.ring n) ringRUN
  else if cmd = 2 then s.put (F.RING.CTL.state.ring n) ringPAUSING
  else if s.ringState n = ringDISABLED then s
  else
    let s := (s.setReg (R.RING.IDX + 32 * n) 0).put (F.RING.CTL.state.ring n) ringDISABLED
    let s := s.put (F.RING.CTL.halt_cause.ring n) 0
    { s with trl := { s.trl with rx := s.trl.rx.filter fun f => decide (f.ring ≠ n) } }.dropWaits n

/-- A command written to CTL (R389): 0 writes nothing. -/
def State.ringCommand (s : State) (n cmd : Nat) : State :=
  if cmd = 0 then s
  else
    let r := s.ringVerdict n cmd
    let s := if r = rcOK then s.ringDo n cmd else s
    let s := if r = rcSTATE then s.inc (F.RING.REFUSE.state.ring n) else s
    s.put (F.RING.CTL.result.ring n) r

/-- A PAUSING ring with no work in progress becomes PAUSED (R391). -/
def State.ringPaused (s : State) (n : Nat) : State :=
  let busy := (match s.trl.cur with | some c => decide (c.1 = n) | none => false) ||
    (match s.cry.run with | some j => decide (j.ring = n) | none => false) || s.cry.suspended.any (fun j => decide (j.ring = n)) ||
    (match s.gcb.job with | some j => decide (j.ring = n) | none => false)
  if s.ringState n = ringPAUSING ∧ busy = false then s.put (F.RING.CTL.state.ring n) ringPAUSED else s

/-- RING_PAUSED. -/
def execRingPaused (n : Fin 96) (s : State) : Out := .next (s.ringPaused n)

/-- Ticks of CK27 since the first pending completion of group `g`. -/
def State.holdTicks (s : State) (g : Nat) : Nat :=
  match s.trl.holds.find? fun e => decide (e.1 = g) with
  | some e => e.2
  | none => 0

/-- The holdoff of group `g` has passed, give or take `slack` ticks of CK27 (R398). -/
def State.holdOver (s : State) (slack g : Nat) : Bool :=
  s.on (F.RING.GCFG.holdoff_us.idx 8 g) && s.on (F.RING.GSTAT.pending.idx 8 g) &&
    decide (s.get (F.RING.GCFG.holdoff_us.idx 8 g) ≤ s.holdTicks g + slack)

/-- A tick of CK27 passes for the groups with pending completions (R398). -/
def State.holdTick (s : State) : State :=
  let s := { s with trl := { s.trl with holds := s.trl.holds.map fun e => (e.1, e.2 + 1) } }
  foldState (fun g s => if s.holdOver 0 g then s.groupActive g else s) (s.trl.holds.map (·.1)) s

/-- GROUP_HOLDOFF_EXPIRE (R398): within the tick in which the holdoff passes. -/
def execGroupHoldoffExpire (g : Fin 32) (s : State) : Out :=
  if s.pdOn 11 && s.holdOver 1 g then .next (s.groupActive g).settle else .next s

/-- A write of a ring record's configuration registers (R376, R377). -/
def State.ringConfig (s : State) (x : Wr) (n r : Nat) : State :=
  if s.ringState n ≠ ringDISABLED then (s.blockCause x 0x10).inc (F.RING.REFUSE.state.ring n)
  else if r ≠ 0 then s.storeNew x
  else
    let f (g : Fld) := g.ring n
    let badL := decide ((f F.RING.CFG.lsize).get x.new < 3 ∨ 12 < (f F.RING.CFG.lsize).get x.new)
    let cipher := decide (32 ≤ n ∧ n < 48)
    let cl := (f F.RING.CFG.client).get x.new
    let badC := !cipher && decide (cl = 8 ∨ 11 ≤ cl)
    let badI := decide ((f F.RING.CFG.irq).get x.new = 3)
    let x := if badL then x.keep (f F.RING.CFG.lsize) else x
    let x := if cipher || badC then x.keep (f F.RING.CFG.client) else x
    let x := if badI then x.keep (f F.RING.CFG.irq) else x
    let x := if 24 ≤ n ∧ n < 28 then x else x.keep (f F.RING.CFG.keep)
    let s := s.storeNew x
    if badL || badC || badI then s.blockCause x 0x11 else s

/-- A write to the RING page's own registers. -/
def ringWrite (x : Wr) (s : State) : State :=
  let off := x.off
  if off < 0xD00 then
    let n := (off - 0x100) / 32
    let r := (off - 0x100) % 32
    if x.w = .field ∧ s.on (F.RING.CFG.world.ring n) then s
    else if r < 16 then s.ringConfig x n r
    else if r = 16 then s.writePidx x n (x.v.toNat % 65536)
    else if r = 20 then s.ringCommand n (x.act.toNat % 8)
    else s
  else if off < 0xE00 then
    let g := (off - 0xD00) / 8
    if (off - 0xD00) % 8 = 0 then s.storeNew (if F.RING.GCFG.count.get x.new = 0 then x.with F.RING.GCFG.count 1 else x)
    else if x.on F.RING.GSTAT.active then
      { (s.setReg (R.RING.GSTAT + 8 * g) 0) with trl := { s.trl with holds := s.trl.holds.filter fun e => decide (e.1 ≠ g) } }
    else s
  else s.storeNew x

/-- RING registers that a read computes: DBASE reads its bits below 16 × entries as 0 (R376). -/
def ringRead (a : Nat) (s : State) : Word :=
  let off := a % 0x1000
  if off < 0xD00 ∧ (off - 0x100) % 32 = 4 then
    let n := (off - 0x100) / 32
    BitVec.ofNat 32 (s.get (F.RING.DBASE.base.ring n) / (16 * s.ringEntries n) * (16 * s.ringEntries n))
  else s.reg a

/-- A write to the TRL page's own registers. -/
def trlWrite (x : Wr) (s : State) : State :=
  if x.a = R.TRL.CNTCLR then
    if x.on F.TRL.CNTCLR.clr then
      (((s.setReg R.TRL.DEFCNT 0).setReg R.TRL.DCACHE 0).setReg R.TRL.HALT_RING 0).setReg R.TRL.HALT_ADDR 0
    else s
  else s.storeNew x

/-- The word of rings 32m to 32m + 31 that satisfy `p`. -/
def ringBits (m : Nat) (p : Nat → Bool) : Word :=
  BitVec.ofNat 32 ((numsFrom 32 0).foldl (fun v k => if p (32 * m + k) then v + 2 ^ k else v) 0)

/-- TRL registers that a read computes. -/
def trlPageRead (a : Nat) (s : State) : Word :=
  if R.TRL.HALTED ≤ a ∧ a < R.TRL.HALTED + 12 then ringBits ((a + 12) % 16 / 4) fun n => decide (s.ringState n = ringHALTED)
  else if R.TRL.ACTIVE ≤ a ∧ a < R.TRL.ACTIVE + 12 then
    ringBits (a % 16 / 4) fun n => decide (s.ringState n = ringRUN ∨ s.ringState n = ringPAUSING)
  else s.reg a

/-! ### Power-down and power-up of PD11 (R399) -/

/-- Rings carried across: in RUN with keep 1. -/
def State.keptRings (s : State) : List Nat :=
  (numsFrom 96 0).filter fun n => decide (s.ringState n = ringRUN) && s.on (F.RING.CFG.keep.ring n)

/-- A ring in RUN or PAUSING keeps PD11 on unless it is kept (R92). -/
def State.ringsBusy (s : State) : Bool :=
  (numsFrom 96 0).any fun n =>
    decide (s.ringState n = ringPAUSING) || (decide (s.ringState n = ringRUN) && !s.on (F.RING.CFG.keep.ring n))

/-- The registers stored for a kept ring and its group. -/
def State.keptRegs (s : State) (n : Nat) : List (Nat × Word) :=
  let g := s.get (F.RING.CFG.group.ring n)
  ([R.RING.CFG + 32 * n, R.RING.DBASE + 32 * n, R.RING.SBASE + 32 * n, R.RING.SLEN + 32 * n, R.RING.GCFG + 8 * g]).map
    fun a => (a, s.reg a)

/-- Store the kept rings in the Sentry domain before PD11 goes down. -/
def State.storeRings (s : State) : State :=
  { s with trl := { s.trl with kept := if s.pdOn 1 then (s.keptRings.map s.keptRegs).flatten else [] } }

/-- Return the kept rings in RUN at the power-up of PD11; the record is used up. -/
def State.restoreRings (s : State) : State :=
  let s := foldState (fun e s =>
    let s := s.setReg e.1 e.2
    if e.1 < R.RING.GCFG ∧ e.1 % 32 = 0 then s.put (F.RING.CTL.state.ring (e.1 % 0x1000 / 32 - 8)) ringRUN else s)
    (s.trl.kept.filter fun e => decide (pageBase pageRING ≤ e.1 ∧ e.1 < pageBase pageRING + 0x1000)) s
  { s with trl := { s.trl with kept := [] } }

end Sys2Proof.Machine
end

