-- ==== Sys2Proof/Machine/Keys.lean ====
section
/-!
DEFINITION. The key store (R341 to R345) with the KEY page, and the coupon pool (R346 to R350).
-/
namespace Sys2Proof.Machine
open Sys2Proof

/-! ### Slots -/

/-- Slot types (KEY.ATTR). -/
def keyAES128 : Nat := 0
def keyAES192 : Nat := 1
def keyAES256 : Nat := 2
def keyTDEA : Nat := 3
def keyHMAC : Nat := 4
def keyP256 : Nat := 5
def keyEd25519 : Nat := 6
def keyX25519 : Nat := 7

/-- Usage bits (KEY.ATTR.usage). -/
def useENCRYPT : Nat := 0
def useDECRYPT : Nat := 1
def useMAC : Nat := 2
def useSIGN : Nat := 3
def useAGREE : Nat := 4
def useDERIVE : Nat := 5
def useWRAP : Nat := 6
def useUNWRAP : Nat := 7

def Slot.type (k : Slot) : Nat := bitsOf k.attr 3 1
def Slot.field (k : Slot) : Bool := k.attr.testBit 4
def Slot.usage (k : Slot) : Nat := bitsOf k.attr 12 5
def Slot.wrappable (k : Slot) : Bool := k.attr.testBit 13

/-- An empty slot. -/
def Slot.empty : Slot := ⟨0, []⟩

/-- Slot `n`. -/
def State.slot (s : State) (n : Nat) : Slot := tabGet .empty s.slots n

/-- Store a slot; the empty slot clears it. -/
def State.setSlot (s : State) (n : Nat) (k : Slot) : State := { s with slots := tabSet .empty n k s.slots }

/-- Slot `n` holds a key. -/
def State.slotValid (s : State) (n : Nat) : Bool := (s.slot n).attr.testBit 0

/-- An attribute word: valid, with type, field, usage, wrappable and key length. -/
def attrWord (type : Nat) (field : Bool) (usage : Nat) (wrappable : Bool) (len : Nat) : Nat :=
  1 + 2 * type + 16 * b2n field + 32 * usage + 8192 * b2n wrappable + 65536 * len

/-- Slots 0 and 1 as derived at a power-up of PD9 (R342): AES-256 keys with hw 1; the root key's usage bits limit nothing but what a
DERIVE result carries, and the rule names no bit that it lacks (log 44). -/
def State.deriveHwSlots (s : State) : State :=
  let hw (u : Nat) := attrWord keyAES256 false u false 32 + 16384
  (s.setSlot 0 ⟨hw 0xFF, bytesBE 32 (Config.rootKey s.zgen).toNat⟩).setSlot 1 ⟨hw 0, bytesBE 32 (Config.couponKey s.zgen).toNat⟩

/-! ### Coupon records -/

def couponAddr (i : Nat) : Nat := 0x30004000 + 96 * i
def cpnECDSA : Nat := 1
def cpnECDH : Nat := 2
def cpnX25519 : Nat := 3
def cpnREADY : Nat := 1
def cpnCONSUMED : Nat := 2

/-- Coupon record `i` carries its commit word (R346, R311). -/
def State.cpnCommitted (s : State) (i : Nat) : Bool :=
  decide (s.loadN (couponAddr i + 0x5C) 4 = 0x43500000 + s.loadN (couponAddr i + 8) 4 % 65536)

/-- Record `i` is usable: committed, READY, sealed under the present zgen (R346), and readable when the pool was scanned (R302). -/
def State.cpnUsable (s : State) (i : Nat) : Bool :=
  s.cpnCommitted i && !s.cry.unread.contains i && decide (s.loadN (couponAddr i) 4 = cpnREADY) && decide (s.loadN (couponAddr i + 0xC) 4 = s.zgen)

def State.cpnKind (s : State) (i : Nat) : Nat := s.loadN (couponAddr i + 4) 1

/-- Usable records of a kind, counted. -/
def State.cpnCount (s : State) (kind : Nat) : Nat :=
  ((numsFrom 256 0).filter fun i => s.cpnUsable i && decide (s.cpnKind i = kind)).length

/-- A record sits in a hold register: no other job takes it, so that no value is used twice (R347, R348). -/
def State.cpnHeld (s : State) (i : Nat) : Bool := s.cry.held.any fun (h : Nat × Held) => decide (h.2.idx = i)

/-- Records of a kind that a job may take, in index order (R347). -/
def State.cpnChoices (s : State) (kind : Nat) : List Nat :=
  (numsFrom 256 0).filter fun i => s.cpnUsable i && decide (s.cpnKind i = kind) && !s.cpnHeld i

/-- R349: a coupon of the kind is permitted to a job of the ring. -/
def State.cpnPermitted (s : State) (ring kind : Nat) : Bool :=
  !(s.cpnChoices kind).isEmpty &&
    (decide (ring = 32) ||
      (decide (s.get F.CRY.CPN_CFG2.reserve < s.cpnCount kind) &&
        (decide (s.ringWorld ring = .glass) || s.on F.CRY.CPN_CFG.field_ok)))

/-- IV and AAD of a coupon's sealing (R346). -/
def couponIv (serial gen : Nat) : List Byte := bytesLE 4 serial ++ bytesLE 4 gen ++ List.replicate 4 0

/-- Unseal record `i` under slot 1: its two secrets, or none where the tag fails (R346, R347). -/
def State.cpnUnseal (s : State) (i : Nat) : Option Held :=
  let a := couponAddr i
  let iv := couponIv (s.loadN (a + 8) 4) (s.loadN (a + 0xC) 4)
  let (text, tag) := gcmMode (s.slot 1).key iv (s.bytes (a + 4) 12) (s.bytes (a + 0x10) 64) false
  if s.slotValid 1 ∧ tag.take 12 = s.bytes (a + 0x50) 12 then
    some ⟨s.cpnKind i, i, natBE (text.take 32), natBE (text.drop 32)⟩
  else none

/-- The first record of the list that unseals; each that fails is taken out of use and counted (R347). `ps` tells of the writes; those that
are left are returned. -/
def State.cpnTake (s : State) : List Nat → List Pulse → State × Option Held × List Pulse
  | [], ps => (s, none, ps)
  | i :: is, ps =>
    match s.cpnUnseal i with
    | some h => (s, some h, ps)
    | none =>
      let (s, _) := s.hwWrite (couponAddr i + 0x5C) (bytesLE 4 0) (ps.headD .clean)
      State.cpnTake (s.inc F.CRY.CPN_CNT2.unseal_failed) is ps.tail

/-- Consume a coupon (R347): its state word is written and verified first; a use that leaves its kind below the low mark sets cpn_low
(log 45). -/
def State.cpnConsume (s : State) (h : Held) (p : Pulse) : State × Bool :=
  let (s, ok) := s.hwWrite (couponAddr h.idx) (bytesLE 4 cpnCONSUMED) p
  if ok then
    let s := s.inc F.CRY.CPN_CNT.consumed
    (if s.cpnCount h.kind < s.get F.CRY.CPN_CFG2.low_mark then s.irq pageCRY 0 else s, true)
  else (s, false)

/-- The coupon in the hold register of a world. -/
def State.heldOf (s : State) (w : World) : Option Held := (s.cry.held.find? fun h => decide (h.1 = worldCode w)).map (·.2)

/-- Empty a hold register (R348). -/
def State.dropHeld (s : State) (w : World) : State :=
  { s with cry := { s.cry with held := s.cry.held.filter fun (h : Nat × Held) => decide (h.1 ≠ worldCode w) } }

/-! ### Zeroisation (R345) -/

/-- A job that ends with ABORTED and writes nothing more. -/
def Job.abort (j : Job) : Job := { j with status := rcABORTED, out := [], slot := none, ctx := none }

/-- A coupon's commit word is cleared, and its write waits to complete at the ledger's rate. -/
def State.dropCoupon (i : Nat) (s : State) : State :=
  let a := couponAddr i + 0x5C
  let old := s.bytes a 4
  let s := s.setBytes a (bytesLE 4 0)
  { s with ldg := { s.ldg with posted := s.ldg.posted ++ [⟨.glass, 9, a, old⟩] } }

/-- Every slot and every coupon commit word is cleared, both hold registers empty, a running or suspended job is aborted. -/
def State.zeroise (s : State) : State :=
  let s := foldState State.dropCoupon (numsFrom 256 0) s
  let s := { s with
    slots := []
    cry := { s.cry with
      held := []
      refill := none
      run := s.cry.run.map Job.abort
      suspended := s.cry.suspended.map Job.abort } }
  (s.put F.KEY.STAT.zeroised 1).irq pageKEY 0

/-- A write to the KEY page's own registers. -/
def keyWrite (x : Wr) (s : State) : State :=
  if x.a = R.KEY.CTRL ∧ x.on F.KEY.CTRL.zeroise then s.zeroise else s

/-- KEY registers that a read computes: attributes only, never a key (R341). -/
def keyRead (a : Nat) (s : State) : Word :=
  if a = R.KEY.STAT then s.reg a ||| BitVec.ofNat 32 (s.zgen % 256)
  else if R.KEY.ATTR ≤ a ∧ a < R.KEY.ATTR + 256 then
    let n := a % 256 / 4
    BitVec.ofNat 32 ((s.slot n).attr ||| (if n < 2 then 16384 else 0))
  else s.reg a

end Sys2Proof.Machine
end

