-- ==== Sys2Proof/Machine/Jobs.lean ====
section
/-!
DEFINITION. Cipher job records (R333), the checks of R334, R324, R343, R344 and R349, and what each operation computes (R336, R337,
R343 to R349; the algorithms are those of the standards that R333's table names, log 40).
-/
namespace Sys2Proof.Machine
open Sys2Proof

/-- A job record (R333). -/
structure JobRec where
  op : Nat
  mode : Nat
  slot : Nat
  flags : Nat
  auxLen : Nat
  inAddr : Nat
  inLen : Nat
  outAddr : Nat
  outCap : Nat
  auxAddr : Nat
  ctxAddr : Nat
  param : List Byte
  dst : Nat
  reserved : Nat
  attr : Nat
  deriving DecidableEq, Repr

/-- The record that 64 bytes spell. -/
def JobRec.of (b : List Byte) : JobRec :=
  let n (o k : Nat) : Nat := natLE ((b.drop o).take k)
  ⟨n 0 1, n 1 1, n 2 1, n 3 1, n 6 2, n 8 4, n 12 4, n 16 4, n 20 4, n 24 4, n 28 4, (b.drop 32).take 16, n 56 1, n 57 3, n 60 4⟩

def opAES : Nat := 0x01
def opTDEA : Nat := 0x02
def opHASH : Nat := 0x03
def opHMAC : Nat := 0x04
def opECDSA : Nat := 0x05
def opED25519 : Nat := 0x06
def opECDH : Nat := 0x07
def opX25519 : Nat := 0x08
def opKEYGEN : Nat := 0x09
def opDERIVE : Nat := 0x0A
def opWRAP : Nat := 0x0B
def opUNWRAP : Nat := 0x0C
def opLOAD : Nat := 0x0D
def opZERO_SLOT : Nat := 0x0E
def opCPN_HOLD : Nat := 0x0F
def opCPN_DROP : Nat := 0x10

def JobRec.first (r : JobRec) : Bool := r.flags.testBit 0
def JobRec.last (r : JobRec) : Bool := r.flags.testBit 1
def JobRec.inv (r : JobRec) : Bool := r.flags.testBit 2
/-- Coupon policy: 0 none, 1 prefer, 2 require, 3 held. -/
def JobRec.policy (r : JobRec) : Nat := bitsOf r.flags 4 3
def JobRec.toSlot (r : JobRec) : Bool := r.flags.testBit 5
/-- A part of a longer sequence (R337). -/
def JobRec.multi (r : JobRec) : Bool := !(r.first && r.last)
/-- Byte `k` of param. -/
def JobRec.par (r : JobRec) (k : Nat) : Nat := (r.param.getD k 0).toNat
/-- Slot type and key length that dst_attr asks for. -/
def JobRec.dstType (r : JobRec) : Nat := bitsOf r.attr 3 1
def JobRec.dstLen (r : JobRec) : Nat :=
  if r.dstType = keyAES128 then 16 else if r.dstType = keyAES192 then 24 else if r.dstType ≤ keyAES256 then 32
  else if r.dstType ≤ keyHMAC then bitsOf r.attr 22 16 else 32

/-- The operation writes a slot (R343). -/
def JobRec.makesSlot (r : JobRec) : Bool := decide (r.op = opKEYGEN ∨ r.op = opDERIVE ∨ r.op = opUNWRAP ∨ r.op = opLOAD)

/-- An authenticated mode of AES. -/
def JobRec.aead (r : JobRec) : Bool := decide (r.op = opAES ∧ (r.mode = 3 ∨ r.mode = 4))
/-- A mode that answers with a MAC or digest. -/
def JobRec.mac (r : JobRec) : Bool :=
  decide ((r.op = opAES ∧ r.mode = 5) ∨ (r.op = opTDEA ∧ r.mode = 2) ∨ r.op = opHASH ∨ r.op = opHMAC)

/-- Tag or digest length: CMAC 16 and the TDEA MAC 8 where param gives none (log 46). -/
def JobRec.tagLen (r : JobRec) : Nat :=
  if r.aead then r.par 0
  else if r.op = opAES then (if r.par 0 = 0 then 16 else r.par 0)
  else if r.op = opTDEA then (if r.par 0 = 0 then 8 else r.par 0)
  else if r.mode = 0 then 32 else 64

/-- CTR counter width in bits: 128 where param gives 0 (log 46). -/
def JobRec.ctrWidth (r : JobRec) : Nat := if r.par 2 = 0 then 128 else r.par 2

/-- Length of the IV or nonce at aux_addr. -/
def JobRec.ivLen (r : JobRec) : Nat :=
  if r.op = opAES then (if r.mode = 1 ∨ r.mode = 2 then 16 else if r.mode = 3 then 15 - r.par 1 else if r.mode = 4 then 12 else 0)
  else if r.op = opTDEA ∧ r.mode = 1 then 8 else 0

/-- op and mode are not reserved. -/
def JobRec.opOk (r : JobRec) : Bool :=
  decide (r.mode < (if r.op = opAES then 6 else if r.op = opTDEA then 3 else if r.op = opHASH ∨ r.op = opHMAC ∨ r.op = opCPN_HOLD then 2
    else if 0 < r.op ∧ r.op ≤ opCPN_DROP then 1 else 0))

/-- Bytes that the job reads at aux_addr (log 47). -/
def JobRec.auxNeed (r : JobRec) : Nat :=
  if r.aead then (if r.first then r.ivLen + r.auxLen else 0)
  else if r.mac then (if r.inv && r.last then r.tagLen else 0)
  else if r.op = opAES ∨ r.op = opTDEA then (if r.first then r.ivLen else 0)
  else if r.op = opECDSA then (if r.inv then 64 else 0)
  else if r.op = opED25519 then (if r.inv then 32 else 0)
  else if r.op = opECDH then 64
  else if r.op = opX25519 then 32
  else if r.op = opDERIVE then r.auxLen
  else if r.op = opUNWRAP then 28 + r.dstLen
  else 0

/-- Bytes that the job writes at out_addr (log 47); `wlen` is the key length of the slot that WRAP wraps. -/
def JobRec.outNeed (r : JobRec) (wlen : Nat) : Nat :=
  if r.aead then (if !r.last then r.inLen else if r.inv then r.inLen - r.tagLen else r.inLen + r.tagLen)
  else if r.mac then (if r.last && !r.inv then r.tagLen else 0)
  else if r.op = opAES ∨ r.op = opTDEA then r.inLen
  else if r.op = opECDSA ∨ r.op = opED25519 then (if r.inv then 0 else 64)
  else if r.op = opECDH then 96
  else if r.op = opX25519 then 64
  else if r.op = opKEYGEN then (if r.dstType = keyP256 then 64 else if keyEd25519 ≤ r.dstType then 32 else 0)
  else if r.op = opWRAP then 28 + wlen
  else 0

/-- Key length of a slot. -/
def Slot.len (k : Slot) : Nat := bitsOf k.attr 22 16

/-- The lengths are legal for the operation (R334, check 1; log 47). -/
def JobRec.lengthsOk (r : JobRec) : Bool :=
  let n := r.inLen
  let tag := r.tagLen
  let textOk :=
    if r.op = opAES then
      (if r.mode ≤ 1 then decide (n % 16 = 0)
       else if r.mode = 2 then decide (r.ctrWidth ≤ 128) && (r.last || decide (n % 16 = 0))
       else if r.mode = 3 then
         decide (2 ≤ r.par 1 ∧ r.par 1 ≤ 8 ∧ 4 ≤ tag ∧ tag ≤ 16 ∧ tag % 2 = 0) && (!(r.inv && r.last) || decide (tag ≤ n)) &&
           decide (n < 2 ^ (8 * r.par 1)) && (r.last || decide (n % 16 = 0))
       else if r.mode = 4 then decide (tag = 4 ∨ tag = 8 ∨ (12 ≤ tag ∧ tag ≤ 16)) && (!(r.inv && r.last) || decide (tag ≤ n)) &&
           (r.last || decide (n % 16 = 0))
       else decide (tag ≤ 16))
    else if r.op = opTDEA then (if r.mode ≤ 1 then decide (n % 8 = 0) else decide (tag ≤ 8))
    else if r.op = opHASH ∨ r.op = opHMAC then true
    else if r.op = opECDSA then decide (n = if r.inv then 96 else 32)
    else if r.op = opED25519 then !r.inv || decide (64 ≤ n)
    else if r.op = opLOAD then decide (n = r.dstLen)
    else if r.op = opDERIVE then true
    else decide (n = 0)
  let dstOk := !r.makesSlot || (decide (1 ≤ r.dstLen ∧ r.dstLen ≤ 64) && (decide (r.dstType ≠ keyTDEA) || decide (r.dstLen = 16 ∨ r.dstLen = 24)))
  decide (n ≤ 65535) && textOk && dstOk

/-- Reserved bytes are 0, and the flags are those of the operation: inverse where a decrypt or verify exists, a coupon policy where a
coupon can serve, out_to_slot where the job makes a slot, parts where a mode can be continued (R333, R343; log 47). -/
def JobRec.flagsOk (r : JobRec) : Bool :=
  let used (k : Nat) : Bool :=
    (decide (k = 0) && (r.aead || decide ((r.op = opAES ∧ r.mode = 5) ∨ (r.op = opTDEA ∧ r.mode = 2)))) ||
      (decide (k = 1) && decide (r.op = opAES ∧ r.mode = 3)) || (decide (k = 2) && decide (r.op = opAES ∧ r.mode = 2))
  decide (r.flags < 64) && decide (r.reserved = 0) && decide (r.slot < 64) && decide (r.dst < 64) &&
    ((numsFrom 16 0).all fun k => used k || decide (r.par k = 0)) &&
    (!r.inv || decide (r.op ≤ opTDEA ∨ r.op = opHMAC ∨ r.op = opECDSA ∨ r.op = opED25519)) &&
    (decide (r.policy = 0) || decide ((r.op = opECDSA ∧ r.inv = false) ∨ r.op = opECDH ∨ r.op = opX25519)) &&
    (r.toSlot == r.makesSlot) &&
    (!r.multi || (decide (r.op ≤ opHMAC) && decide (r.ctxAddr ≠ 0)))

/-- [a, a + n) lies in the ring's segment; an empty range does. -/
def State.inSegment (s : State) (ring a n : Nat) : Bool :=
  decide (n = 0) || decide (s.ringSbase ring ≤ a ∧ a + n ≤ s.ringSbase ring + s.ringSlen ring)

/-- The types and the usage bit that the operation asks of key_slot; none where it uses no slot. -/
def JobRec.keyNeed (r : JobRec) : Option (List Nat × Nat) :=
  if r.op = opAES then
    some ([keyAES128, keyAES192, keyAES256], if r.mode = 5 then useMAC else if r.inv then useDECRYPT else useENCRYPT)
  else if r.op = opTDEA then some ([keyTDEA], if r.mode = 2 then useMAC else if r.inv then useDECRYPT else useENCRYPT)
  else if r.op = opHMAC then some ([keyHMAC], useMAC)
  else if r.op = opECDSA ∧ r.inv = false then some ([keyP256], useSIGN)
  else if r.op = opED25519 ∧ r.inv = false then some ([keyEd25519], useSIGN)
  else if r.op = opDERIVE then some ([keyAES128, keyAES192, keyAES256], useDERIVE)
  else if r.op = opWRAP then some ([keyAES256], useWRAP)
  else if r.op = opUNWRAP then some ([keyAES256], useUNWRAP)
  else none

/-- The kind of coupon that serves the operation; CPN_HOLD of ECDH takes the kind that refill makes (log 47). -/
def State.jobKind (s : State) (r : JobRec) : Nat :=
  if r.op = opECDSA then cpnECDSA
  else if r.op = opECDH then cpnECDH
  else if r.op = opX25519 then cpnX25519
  else if r.mode = 0 then cpnECDSA
  else if s.on F.CRY.CPN_CFG.ecdh_kind then cpnX25519 else cpnECDH

/-- The masks that FIELDED forces (R351). -/
def State.masking (s : State) : Bool :=
  decide (s.lcState = lcFIELDED) || s.on F.CRY.CM.aes_mask || s.on F.CRY.CM.pk_blind

/-- R324: the job needs randomness. -/
def State.jobRandom (s : State) (ring : Nat) (r : JobRec) : Bool :=
  s.masking || decide (r.op = opKEYGEN ∨ r.op = opWRAP) ||
    decide (r.op = opED25519 ∧ r.inv = false) ||
    (decide ((r.op = opECDSA ∧ r.inv = false) ∨ r.op = opECDH ∨ r.op = opX25519) &&
      (decide (r.policy = 0) || (decide (r.policy = 1) && !s.cpnPermitted ring (s.jobKind r))))

/-- The job's world may use a slot, and slots 0 and 1 serve only as R342 says. -/
def State.slotFor (s : State) (w : World) (r : JobRec) (n : Nat) : Bool :=
  (decide (w = .glass) || (s.slot n).field) && decide (2 ≤ n ∨ (n = 0 ∧ r.op = opDERIVE))

/-- R334: the code of the first check that fails, or OK. -/
def State.jobCheck (s : State) (ring : Nat) (w : World) (r : JobRec) : Nat :=
  let k := s.slot r.slot
  let usesKey := r.keyNeed.isSome || decide (r.op = opZERO_SLOT)
  let typeOk := match r.keyNeed with
    | some (ts, u) => ts.contains k.type && k.usage.testBit u
    | none => true
  let held := s.heldOf w
  let kindHeld := match held with | some h => decide (h.kind = s.jobKind r) | none => false
  if !r.opOk || !r.lengthsOk || !r.flagsOk || decide (r.outCap < r.outNeed (s.slot r.dst).len) then rcRANGE
  else if !(s.inSegment ring r.inAddr r.inLen && s.inSegment ring r.outAddr r.outCap && s.inSegment ring r.auxAddr r.auxNeed &&
      s.inSegment ring r.ctxAddr (if r.ctxAddr = 0 then 0 else 256)) then rcBOUNDS
  else if (usesKey && !s.slotValid r.slot) || (decide (r.op = opWRAP) && !s.slotValid r.dst) then rcABSENT
  else if s.entState = entFAILED ∧ s.jobRandom ring r then rcABSENT
  else if (usesKey && !(s.slotFor w r r.slot && typeOk)) || (r.makesSlot && decide (r.dst < 2)) ||
      (decide (r.op = opWRAP) && !(s.slotFor w r r.dst && (s.slot r.dst).wrappable)) ||
      (decide (r.op = opUNWRAP ∧ w = .field) && !r.attr.testBit 4) then rcAUTH
  else if r.op = opLOAD ∧ lcPERSONAL < s.lcState then rcSTATE
  else if r.makesSlot && s.slotValid r.dst then rcSTATE
  else if r.op = opCPN_HOLD ∧ held.isSome then rcBUSY
  else if r.policy = 3 ∧ kindHeld = false then rcSTATE
  else if (r.policy = 2 ∨ r.op = opCPN_HOLD) ∧ s.cpnPermitted ring (s.jobKind r) = false then rcREFUSED_QUOTA
  else rcOK

/-! ### What the operations compute -/

/-- What a job leaves: its code, detail bits, output, a slot to write, and what a saved context restores. -/
structure JobOut where
  code : Nat
  detail : Nat
  out : List Byte
  slot : Option (Nat × Slot)
  ctx : Option (List Byte)
  deriving DecidableEq, Repr

def JobOut.fail (code : Nat) : JobOut := ⟨code, 0, [], none, none⟩
def JobOut.bytes (out : List Byte) : JobOut := ⟨rcOK, 0, out, none, none⟩

/-- The tag or text that a symmetric job makes of a whole message. -/
def JobRec.symText (r : JobRec) (key iv msg : List Byte) : List Byte :=
  if r.op = opAES then
    (if r.mode = 0 then ecbMode (if r.inv then aesDec key else aesEnc key) 16 msg
     else if r.mode = 1 then
       (if r.inv then cbcDec (aesDec key) iv (chunks 16 msg.length msg) else cbcEnc (aesEnc key) iv (chunks 16 msg.length msg))
     else if r.mode = 2 then ctrMode (aesEnc key) r.ctrWidth iv msg
     else aesCmac key msg)
  else if r.op = opTDEA then
    (if r.mode = 0 then ecbMode (if r.inv then tdeaDec key else tdeaEnc key) 8 msg
     else if r.mode = 1 then
       (if r.inv then cbcDec (tdeaDec key) iv (chunks 8 msg.length msg) else cbcEnc (tdeaEnc key) iv (chunks 8 msg.length msg))
     else retailMac key (padZero 8 msg))
  else
    let k := if r.mode = 0 then sha256Kind else sha512Kind
    if r.op = opHASH then k.hash msg else k.hmac key msg

/-- AES without AEAD, TDEA, HASH and HMAC: `prev` is what a restored context holds, IV then earlier input (R337). -/
def JobRec.symJob (r : JobRec) (key aux prev data : List Byte) : JobOut :=
  let iv := if r.first then (if r.mac then [] else aux.take r.ivLen) else prev.take r.ivLen
  let old := if r.first then [] else prev.drop r.ivLen
  let msg := old ++ data
  let ctx := if r.last then none else some (iv ++ msg)
  if r.mac then
    let tag := (r.symText key iv msg).take r.tagLen
    if !r.last then ⟨rcOK, 0, [], none, ctx⟩
    else if r.inv then (if tag = aux then JobOut.bytes [] else JobOut.fail rcAUTH)
    else JobOut.bytes tag
  else ⟨rcOK, 0, (r.symText key iv msg).drop old.length, none, ctx⟩

/-- CCM and GCM (R336, R337). A context holds the IV, the additional data and the earlier input; each part writes its own text, and the last
part makes or checks the tag (log 47). -/
def JobRec.aeadJob (r : JobRec) (key aux prev data : List Byte) : JobOut :=
  let iv := if r.first then aux.take r.ivLen else prev.take r.ivLen
  let rest := prev.drop r.ivLen
  let n := natLE (rest.take 2)
  let aad := if r.first then aux.drop r.ivLen else (rest.drop 2).take n
  let old := if r.first then [] else rest.drop (2 + n)
  let given := if r.inv && r.last then data.drop (data.length - r.tagLen) else []
  let msg := old ++ data.take (data.length - given.length)
  let (text, tag) := if r.mode = 3 then ccmMode key iv aad msg (r.par 1) r.tagLen (!r.inv) else gcmMode key iv aad msg (!r.inv)
  let out := text.drop old.length
  let tag := tag.take r.tagLen
  if !r.last then ⟨rcOK, 0, out, none, some (iv ++ bytesLE 2 aad.length ++ aad ++ msg)⟩
  else if !r.inv then JobOut.bytes (out ++ tag)
  else if tag = given then JobOut.bytes out
  else JobOut.fail rcAUTH

/-- A scalar from 1 to n − 1 that the engine draws: the spec states no derivation from DRBG output (log 6). -/
def State.freeScalar (s : State) : Nat × State :=
  let (d, s) := s.draw
  (1 + Config.freeNat d % (p256N - 1), s)

/-- The coupon that a job uses (R347 to R349): an error code, or the coupon consumed, or a full computation, which in FAILED has no
randomness to work with (R324). `ps` tells of the ledger writes. -/
def State.jobCoupon (s : State) (ring : Nat) (w : World) (r : JobRec) (ps : List Pulse) : State × Nat × Option Held :=
  let kind := s.jobKind r
  let use (s : State) (h : Held) (ps : List Pulse) : State × Nat × Option Held :=
    match s.cpnConsume h (ps.headD .clean) with
    | (s, true) => (s, rcOK, some h)
    | (s, false) => (s, rcWORN, none)
  if r.policy = 3 then
    match s.heldOf w with
    | none => (s, rcSTATE, none)
    | some h => use (s.dropHeld w) h ps
  else if r.policy = 0 then (s, rcOK, none)
  else
    match (if s.cpnPermitted ring kind then s.cpnTake (s.cpnChoices kind) ps else (s, none, ps)) with
    | (s, some h, ps) => use s h ps
    | (s, none, _) =>
      if r.policy = 2 then ((s.inc F.CRY.CPN_CNT.refused_quota).irq pageCRY 2, rcREFUSED_QUOTA, none)
      else if s.entState = entFAILED then (s, rcABSENT, none)
      else (s.inc F.CRY.CPN_CNT2.full_fallbacks, rcOK, none)

/-- k⁻¹ and r of a nonce. -/
def ecdsaNonce (k : Nat) : Nat × Nat :=
  match p256Mul k p256G with
  | some q => (invMod p256N k, q.1 % p256N)
  | none => (0, 0)

/-- ECDSA P-256 (R349): sign, or verify a digest followed by r and s under the key at aux_addr. -/
def State.ecdsaJob (s : State) (ring : Nat) (w : World) (r : JobRec) (aux data : List Byte) (ps : List Pulse) : State × JobOut :=
  if r.inv then
    let ok := ecdsaVerify (pointBE aux) (natBE (data.take 32)) (natBE ((data.drop 32).take 32)) (natBE (data.drop 64))
    (s, if ok then JobOut.bytes [] else JobOut.fail rcAUTH)
  else
    let d := natBE (s.slot r.slot).key
    let (s, code, o) := s.jobCoupon ring w r ps
    if code ≠ rcOK then (s, JobOut.fail code)
    else
      let sig (p : Nat × Nat) : List Byte := bytesBE 32 p.2 ++ bytesBE 32 (ecdsaFinish p.1 p.2 d (natBE data))
      match o with
      | some h => (s, { JobOut.bytes (sig (h.a, h.b)) with detail := 1 })
      | none =>
        let (k, s) := s.freeScalar
        (s, { JobOut.bytes (sig (ecdsaNonce k)) with detail := 2 })

/-- ECDH P-256: an ephemeral key, the coupon's where one serves, agrees with the peer's; the output is its public point, then the shared
x. A peer point off the curve ends with AUTH before a coupon is used (log 47). -/
def State.ecdhJob (s : State) (ring : Nat) (w : World) (r : JobRec) (aux : List Byte) (ps : List Pulse) : State × JobOut :=
  let peer := pointBE aux
  if !p256On peer then (s, JobOut.fail rcAUTH)
  else
    let (s, code, o) := s.jobCoupon ring w r ps
    if code ≠ rcOK then (s, JobOut.fail code)
    else
      let (k, s, detail) := match o with
        | some h => (h.a, s, 1)
        | none => let (k, s) := s.freeScalar; (k, s, 2)
      match p256Mul k p256G, p256Mul k peer with
      | some q, some z => (s, { JobOut.bytes (bytesBE 32 q.1 ++ bytesBE 32 q.2 ++ bytesBE 32 z.1) with detail := detail })
      | _, _ => (s, JobOut.fail rcAUTH)

/-- X25519 likewise: its public value, then the shared secret. -/
def State.x25519Job (s : State) (ring : Nat) (w : World) (r : JobRec) (aux : List Byte) (ps : List Pulse) : State × JobOut :=
  let (s, code, o) := s.jobCoupon ring w r ps
  if code ≠ rcOK then (s, JobOut.fail code)
  else
    let (k, s, detail) := match o with
      | some h => (bytesBE 32 h.a, s, 1)
      | none =>
        let (d, s) := s.draw
        ((numsFrom 32 0).map (Config.freeByte d), s, 2)
    (s, { JobOut.bytes (x25519 k x25519Base ++ x25519 k aux) with detail := detail })

/-- The slot that a job makes: field 1 for a Field job (R343). -/
def JobRec.newSlot (r : JobRec) (w : World) (usage : Nat) (key : List Byte) : Option (Nat × Slot) :=
  some (r.dst, ⟨attrWord r.dstType (decide (w = .field) || r.attr.testBit 4) usage (r.attr.testBit 13) key.length, key⟩)

def JobRec.usage (r : JobRec) : Nat := bitsOf r.attr 12 5

/-- The public key that KEYGEN writes (log 47). -/
def publicKey (type : Nat) (key : List Byte) : List Byte :=
  if type = keyP256 then
    match p256Mul (natBE key) p256G with
    | some q => bytesBE 32 q.1 ++ bytesBE 32 q.2
    | none => []
  else if type = keyEd25519 then edPublic key
  else if type = keyX25519 then x25519 key x25519Base
  else []

/-- A P-256 scalar must lie from 1 to n − 1 (log 47). -/
def keyInRange (type : Nat) (key : List Byte) : Bool := decide (type ≠ keyP256) || decide (0 < natBE key ∧ natBE key < p256N)

/-- KEYGEN: none while the DRBG cannot serve it (R326). -/
def State.keygenJob (s : State) (w : World) (r : JobRec) : Option (State × JobOut) :=
  match s.drbg r.dstLen with
  | (none, _) => none
  | (some d, s) =>
    let (k, s) := s.freeScalar
    let key := if r.dstType = keyP256 then bytesBE 32 k else d
    some (s, ⟨rcOK, 0, publicKey r.dstType key, r.newSlot w r.usage key, none⟩)

/-- DERIVE: SP 800-108 with the label, a zero byte and the input as context (log 47). -/
def State.deriveJob (s : State) (w : World) (r : JobRec) (aux data : List Byte) : JobOut :=
  let src := s.slot r.slot
  let key := kdfCounter src.key (aux ++ [0] ++ data) r.dstLen
  if keyInRange r.dstType key then ⟨rcOK, 0, [], r.newSlot w (r.usage &&& src.usage) key, none⟩ else JobOut.fail rcRANGE

/-- WRAP: key_slot wraps the key of dst_slot (R344; log 47). -/
def State.wrapJob (s : State) (r : JobRec) : Option (State × JobOut) :=
  match s.drbg 12 with
  | (none, _) => none
  | (some iv, s) =>
    let k := s.slot r.dst
    let (text, tag) := gcmMode (s.slot r.slot).key iv (bytesLE 4 k.attr) k.key true
    some (s, JobOut.bytes (iv ++ text ++ tag))

/-- UNWRAP: dst_attr is the attribute word that the blob's tag covers (R344; log 47). -/
def State.unwrapJob (s : State) (r : JobRec) (aux : List Byte) : JobOut :=
  let body := aux.drop 12
  let n := body.length - 16
  let (text, tag) := gcmMode (s.slot r.slot).key (aux.take 12) (bytesLE 4 r.attr) (body.take n) false
  if tag = body.drop n then ⟨rcOK, 0, [], some (r.dst, ⟨r.attr ||| 1, text⟩), none⟩ else JobOut.fail rcAUTH

/-- CPN_HOLD (R348). -/
def State.holdJob (s : State) (w : World) (r : JobRec) (ps : List Pulse) : State × JobOut :=
  match s.cpnTake (s.cpnChoices (s.jobKind r)) ps with
  | (s, some h, _) => ({ s with cry := { s.cry with held := s.cry.held ++ [(worldCode w, h)] } }, JobOut.bytes [])
  | (s, none, _) => ((s.inc F.CRY.CPN_CNT.refused_quota).irq pageCRY 2, JobOut.fail rcREFUSED_QUOTA)

/-- The operation itself, its data at hand; none while it waits for the DRBG (R326). -/
def State.jobRun (s : State) (ring : Nat) (w : World) (r : JobRec) (aux prev data : List Byte) (ps : List Pulse) :
    Option (State × JobOut) :=
  let key := (s.slot r.slot).key
  if r.aead then some (s, r.aeadJob key aux prev data)
  else if r.op ≤ opHMAC then some (s, r.symJob key aux prev data)
  else if r.op = opECDSA then some (s.ecdsaJob ring w r aux data ps)
  else if r.op = opED25519 then
    some (s, if r.inv then (if edVerify aux (data.take (data.length - 64)) (data.drop (data.length - 64)) then JobOut.bytes []
        else JobOut.fail rcAUTH) else JobOut.bytes (edSign key data))
  else if r.op = opECDH then some (s.ecdhJob ring w r aux ps)
  else if r.op = opX25519 then some (s.x25519Job ring w r aux ps)
  else if r.op = opKEYGEN then s.keygenJob w r
  else if r.op = opDERIVE then some (s, s.deriveJob w r aux data)
  else if r.op = opWRAP then s.wrapJob r
  else if r.op = opUNWRAP then some (s, s.unwrapJob r aux)
  else if r.op = opLOAD then
    some (s, if keyInRange r.dstType data then ⟨rcOK, 0, [], r.newSlot w r.usage data, none⟩ else JobOut.fail rcRANGE)
  else if r.op = opZERO_SLOT then some (s, ⟨rcOK, 0, [], some (r.slot, .empty), none⟩)
  else if r.op = opCPN_HOLD then some (s.holdJob w r ps)
  else some (s.dropHeld w, JobOut.bytes [])

end Sys2Proof.Machine
end

