-- ==== Sys2Proof/Machine/Cipher.lean ====
section
/-!
DEFINITION. The cipher engine (R333 to R340, R350, R351): which job it takes next, starting, suspending and completing a job, coupon
refill, the pool scan, and the CRY page.
-/
namespace Sys2Proof.Machine
open Sys2Proof

/-- Ring `n` has a job running or suspended: a ring offers one job at a time (R384; log 48). -/
def State.ringInEngine (s : State) (n : Nat) : Bool :=
  (match s.cry.run with | some j => decide (j.ring = n) | none => false) || s.cry.suspended.any fun j => decide (j.ring = n)

/-- Cipher ring `n` offers a job. -/
def State.jobReady (s : State) (n : Nat) : Bool :=
  decide (s.ringState n = ringRUN) && decide (0 < s.ringPosted n) && !s.ringInEngine n

/-- The rings after the one served last, in round-robin order (R339). -/
def State.cipherOrder (s : State) : List Nat := numsFrom (47 - s.cry.last) (s.cry.last + 1) ++ numsFrom (s.cry.last + 1 - 32) 32

/-- The ring whose job is next: the highest class, then round-robin (R339). -/
def State.nextJobRing (s : State) : Option Nat :=
  s.cipherOrder.foldl (fun best n =>
    if s.jobReady n then
      match best with
      | none => some n
      | some b => if s.ringClass n < s.ringClass b then some n else best
    else best) none

/-- The suspended job that would resume: the highest class (R340). -/
def State.nextSuspended (s : State) : Option Job :=
  s.cry.suspended.foldl (fun best j =>
    match best with
    | none => some j
    | some b => if s.ringClass j.ring < s.ringClass b.ring then some j else best) none

/-- Work of the life-cycle block is due at the next job boundary, ahead of every ring (R136, R339). -/
def State.lcDue (s : State) : Bool :=
  match s.lc.job with
  | none | some .challenge => false
  | some _ => s.pdServes 8 && s.pdServes 9

/-- The suspended job that the idle engine resumes, ahead of jobs of its own class (R340). -/
def State.resumeDue (s : State) : Option Job :=
  if s.cry.run.isSome || s.lcDue then none
  else
    match s.nextSuspended with
    | none => none
    | some j =>
      match s.nextJobRing with
      | none => some j
      | some n => if s.ringClass j.ring ≤ s.ringClass n then some j else none

/-- The idle engine resumes the suspended job that is due. -/
def State.resumeJob (s : State) : State :=
  match s.resumeDue with
  | some j => { s with cry := { s.cry with run := some j, suspended := s.cry.suspended.filter fun k => decide (k.ring ≠ j.ring) } }
  | none => s

/-- The engine takes a job of ring `n`: it runs. -/
def State.runJob (s : State) (j : Job) : State := { s with cry := { s.cry with run := some j, last := j.ring } }

/-- A 64-byte job record has been read: checked, its data read, and computed (R333 to R337). None while the job waits for the DRBG
(R326, R330) or for a busy flash bank (R284). -/
def State.acceptJob (s : State) (n : Nat) (d : Desc) (r : JobRec) (g : Integ) (ps : List Pulse) : Option State :=
  let w := s.ringWorld n
  let job (code detail : Nat) : Job := ⟨n, d, r.op, r.mode, code, detail, r.outAddr, [], none, none⟩
  if s.drbgWaits then none
  else
    let s := foldState (fun _ s => s.drbgTake) (numsFrom (1 + r.inLen / 4096) 0) s
    let code := s.jobCheck n w r
    if code ≠ rcOK then
      let s := if code = rcREFUSED_QUOTA then (s.inc F.CRY.CPN_CNT.refused_quota).irq pageCRY 2 else s
      some (s.runJob (job code 0))
    else if s.dmaStalls r.inAddr r.inLen || s.dmaStalls r.auxAddr r.auxNeed then none
    else
      let (s, data, ok1) := s.dmaLoad .cipher w g r.inAddr r.inLen
      let (s, aux, ok2) := if ok1 then s.dmaLoad .cipher w g r.auxAddr r.auxNeed else (s, [], false)
      let restores := r.multi && !r.first
      let (s, sealed, ok3) := if ok2 && restores then s.dmaLoad .cipher w g r.ctxAddr 256 else (s, [], ok2)
      if !ok3 then some (s.runJob (job rcABORTED 0))
      else
        let c := if restores then s.cry.ctxs.find? fun c => decide (c.sealed = sealed ∧ c.ring = n ∧ c.op = r.op ∧ c.mode = r.mode) else none
        if restores && c.isNone then some (s.runJob (job rcAUTH 0))
        else
          let prev := match c with | some c => c.data | none => []
          match s.jobRun n w r aux prev data ps with
          | none => none
          | some (s, o) =>
            some (s.runJob { job o.code o.detail with out := o.out, slot := o.slot, ctx := o.ctx.map fun x => (r.ctxAddr, x) })

/-- The engine may take a job of a ring: idle, with no work of the life-cycle block and no suspended job due before it (R339, R340). -/
def State.engineFree (s : State) : Bool := s.cry.run.isNone && s.pdOn 9 && s.pdOn 11 && !s.lcDue && s.resumeDue.isNone

/-- A PAUSING ring whose last work has ended becomes PAUSED; the engine may then resume a suspended job (R340, R391). -/
def State.jobEnded (s : State) (n : Nat) : State := (s.ringPaused n).resumeJob

/-- The engine takes the job of ring `n`, whose turn it is, if it is one of `want` (none: any). A descriptor that R381 refuses, or a record that
cannot be read, completes at once with the bytes of the record that moved (R335, R385), and a suspended job may resume. -/
def State.takeJob (s : State) (n : Nat) (want : Option Nat) (g : Integ) (ps : List Pulse) : Option State :=
  match s.fetchDesc n (s.cidx n) g with
  | (s, none) => if want.isNone then some s else none
  | (s, some d) =>
    let code := s.judgeDesc n d
    if code ≠ rcOK then (if want.isNone then some ((s.completeDesc n d code 0 0 d.w3 d.cbyte).jobEnded n) else none)
    else if s.dmaStalls d.w0 64 then none
    else
      let (s, rec, ok) := s.dmaLoad .cipher (s.ringWorld n) g d.w0 64
      if !ok then (if want.isNone then some ((s.completeDesc n d rcABORTED rec.length 0 d.w3 d.cbyte).jobEnded n) else none)
      else
        let r := JobRec.of rec
        match want with
        | some op => if r.op = op then s.acceptJob n d r g ps else none
        | none => s.acceptJob n d r g ps

/-- A running job is a public-key operation: signing, agreement, or KEYGEN of a key pair (R340). -/
def Job.publicKey (j : Job) : Bool :=
  decide (opECDSA ≤ j.op ∧ j.op ≤ opX25519) ||
    (decide (j.op = opKEYGEN) && (match j.slot with | some (_, v) => decide (keyP256 ≤ v.type) | none => false))

/-- The running job's public-key steps take one DRBG request each, and at a boundary a job of a higher class suspends it (R330, R340,
R384): DEFERRED in its record and descriptor, detail[2], and the counters. Where the descriptor cannot be written the ring halts and moves no
more data (R396). -/
def State.pkBoundary (s : State) : State :=
  match s.cry.run with
  | none => s
  | some j =>
    if !j.publicKey then s
    else if s.drbgWaits then s.drbgWait .cipher
    else
      let s := s.drbgTake.drbgServed .cipher
      let higher := (numsFrom 16 32).any fun n => s.jobReady n && decide (s.ringClass n < s.ringClass j.ring)
      if !higher ∨ 3 ≤ s.cry.suspended.length then s
      else
        let j := { j with detail := j.detail ||| 4 }
        let (s, _) := s.dmaWrite .cipher (s.ringWorld j.ring) j.desc.back (j.desc.w0 + 4) (bytesLE 1 rcDEFERRED ++ bytesLE 1 j.detail)
        let s := { s with cry := { s.cry with run := none } }
        match s.descFault j.ring true j.desc.addr j.desc.back with
        | (s, 0) =>
          let s := s.trlWrite (j.desc.addr + 8) (bytesLE 2 (rcDEFERRED + 2 ^ 10))
          let s := ((s.inc (F.RING.DEFER.engine.ring j.ring)).inc F.CRY.JOBCNT.deferrals).markDeferred j.ring (s.cidx j.ring)
          { s with cry := { s.cry with suspended := s.cry.suspended ++ [j] } }
        | (s, h) => s.ringHalt j.ring h j.desc.addr

/-- Write a job's output and context (R335, R337): its code, and the bytes written. -/
def State.jobOutput (s : State) (j : Job) (g : Integ) : State × Nat × Nat :=
  if j.status ≠ rcOK then (s, j.status, 0)
  else
    let w := s.ringWorld j.ring
    let (s, k) := State.dmaWriteLen .cipher w g (j.out.length + 1) s j.outAddr j.out
    if k ≠ j.out.length then (s, rcABORTED, k)
    else
      match j.ctx with
      | none => (s, rcOK, k)
      | some (a, x) =>
        let (d, s) := s.draw
        let sealed := (numsFrom 256 0).map (Config.freeByte d)
        let (s, ok) := s.dmaWrite .cipher w g a sealed
        if ok then ({ s with cry := { s.cry with ctxs := s.cry.ctxs ++ [⟨sealed, j.ring, j.op, j.mode, x⟩] } }, rcOK, k)
        else (s, rcABORTED, k)

/-- The running job completes (R334 to R336, R379, R384): output, slot, record, descriptor; then a suspended job may resume. -/
def State.jobDone (s : State) (cycles : Nat) (g : Integ) : State :=
  match s.cry.run with
  | none => s
  | some j =>
    let s := { s with cry := { s.cry with run := none } }
    let w := s.ringWorld j.ring
    let (s, code, n) := s.jobOutput j g
    let s := match j.slot with
      | some (k, v) => if code = rcOK then s.setSlot k v else s
      | none => s
    let (s, ok1) := s.dmaWrite .cipher w g (j.desc.w0 + 4) (bytesLE 1 code ++ bytesLE 1 j.detail)
    let (s, ok2) := s.dmaWrite .cipher w g (j.desc.w0 + 0x30) (bytesLE 4 n ++ bytesLE 4 cycles)
    let s := s.inc F.CRY.JOBCNT.jobs
    let s := s.completeDesc j.ring { j.desc with back := g } (if ok1 && ok2 then code else rcABORTED) 64 0 j.desc.w3 0
    s.jobEnded j.ring

/-! ### Coupon refill (R350) -/

/-- VSYS supplies, or the kind is below the low mark and the last sample of VBAT was not below low_mv, so that it reported no vbat_low
(DEDUCED, log 74). -/
def State.refillSupply (s : State) (kind : Nat) : Bool :=
  s.on F.PWR.PATH.src || (decide (s.cpnCount kind < s.get F.CRY.CPN_CFG2.low_mark) &&
    decide (s.get F.PWR.VBAT.low_mv ≤ s.get F.PWR.VBAT.vbat_mv))

/-- The kind that refill makes now: ECDSA first (R350). -/
def State.refillKind (s : State) : Option Nat :=
  let ecdh := if s.on F.CRY.CPN_CFG.ecdh_kind then cpnX25519 else cpnECDH
  if !s.on F.CRY.CPN_CFG.refill_en || !s.pdOn 9 || !s.slotValid 1 || decide (s.entState = entFAILED) then none
  else if s.cpnCount cpnECDSA < s.get F.CRY.CPN_CFG.ecdsa_target ∧ s.refillSupply cpnECDSA then some cpnECDSA
  else if s.cpnCount ecdh < s.get F.CRY.CPN_CFG.ecdh_target ∧ s.refillSupply ecdh then some ecdh
  else none

/-- The lowest free or consumed record, or one sealed under another zgen (R346, R350 and ch. 14's hard ground). -/
def State.refillRecord (s : State) : Option Nat := (numsFrom 256 0).find? fun i => !s.cpnUsable i

/-- COUPON_REFILL: the engine has no job to take and starts filling one coupon (R339, R350). -/
def State.refillStart (s : State) : State :=
  if s.cry.run.isSome || s.cry.refill.isSome || !s.pdOn 8 || s.nextJobRing.isSome || !s.cry.suspended.isEmpty || s.ent.scanning || s.lcDue ||
      s.drbgWaits then s
  else
    match s.refillKind, s.refillRecord with
    | some k, some i => { s.drbgTake with cry := { s.drbgTake.cry with refill := some (k, i) } }
    | _, _ => s

def execCouponRefill (s : State) : Out := .next s.refillStart

/-- The fill number that follows the highest serial of a committed record (log 49). -/
def State.nextSerial (s : State) : Nat :=
  ((numsFrom 256 0).foldl (fun m i => if s.cpnCommitted i then max m (s.loadN (couponAddr i + 8) 4) else m) 0 + 1) % 2 ^ 32

/-- The two secrets of a new coupon and its flags byte (R346): from a free scalar or private key. -/
def State.couponSecrets (s : State) (kind : Nat) : List Byte × Nat × State :=
  if kind = cpnX25519 then
    let (d, s) := s.draw
    let k := (numsFrom 32 0).map (Config.freeByte d)
    (k ++ x25519 k x25519Base, 0, s)
  else
    let (k, s) := s.freeScalar
    if kind = cpnECDSA then
      let p := ecdsaNonce k
      (bytesBE 32 p.1 ++ bytesBE 32 p.2, 0, s)
    else
      match p256Mul k p256G with
      | some q => (bytesBE 32 k ++ bytesBE 32 q.1, q.2 % 2, s)
      | none => (bytesBE 32 k ++ bytesBE 32 0, 0, s)

/-- COUPON_FILLED: the record is sealed and written by R311 (R346, R350); `ps` tells of its five writes: the commit word to 0, three lines of
the body, the commit word. A write that fails leaves the record uncommitted. refill_done is set when nothing is left to fill (log 49). -/
def State.couponFilled (s : State) (ps : List Pulse) : State :=
  match s.cry.refill, s.cry.run with
  | some (kind, i), none =>
    let s := { s with cry := { s.cry with refill := none } }
    if !s.pdOn 8 || !s.pdOn 9 || !s.slotValid 1 then s
    else
      let (plain, flags, s) := s.couponSecrets kind
      let serial := s.nextSerial
      let head := bytesLE 1 kind ++ bytesLE 1 flags ++ bytesLE 2 0 ++ bytesLE 4 serial ++ bytesLE 4 s.zgen
      let (text, tag) := gcmMode (s.slot 1).key (couponIv serial s.zgen) head plain true
      let body := bytesLE 4 cpnREADY ++ head ++ text ++ tag.take 12
      match s.hwWrites (recordWrites (couponAddr i) body (bytesLE 4 (0x43500000 + serial % 65536))) ps with
      | (s, false) => s
      | (s, true) =>
        let s := { s with cry := { s.cry with unread := s.cry.unread.filter (· ≠ i) } }
        if s.refillKind.isNone then s.irq pageCRY 1 else s
  | _, _ => s

def execCouponFilled (ps : List Pulse) (s : State) : Out := .next (s.couponFilled ps).settle

/-- COUPON_POOL_SCAN: the scan after a power-up of PD9 ends, and CPN_STAT shows the pool (R349); records that cannot be read are left out
(R302). -/
def execCouponPoolScan (s : State) : Out :=
  if s.ent.scanning then
    let (bad, s) := s.scanBad 256
    .next { s with ent := { s.ent with scanning := false }, cry := { s.cry with unread := bad } }
  else .next s

/-- A write to the CRY page's own registers (R351). -/
def cryWrite (x : Wr) (s : State) : State :=
  if x.a = R.CRY.CNTCLR then
    if x.on F.CRY.CNTCLR.clr then ((s.setReg R.CRY.CPN_CNT 0).setReg R.CRY.CPN_CNT2 0).setReg R.CRY.JOBCNT 0 else s
  else if x.a = R.CRY.CM ∧ s.lcState = lcFIELDED then s.storeNew ((x.keep F.CRY.CM.aes_mask).keep F.CRY.CM.pk_blind)
  else s.storeNew x

/-- CRY registers that a read computes. -/
def cryRead (a : Nat) (s : State) : Word :=
  if a = R.CRY.CPN_STAT then
    let held (w : World) : Nat := b2n (s.heldOf w).isSome
    let count (k : Nat) : Nat := if s.ent.scanning then 0 else s.cpnCount k
    BitVec.ofNat 32 (count cpnECDSA + 2 ^ 16 * (count cpnECDH + count cpnX25519) + 2 ^ 25 * b2n s.cry.refill.isSome +
      2 ^ 26 * held .field + 2 ^ 27 * held .glass)
  else if a = R.CRY.CM ∧ s.lcState = lcFIELDED then s.reg a ||| 3
  else s.reg a

end Sys2Proof.Machine
end

