-- ==== Sys2Proof/Machine/Pins.lean ====
section
/-!
DEFINITION. What the pins show, as functions of the state (R45, R46, R48 to R50, R54, R57, R64, R66, R83, R426, R447, R460, R464, R488,
R517, R533), the state in which R48 holds the pins of a domain that powers down, and the levels that GPIO sees (R65).
-/
namespace Sys2Proof.Machine
open Sys2Proof

/-- A push-pull level. -/
def Drive.of (b : Bool) : Drive := if b then .high else .low

/-- An open-drain output: low when asserted. -/
def Drive.openDrain (assert : Bool) : Drive := if assert then .low else .z

/-- The I/O group of a pin is supplied, or the pin belongs to none or to S, which R56 keeps supplied (R57). -/
def State.groupOn (s : State) (p : Pin) : Bool :=
  match p.group with
  | some .s | none => true
  | some g => s.on (F.PWR.IOGRP.present.bit g.bit)

/-! ### The host link's interrupt (R512, R517) -/

/-- The link serves frames: its pins reach it and it is enabled (R57, R518). -/
def State.hlkServes (s : State) : Bool := s.pdOn 13 && s.on F.HLK.CTRL.en && s.groupOn (.hlSck)

/-- The ring of mailbox `m`, and whether it is outbound (R512). -/
def mbRing (m : Nat) : Nat := 56 + m
def State.mbOut (s : State) (m : Nat) : Bool := (s.get F.HLK.MBDIR.dir).testBit m

/-- Mailbox `m` offers a posted descriptor (R512). -/
def State.mbPosted (s : State) (m : Nat) : Bool :=
  let n := mbRing m
  s.pdOn 11 && decide (s.ringClient n = clHOST) && decide (s.ringState n = ringRUN ∨ s.ringState n = ringPAUSING) &&
    decide (0 < s.ringPosted n)

/-- HOSTIRQ.raw: out_avail is a level (R517). -/
def State.hostRaw (s : State) : Nat :=
  let avail := s.pdOn 13 && s.on F.HLK.CTRL.en && (numsFrom 8 0).any fun m => s.mbOut m && s.mbPosted m
  s.get F.HLK.HOSTIRQ.raw / 2 * 2 + b2n avail

/-- HOSTIRQ as the pin sees it. -/
def State.hostIrqWord (s : State) : Word := F.HLK.HOSTIRQ.raw.put s.hostRaw (s.reg R.HLK.HOSTIRQ)

/-! ### Pins as their blocks drive them -/

/-- The internal pull that the pin table gives a pin. -/
def Pin.tablePull (p : Pin) : Pull :=
  match p.row.pull with
  | .up | .upToVbat => .up
  | .down => .down
  | .none | .downWhileSampled | .upWhileGcbVcc => .none

/-- The reset state of a pin (R45). -/
def Pin.atReset (p : Pin) : PinOut :=
  match p.row.reset with
  | .low | .off => ⟨.low, p.tablePull⟩
  | .none | .input | .z => ⟨.z, p.tablePull⟩

/-- Pin `n` of GPIO is in analogue mode (R64). -/
def State.gpioAnalog (s : State) (n : Nat) : Bool := decide (8 ≤ n) && (s.get F.GPIO.ANA.ana).testBit (n - 8)

/-- What GPIO pin `n` drives and its pull (R64). -/
def State.gpioLive (s : State) (n : Nat) : PinOut :=
  if s.gpioAnalog n then ⟨.z, .none⟩
  else
    let out := (s.get F.GPIO.OUT.out).testBit n
    let drive := if !(s.get F.GPIO.DIR.oe).testBit n then .z else if (s.get F.GPIO.OD.od).testBit n then Drive.openDrain (!out) else Drive.of out
    let pull := match bitsOf (s.get F.GPIO.PULL.pull) (2 * n + 1) (2 * n) with | 1 => Pull.down | 2 => Pull.up | _ => Pull.none
    ⟨drive, pull⟩

/-- GCB_VCC is on (R50, R487): from POWERING on, with VDDIO_C present. -/
def State.gcbVccOn (s : State) : Bool := s.pdOn 12 && decide (2 ≤ s.get F.GCB.STAT.state) && s.on (F.PWR.IOGRP.present.bit 2)

/-- The host's pull-ups on GCB_CMD and GCB_DAT (R460, R488): off whenever GCB_VCC is off, on once it has been powered up. -/
def State.gcbPullsOn (s : State) : Bool := s.gcbVccOn && decide (3 ≤ s.get F.GCB.STAT.state)

/-- The host runs GCB_CLK: a command frame has been sent and its transaction has not ended (R464). -/
def State.gcbClocks (s : State) : Bool := s.gcbVccOn && (match s.gcb.job with | some j => j.sent && j.held.isNone | none => false)

/-- A cartridge line with GCB_VCC off: driven low, no pull-up (R50). -/
def gcbOff : PinOut := ⟨.low, .none⟩

/-- RMIIn_REFCLK is an output (R426): the port is enabled with ref_out at 1 and the PLL has locked. -/
def State.refclkOut (s : State) (p : Nat) : Bool :=
  s.pdOn 11 && s.on (F.ETH.CTRL.en.idx 0x1000 p) && s.on (F.ETH.CTRL.ref_out.idx 0x1000 p) && s.on F.PWR.XO.pll_lock

/-- A pin as its block drives it now. Data lines of an interface rest between frames (log 12); inputs drive nothing. -/
def State.pinLive (s : State) : Pin → PinOut
  | .gpio n => s.gpioLive n
  | .rlTxd => ⟨if s.radio.sending.isSome then .toggles else .low, .none⟩
  | .rlTxen => ⟨Drive.of s.radio.sending.isSome, .down⟩
  | .gcbVcc => ⟨Drive.of s.gcbVccOn, .none⟩
  | .gcbClk => ⟨if s.gcbClocks then .toggles else .low, .none⟩
  | .gcbCmd => if s.gcbPullsOn then ⟨.z, .up⟩ else gcbOff
  | .gcbDat _ => if s.gcbPullsOn then ⟨.z, .up⟩ else gcbOff
  | .hlIrqN =>
    let w := s.hostIrqWord
    ⟨Drive.openDrain (decide (F.HLK.HOSTIRQ.raw.get w &&& F.HLK.HOSTIRQ.en.get w ≠ 0)), .none⟩
  | .mgAlertN => ⟨Drive.openDrain (decide (s.get F.MGP.ALERT.alert &&& s.get F.MGP.ALERT.en ≠ 0)), .none⟩
  | .mdc => ⟨if s.mdio.isSome then .toggles else .low, .none⟩
  | .mdio => ⟨if s.mdio.isSome then .toggles else .z, .up⟩
  | .rmiiRefclk p => ⟨if s.refclkOut p then .toggles else .z, .none⟩
  | p => p.atReset

/-! ### Held pins (R48, R83) -/

/-- Domains whose pins R48 holds: PD1, PD11, PD12 and PD13 (PWR.HOLD). -/
def holdsPins (d : Nat) : Bool := decide (d = 1 ∨ (11 ≤ d ∧ d ≤ 13))

/-- The pins of domain `d` are held. -/
def State.pinsHeld (s : State) (d : Nat) : Bool := s.on (F.PWR.HOLD.hold.bit d)

/-- A pin as the hold of its domain keeps it: PD1's outputs low (R49), PD12's lines by R50, the others at the level, enable and pull of the
moment of the power-down, a running clock at the level `lvl` that it then had (R48). -/
def State.pinAtDown (s : State) (lvl : Bool) (p : Pin) : PinOut :=
  match p with
  | .rlTxd | .rlTxen => p.atReset
  | .gcbVcc | .gcbClk | .gcbCmd | .gcbDat _ => gcbOff
  | p =>
    let o := s.pinLive p
    if o.drive = .toggles then { o with drive := Drive.of lvl } else o

/-- R48: what the pins of domain `d` do now is kept; pins still held from before stay as they are. -/
def State.holdPins (s : State) (d : Nat) : State :=
  if s.pinsHeld d then s
  else
    let (n, s) := s.draw
    let mine := (pinsOf d).map fun p => (p, s.pinAtDown (Config.freeNat n % 2 == 1) p)
    let others := s.aon.pinHold.filter fun (e : Pin × PinOut) => decide (e.1.domain ≠ some d)
    { s with aon := { s.aon with pinHold := others ++ mine } }

/-- What a pin shows. In SHIP every pin is high impedance without a pull but SHIPWK_N; a pin whose I/O group is absent is high impedance
(R57), but the cartridge lines, which R50 drives low whenever VDDIO_C is absent: the model takes R50 for them (DEDUCED, log 69). During a
reset pins other than PD0's are in their reset state; a held pin is as the hold keeps it, and a pin of a domain that is off without a
hold, or that has not been powered since reset, is in its reset state. -/
def State.pin (s : State) (p : Pin) : PinOut :=
  match p.domain with
  | none => ⟨.z, .none⟩
  | some d =>
    if s.aon.pstate = 4 then (if p = .shipwkN then p.atReset else ⟨.z, .none⟩)
    else if !s.groupOn p then (if d = 12 then gcbOff else ⟨.z, .none⟩)
    else if d = 0 then s.pinLive p
    else if s.inReset then p.atReset
    else if s.pinsHeld d then
      match s.aon.pinHold.find? fun (e : Pin × PinOut) => decide (e.1 = p) with
      | some e => e.2
      | none => p.atReset
    else if s.pdOn d then s.pinLive p
    else p.atReset

/-- What GPIO pin `n` drives. -/
def State.gpioPin (s : State) (n : Fin 12) : Drive := (s.pin (.gpio n)).drive

/-! ### What GPIO sees (R57, R64, R65) -/

/-- The level that pin `n`'s receiver sees: what the pin drives, else what the board puts on it; 0 in analogue mode and while group H is
absent. -/
def State.gpioLevel (s : State) (n : Fin 12) : Bool :=
  if s.gpioAnalog n || !s.groupOn (.gpio n) then false
  else
    match s.gpioPin n with
    | .low => false
    | .high => true
    | .z | .toggles => s.gpio.ext.testBit n

/-- GPIO sees edges: PD13 is on and CK06 runs (R65). -/
def State.gpioSees (s : State) : Bool := s.pdOn 13 && s.ck06

/-- The filter of pin `n` forgets what it was counting. -/
def State.gpioSteady (s : State) (n : Nat) : State := { s with gpio := { s.gpio with filt := tabSet 0 n 0 s.gpio.filt } }

/-- GPIO.IN takes level `l` at pin `n`: an edge that EDGE selects sets its event, and the one that TRIG_EN names is a snapshot trigger
(R65, R538). -/
def State.gpioTake (s : State) (n : Fin 12) (l : Bool) : State :=
  let sel := bitsOf (s.get F.GPIO.EDGE.edge) (2 * n + 1) (2 * n)
  let s := (s.gpioSteady n).putB (F.GPIO.IN.in.bit n) l
  let s := if (if l then bitAt sel 0 else bitAt sel 1) then s.irq pageGPIO n else s
  if s.get F.SNAP.TRIG_EN.gpio_sel = n.val ∧ l ≠ s.on F.SNAP.TRIG_EN.gpio_fall then s.trig 8 else s

/-- Pin `n` is sampled: a level that differs from GPIO.IN is taken at once, or with FILT after it has held for 3 ticks of CK27; in analogue
mode IN reads 0 and no edge is raised. A pin that leaves analogue mode high counts as rising (DEDUCED, log 69). -/
def State.gpioSample1 (n : Fin 12) (s : State) : State :=
  let l := s.gpioLevel n
  if s.gpioAnalog n then (s.gpioSteady n).put (F.GPIO.IN.in.bit n) 0
  else if l = s.on (F.GPIO.IN.in.bit n) then s.gpioSteady n
  else if (s.get F.GPIO.FILT.filt).testBit n then
    if tabGet 0 s.gpio.filt n = 0 then { s with gpio := { s.gpio with filt := tabSet 0 n 3 s.gpio.filt } } else s
  else s.gpioTake n l

/-- The twelve pins. -/
def gpioNums : List (Fin 12) := [0, 1, 2, 3, 4, 5, 6, 7, 8, 9, 10, 11]

/-- What follows from any change of a GPIO pin or of a register that decides what GPIO sees. -/
def State.gpioSample (s : State) : State := if s.gpioSees then foldState State.gpioSample1 gpioNums s else s

/-- A tick of CK27: a filtered level that has held for 3 is taken. -/
def State.gpioTick1 (n : Fin 12) (s : State) : State :=
  match tabGet 0 s.gpio.filt n with
  | 0 => s
  | 1 => s.gpioTake n (s.gpioLevel n)
  | k + 2 => { s with gpio := { s.gpio with filt := tabSet 0 n (k + 1) s.gpio.filt } }

/-- The filters at a tick of CK27. -/
def State.gpioTick (s : State) : State := if s.gpioSees then foldState State.gpioTick1 gpioNums s else s

/-- GPIO.IN after PD13 has powered up: the levels of the pins, with no edge (log 69). -/
def State.gpioStart (s : State) : State :=
  foldState (fun (n : Fin 12) s => s.putB (F.GPIO.IN.in.bit n) (s.gpioLevel n)) gpioNums { s with gpio := { s.gpio with filt := [] } }

end Sys2Proof.Machine
end

