-- ==== Sys2Proof/Machine/Power.lean ====
section
/-!
DEFINITION. Clocks, power domains and sleep (ch. 4) and the power path (ch. 3): the sequencer with what each domain does on its way up
and down (R81 to R83, R92, R399, R327 to R329), power states (R84 to R90), boost (R77 to R79), the AON time base and alarm (R93 to
R95), and the PWR and AON pages.
-/
namespace Sys2Proof.Machine
open Sys2Proof

/-! ### Domains -/

/-- The order of power-up; PD1, which R81 does not list, goes first (log 50). -/
def seqOrder : List Nat := [1, 7, 2, 3, 4, 5, 6, 8, 9, 10, 11, 12, 13]

def State.pdReq (s : State) (d : Nat) : Bool := s.on (F.PWR.DOMAIN.req.bit d)

/-- The sleep entry has passed the point of no return, or the Y880 sleeps: nothing but PD0, and PD1 in SENTRY WATCH, is wanted (R87). -/
def State.goingDown (s : State) : Option Nat :=
  if 2 ≤ s.aon.pstate then some (s.aon.pstate - 1) else if s.aon.committed then s.aon.entry else none

/-- PD9 is wanted: requested, by a sleep entry, or by work of the life-cycle block (R87, R136). -/
def State.wants9 (s : State) : Bool := s.pdReq 9 || s.aon.sleepHold || s.lc.job.isSome

/-- The DRBG needs the ledger: to instantiate from the seed reserve at a power-up of PD9, or to write it before a power-down (R327, R328). -/
def State.drbgNeeds8 (s : State) : Bool :=
  if s.pdOn 9 then !s.wants9 && s.ent.inst else s.wants9 && s.ent.booted && !s.ent.failed

/-- Domain `d` is wanted on: requested, held by the event log queue or a sleep entry, PD8 and PD9 by the life-cycle block, PD8 by the DRBG and
by a zeroisation whose commit words are being written, or PD10 by the entropy block while PD9 is on
(R80, R87, R136, R327, R328, R345, R546; log 50). -/
def State.wanted (s : State) (d : Nat) : Bool :=
  match s.goingDown with
  | some t => (decide (d = 1) && decide (t = 2) && s.pdReq 1) || (decide (d = 8 ∧ s.aon.pstate ≠ 4) && !s.logQueue.isEmpty)
  | none =>
    if d = 8 then s.pdReq 8 || !s.logQueue.isEmpty || s.aon.sleepHold || s.lc.job.isSome || s.drbgNeeds8 ||
      s.ldg.posted.any fun p => decide (9 ≤ p.ini)
    else if d = 9 then s.wants9
    else if d = 10 then s.pdOn 9 && s.wants9
    else s.pdReq d

/-- The buck runs whenever one of PD2 to PD13 is powered or powering up, but never in SHIP (R61): with every one of them down, as in
HIBERNATE and SENTRY WATCH, it is off. -/
def State.buckRuns (s : State) : Bool :=
  decide (s.aon.pstate ≠ 4) && (s.anyLogicOn || (match s.aon.seq with | some (d, up) => up && decide (2 ≤ d) | none => false))

/-- In HIBERNATE and SENTRY WATCH the AON regulator supplies PD0 and PD1 from VMAIN (R61). -/
def State.aonRegSupplies (s : State) : Bool := decide (s.aon.pstate = 2 ∨ s.aon.pstate = 3)

/-- What VMAIN is connected to: VBAT or VSYS, and neither in SHIP, where both switches of the power path are open (R51, R54). -/
inductive MainFrom where
  | open | vbat | vsys
  deriving DecidableEq, Repr

def State.mainFrom (s : State) : MainFrom :=
  if s.aon.pstate = 4 then .open else if s.on F.PWR.PATH.src then .vsys else .vbat

/-- What a domain needs before it can power up (R80); the buck starts with the domain (R61). -/
def State.canRise (s : State) (d : Nat) : Bool :=
  if d = 10 then s.pdOn 9 else if d = 12 then s.on (F.PWR.IOGRP.present.bit 2) else true

/-- The seed reserve cannot be written yet: PD8 is not up, or the DRBG waits for a seed (R326, R328). -/
def State.reserveWaits (s : State) : Bool := s.ent.inst && (!s.pdServes 8 || s.drbgWaits)

/-- Activity that keeps a domain on after its request is gone (R91, R92, R149, R290, R320, R329). -/
def State.pdBusy (s : State) (d : Nat) : Bool :=
  if d = 3 then s.core1.powered && s.core1.started && !s.core1.wfi
  else if d = 7 then s.flash.op.isSome
  else if d = 8 then s.ldg.cmd.isSome || !s.ldg.posted.isEmpty
  else if d = 9 then s.cry.run.isSome || !s.cry.suspended.isEmpty || decide (64 ≤ s.ent.chain) || s.reserveWaits
  else if d = 10 then decide (64 ≤ s.ent.chain) || s.reserveWaits
  else if d = 11 then s.ringsBusy || s.trl.cur.isSome
  else if d = 12 then decide (2 ≤ s.get F.GCB.STAT.state)
  else if d = 13 then s.core0.halted || s.core1.halted
  else false

/-- What a power-down waits for: with a cleared request any activity (R92), past the point of no return of a sleep entry only the
operations of flash and ledger that their chapters let end (R87, R290, R320). -/
def State.pdHeld (s : State) (d : Nat) : Bool := s.pdBusy d && (s.goingDown.isNone || decide (d = 7 ∨ d = 8))

/-- A domain's power-down waits for activity (PWR.STAT.pd_wait). The bit reads 1 as well while PD3 waits for core 1's WFI, which R91 does
not say (DESIGN CHOICE, log 72). -/
def State.pdWait (s : State) : Bool := seqOrder.any fun d => s.pdOn d && !s.wanted d && s.pdHeld d

/-- What the sequencer does next: power-ups in order, then power-downs in the reverse order (R81; log 50). -/
def State.seqNext (s : State) : Option (Nat × Bool) :=
  match seqOrder.find? fun d => !s.pdOn d && s.wanted d && s.canRise d with
  | some d => some (d, true)
  | none =>
    match seqOrder.reverse.find? fun d => s.pdOn d && !s.wanted d && !s.pdHeld d with
    | some d => some (d, false)
    | none => none

/-- The idle sequencer takes the next domain. -/
def State.seqKick (s : State) : State :=
  if s.aon.seq.isSome || decide (s.aon.pstate = 4) then s else { s with aon := { s.aon with seq := s.seqNext } }

/-- The radio port discards an armed frame, with cause DISABLED and no log entry (R458; the result ABORTED: log 62). -/
def State.radioDisable (s : State) : State :=
  let r := s.radio
  let live (fwd : Bool) (t : Option RadioTx) : Bool := t.isSome && decide (r.sending.map (·.2) ≠ some fwd)
  let s := if ((r.ring.map (·.armed)).getD false && live false r.ring) || ((r.fwd.map (·.armed)).getD false && live true r.fwd) then
      s.setReg R.RLP.TX_STAT (BitVec.ofNat 32 (rcABORTED + 2 ^ 8 * 6))
    else s
  { s with radio := { r with
    ring := if live false r.ring then none else r.ring
    fwd := if live true r.fwd then none else r.fwd } }

/-- What a domain does before it powers down: caches written back (R261, R266), the seed reserve and the chain count (R328, R329), kept
rings stored (R399), pins held (R48). -/
def State.beforeDown (s : State) (d : Nat) : State :=
  let s := if d = 2 then s.flushWays .core0 fun _ => true
    else if d = 3 then s.flushWays .core1 fun _ => true
    else if d = 9 then
      let s := if s.aon.committed then s else s.writeReserve
      if s.ent.bg then { s with ent := { s.ent with bg := false, chain := min 64 (s.ent.chain + 1) } } else s
    else if d = 1 then s.radioDisable.xoUser 3 false
    else if d = 11 then s.storeRings.radioDisable
    else s
  if holdsPins d then (s.holdPins d).put (F.PWR.HOLD.hold.bit d) 1 else s

/-- A domain powers down; what used an oscillator in it uses it no longer (R76). -/
def State.domainDown (s : State) (d : Nat) : State :=
  let s := ((s.beforeDown d).domainLost d false).put (F.PWR.DOMAIN.on.bit d) 0
  if d = 11 then (s.xoUser 1 false).xoUser 2 false else s

/-- A domain has powered up: core 0 on the warm path, core 1 on the restart path (R90, R91, R116), key slots 0 and 1, the DRBG and the
coupon scan (R327, R342, R349), the source test (R322), kept rings (R399). -/
def State.domainUp (s : State) (d : Nat) : State :=
  let s := s.put (F.PWR.DOMAIN.on.bit d) 1
  if d = 2 then s.startRom .core0 false
  else if d = 3 then s.startRom .core1 true
  else if d = 9 then
    let s := (s.entPowerUp).deriveHwSlots
    { s with ent := { s.ent with scanning := true } }
  else if d = 10 then { s.put F.ENT.STAT.src_ok 0 with ent := { s.ent with testing := true } }
  else if d = 11 then s.restoreRings
  else if d = 13 then s.gpioStart
  else s

/-- The domain in progress is finished. -/
def State.seqFinish (s : State) : State :=
  let t : State := { s with aon := { s.aon with seq := none } }
  match s.aon.seq with
  | some (d, true) => t.domainUp d
  | some (d, false) => t.domainDown d
  | none => s

/-! ### Trace and wake records -/

/-- The WAKE record, in the first cycle in which trace runs after the wake (R553). -/
def State.wakeRecord (s : State) : State :=
  if s.aon.wakeRec && s.traceOn 0x02 && s.ck06 then
    let arg := (s.reg R.PWR.WAKE_CAUSE).toNat % 65536
    let arg2 := s.get F.PWR.WAKE_CAUSE.from + 4 * s.get F.PWR.WAKE_CAUSE.abandoned
    ({ s with aon := { s.aon with wakeRec := false } }).tracePush ⟨0x02, 0, 0, arg, arg2, s.stampNow, s.aon.wakeTime⟩
  else s

/-- The wake is recorded: its events, the state it leaves, and whether it abandons an entry (PWR.WAKE_CAUSE; log 51). -/
def State.wakeCause (s : State) (events fr : Nat) (abandoned : Bool) : State :=
  let w := events % 512 + 2 ^ 16 * b2n abandoned + 2 ^ 17 * fr
  { s.setReg R.PWR.WAKE_CAUSE (BitVec.ofNat 32 w) with aon := { s.aon with wakeTime := s.aon.time, wakeRec := s.on F.TRC.CTRL.en } }

/-! ### Sleep -/

/-- A core stops in WFI: none that is powered and started runs, and none is halted (R85, R148). -/
def State.allStopped (s : State) : Bool :=
  let still (k : Core) : Bool := !(k.powered && k.started) || (k.wfi && !k.halted)
  still s.core0 && still s.core1 && s.core0.powered && !s.inReset

/-- Every stopped core resumes after its WFI. -/
def State.resumeCores (s : State) : State :=
  let go (k : Core) : Core := if k.started then { k with wfi := false } else k
  (s.modCore .core0 go).modCore .core1 go

/-- HFRC has stopped where nothing uses it (R72): its next run has no calibration count yet (PWR.HFRC.cal_done). -/
def State.hfrcGate (s : State) : State := if s.ck04 then s else s.put F.PWR.HFRC.cal_done 0

/-- The target state is entered: every domain it does not keep is down (R87 steps 4 and 5, R79). -/
def State.enterSleep (s : State) (t : Nat) : State :=
  { s with aon := { s.aon with entry := none, committed := false, sleepHold := false, seq := none, pstate := t + 1
                               vsysDebounce := s.aon.vsysDebounce && decide (t ≠ 3) } }.hfrcGate

/-- DOZE is entered (R85, R86). -/
def State.enterDoze (s : State) : State := { s with aon := { s.aon with pstate := 1 } }.hfrcGate

/-- A committed entry ends when the domains are down (R87). -/
def State.finishEntry (s : State) : State :=
  match s.aon.entry with
  | some t =>
    if s.aon.committed && s.aon.seq.isNone && s.seqNext.isNone && !(seqOrder.any fun d => s.pdOn d && !decide (d = 1 ∧ t = 2)) then
      s.enterSleep t
    else s
  | none => s

/-- The SLEEP record before the state is entered (R553). -/
def State.sleepRecord (s : State) (t : Nat) : State := s.trace 0x01 0 .field t (s.get F.PWR.DOMAIN.on)

/-- The entry starts when every powered core has stopped (R85, R86, R87 step 1). -/
def State.startEntry (s : State) : State :=
  let t := s.get F.PWR.SLEEP.target
  if t = 0 then (s.sleepRecord 0).enterDoze
  else if !s.on F.PWR.SLEEP.glass_ok then
    (((s.inc F.PWR.SLEEP.refused).irq pagePWR 5).sleepRecord 0).enterDoze
  else
    let s := s.sleepRecord t
    let off (d : Nat) : Nat := if s.pdOn d then 0 else 2 ^ d
    { s with aon := { s.aon with entry := some t, committed := false, writing := false, raised := off 8 + off 9, sleepHold := true } }

/-- The power-down of PD9 waits for a noise reseed, or for the DRBG (R326, R329). -/
def State.pdBusyChain (s : State) : Bool := decide (64 ≤ s.ent.chain) || s.reserveWaits

/-- SLEEP_ENTRY: the next phase of an entry, which waits for a running sweep (R172): it starts; with PD8 and PD9 up the write of the seed
reserve starts; the write ends with the Cloche's reseed (R357), and the entry is past the point of no return; with the domains down the state is entered. -/
def State.sleepEntry (s : State) : State :=
  if s.aon.pstate ≠ 0 ∨ s.sweep.isSome then s
  else
    match s.aon.entry with
    | none => if s.allStopped then (s.startEntry).seqKick else s
    | some _ =>
      if s.aon.committed then s.seqKick.finishEntry
      else if s.aon.writing then
        let s := s.writeReserve.cloReseed
        ({ s with aon := { s.aon with committed := true, writing := false, sleepHold := false } }).seqKick
      else if s.pdServes 8 && s.pdServes 9 && !s.pdBusyChain then { s with aon := { s.aon with writing := true } }
      else s.seqKick

def execSleepEntry (s : State) : Out := .next s.sleepEntry.settle

/-- An INTC line is enabled to a core stopped in WFI above its mask level (R89). -/
def State.coreCalled (s : State) (c : CoreId) : Bool :=
  (s.core c).started && (s.core c).wfi && (match s.bestLine c (s.worldOf c) with | some n => decide ((s.core c).mask < s.linePrio n) | none => false)

/-- Of the events, those that leave power state `p` (R89): bits 0 to 6 by WAKE_EN, 7 an INTC line, 8 a Cloche response. -/
def State.wakeEvents (s : State) (p events : Nat) : Nat :=
  let rows := if p ≤ 1 then 0x1FF else if p = 2 then 0x11F else if p = 3 then 0x17F else 0
  let intc := if s.coreCalled .core0 || s.coreCalled .core1 then 0x80 else 0
  events &&& rows &&& (s.get F.PWR.WAKE_EN.en ||| intc ||| 0x100)

/-- WAKE_EVENT's effect (R88 to R90): the entry is abandoned or the event held, a sleep's wake is recorded and will follow, and in RUN a
stopped core with a line above its mask level resumes. An entry is abandoned by the events that leave DOZE, whatever its target (DESIGN
CHOICE, log 72: R88 names no row of R89's table); a reserve write in progress is completed, and PD8 and PD9 stay on where the entry powered
them up. -/
def State.wakeEvent (s : State) (events : Nat) : State :=
  if s.aon.pstate = 0 then
    match s.aon.entry with
    | none =>
      let go (c : CoreId) (s : State) : State :=
        if bitAt events 7 && s.coreCalled c then s.modCore c fun k => { k with wfi := false } else s
      go .core1 (go .core0 s)
    | some t =>
      if s.aon.committed then
        let e := s.wakeEvents (t + 1) events
        let at' := if s.aon.heldWake = 0 then s.aon.time else s.aon.wakeTime
        { s with aon := { s.aon with heldWake := s.aon.heldWake ||| e, wakeTime := at' } }
      else
        let e := s.wakeEvents 1 events
        if e = 0 then s
        else
          let s := if s.aon.writing then s.writeReserve else s
          let keep (d : Nat) (s : State) : State :=
            if s.aon.raised.testBit d && (s.pdOn d || s.pdRising d) then s.put (F.PWR.DOMAIN.req.bit d) 1 else s
          let s := keep 9 (keep 8 s)
          let s := (s.wakeCause e 0 true).irq pagePWR 4
          let s := { s with aon := { s.aon with entry := none, writing := false, sleepHold := false } }
          (s.resumeCores).wakeRecord
  else
    let e := s.wakeEvents s.aon.pstate events
    if e = 0 then s
    else if s.aon.heldWake = 0 then
      let s := s.wakeCause e (s.aon.pstate - 1) false
      { s with aon := { s.aon with heldWake := e } }
    else
      let e := s.aon.heldWake ||| e
      let s := s.setReg R.PWR.WAKE_CAUSE (BitVec.ofNat 32 (e % 512 + 2 ^ 17 * (s.aon.pstate - 1)))
      { s with aon := { s.aon with heldWake := e } }

/-- WAKE_EVENT: the wake events of one cycle. -/
def execWakeEvent (events : BitVec 9) (s : State) : Out := .next (s.wakeEvent events.toNat).settle

/-- DOZE_WAKE (R90). -/
def execDozeWake (s : State) : Out :=
  if s.aon.pstate = 1 ∧ s.aon.heldWake ≠ 0 then
    let s := { s with aon := { s.aon with pstate := 0, heldWake := 0 } }
    .next (s.resumeCores.wakeRecord).settle
  else .next s

/-- HIBERNATE_WAKE (R90): every sweep-done bit is set (R173); the domains of WAKE_DOMAINS are requested; core 0 starts when PD2 is up. A held event wakes at once from the
state that the entry reached (R88). -/
def State.hibernateWake (s : State) : State :=
  let s := s.setReg R.PWR.WAKE_CAUSE (BitVec.ofNat 32 (s.aon.heldWake % 512 + 2 ^ 17 * (s.aon.pstate - 1)))
  let keep1 := if s.pdOn 1 then 2 else 0
  let s := s.put F.PWR.DOMAIN.req (s.get F.PWR.WAKE_DOMAINS.domains ||| 0x5 ||| keep1)
  let s := { s with sweepDone := 2 ^ 64 - 1, sweep := none }
  ({ s with aon := { s.aon with pstate := 0, heldWake := 0, wakeRec := s.on F.TRC.CTRL.en } }).seqKick

def execHibernateWake (s : State) : Out :=
  if (s.aon.pstate = 2 ∨ s.aon.pstate = 3) ∧ s.aon.heldWake ≠ 0 then .next s.hibernateWake.settle else .next s

/-! ### Sequencer events -/

/-- After a domain the sequencer takes the next, and a committed entry may end. -/
def State.seqDone (s : State) : State := (({ s with aon := { s.aon with seq := none } }).seqKick.finishEntry).hfrcGate

/-- DOMAIN_POWER_UP: the domain in progress is up. -/
def State.powerUpDone (s : State) : State :=
  let s := s.seqKick
  match s.aon.seq with
  | some (d, true) => (s.domainUp d).seqDone.wakeRecord
  | _ => s

/-- DOMAIN_POWER_DOWN: the domain in progress is down. -/
def State.powerDownDone (s : State) : State :=
  let s := s.seqKick
  match s.aon.seq with
  | some (d, false) => (s.domainDown d).seqDone
  | _ => s

def execDomainPowerDown (s : State) : Out := .next s.powerDownDone.settle

/-- PD_WAIT_END: the sequencer takes the domain whose activity has stopped (R92). -/
def execPdWaitEnd (s : State) : Out := .next s.seqKick

/-! ### Oscillators and boost -/

/-- HFXO_STABLE (R76). -/
def execHfxoStable (s : State) : Out := if s.get F.PWR.XO.users = 0 then .next s else .next (s.put F.PWR.XO.hfxo_ok 1)

/-- PLL_LOCK (R76): boost or a REFCLK output waits for it. -/
def execPllLock (s : State) : Out :=
  if s.on F.PWR.XO.hfxo_ok && (s.on F.PWR.BOOST.req || s.refclkWanted) then .next (s.put F.PWR.XO.pll_lock 1) else .next s

/-- LFXO_STABLE (R75): once after a power-on reset; after a loss only the next power-on reset returns to LFXO. -/
def execLfxoStable (s : State) : Out :=
  if s.aon.pstate ≠ 4 ∧ s.on F.PWR.XO.lf_src = false then .next (s.put F.PWR.XO.lfxo_ok 1) else .next s

/-- HFRC_CAL_COUNT (R74): `miss` tells that the count misses 96 MHz by more than a step, `slow` to which side. The trim stops at its
ends (log 52). -/
def execHfrcCalCount (miss slow : Bool) (s : State) : Out :=
  if s.on F.PWR.HFRC.cal_en && s.ck04 then
    let f := s.get F.PWR.HFRC.fine
    let f := if !miss then f else if slow then min 255 (f + 1) else f - 1
    .next ((s.put F.PWR.HFRC.fine f).put F.PWR.HFRC.cal_done 1)
  else .next s

/-- A boost request (R77, R78). -/
def State.boostReq (s : State) : State :=
  if !s.on F.PWR.PATH.src then s.inc F.PWR.BOOST.refused
  else { s.put F.PWR.BOOST.req 1 with aon := { s.aon with vcore := .rising } }.xoUser 4 true

/-- BOOST_SWITCH: VCORE has reached 0.9 V and the cores go to 192 MHz (R77); the Cloche's high and low windows of their clocks are suspended
for the window in progress (R355). -/
def execBoostSwitch (s : State) : Out :=
  if s.on F.PWR.BOOST.req && s.on F.PWR.XO.hfxo_ok && s.on F.PWR.XO.pll_lock then
    .next { s.put F.PWR.BOOST.active 1 with aon := { s.aon with vcore := .high, winSkip := true } }
  else .next s

/-- A step of VCORE back to 0.8 V ends after a time that the spec does not state: a free value at each tick (log 6). -/
def State.vcoreTick (s : State) : State :=
  if s.aon.vcore = .falling then
    let (n, s) := s.draw
    if Config.freeNat n % 2 = 1 then { s with aon := { s.aon with vcore := .low } } else s
  else s

/-! ### Power path -/

/-- Update the power path; gaining VSYS is wake event 3 (R51, R53, R89). -/
def State.pathChange (s : State) : State :=
  let t := s.pathUpdate
  if t.on F.PWR.PATH.src && !s.on F.PWR.PATH.src then t.wakeEvent 8 else t

/-- VSYS_RISE: VSYS passes its rising threshold and the debounce starts (R51); in SHIP the path stays open (R54). -/
def execVsysRise (s : State) : Out :=
  if s.aon.pstate = 4 ∨ s.on F.PWR.PATH.vsys_ok then .next s else .next { s with aon := { s.aon with vsysDebounce := true } }

/-- VSYS_GAINED: VSYS has stayed up for t_SYSDEB (R51). -/
def execVsysGained (s : State) : Out :=
  if s.aon.vsysDebounce && decide (s.aon.pstate ≠ 4) then
    let s := { s.put F.PWR.PATH.vsys_ok 1 with aon := { s.aon with vsysDebounce := false } }
    .next s.pathChange.settle
  else .next s

/-- VSYS_LOST (R51); in SHIP the path stays open (R54). -/
def execVsysLost (s : State) : Out :=
  if s.aon.pstate = 4 then .next s
  else
    let s := { s.put F.PWR.PATH.vsys_ok 0 with aon := { s.aon with vsysDebounce := false } }
    .next s.pathChange.settle

/-- VBAT_OK_CHANGE: VBAT crosses V_BATDET; without it the sample reads 0 (R51; PWR.VBAT). -/
def execVbatOkChange (ok : Bool) (s : State) : Out :=
  let s := s.putB F.PWR.PATH.vbat_ok ok
  .next (if ok then s else s.put F.PWR.VBAT.vbat_mv 0)

/-- VBAT_SAMPLE (R63): without VBAT nothing is set. -/
def execVbatSample (mv : BitVec 12) (s : State) : Out :=
  if s.aon.pstate = 4 then .next s
  else if !s.on F.PWR.PATH.vbat_ok then .next (s.put F.PWR.VBAT.vbat_mv 0)
  else
    let v := mv.toNat
    let low := s.get F.PWR.VBAT.low_mv
    let s := s.put F.PWR.VBAT.vbat_mv v
    if v < low then
      if s.aon.vbatLowArmed then .next ({ s.irq pagePWR 2 with aon := { s.aon with vbatLowArmed := false } }).settle else .next s
    else if low + 50 ≤ v then .next ({ s with aon := { s.aon with vbatLowArmed := true } }).settle
    else .next s

/-! ### AON time base and alarm -/

/-- The compare value. -/
def State.alarmCmp (s : State) : Nat := s.getPair R.AON.ALARM_LO R.AON.ALARM_HI

/-- The alarm at a tick (R94, R95): at equality, or where it was armed late. -/
def State.alarmFire (s : State) : State :=
  if s.on F.AON.ALARM_CTRL.en && (s.aon.alarmDue || decide (s.alarmCmp = s.aon.time)) then
    let s := (({ s with aon := { s.aon with alarmDue := false } }).put F.AON.ALARM_CTRL.fired 1).irq pageAON 0
    let s := if s.on F.AON.ALARM_CTRL.periodic then
        let c := (s.alarmCmp + (s.reg R.AON.PERIOD).toNat) % 2 ^ 48
        (s.setReg R.AON.ALARM_LO (BitVec.ofNat 32 c)).setReg R.AON.ALARM_HI (BitVec.ofNat 32 (c / 2 ^ 32))
      else s.put F.AON.ALARM_CTRL.en 0
    (s.trig 6).wakeEvent 1
  else s

/-- ALARM_FIRE. -/
def execAlarmFire (s : State) : Out := .next s.alarmFire.settle

/-- A write to the AON page's own registers (R94, R95). -/
def aonWrite (x : Wr) (s : State) : State :=
  if x.a = R.AON.ALARM_LO ∨ x.a = R.AON.ALARM_HI then
    if s.on F.AON.ALARM_CTRL.en then s.blockCause x 0x11 else s.storeNew x
  else if x.a = R.AON.ALARM_CTRL then
    let s := s.storeNew x
    if !s.on F.AON.ALARM_CTRL.en then { s with aon := { s.aon with alarmDue := false } }
    else if F.AON.ALARM_CTRL.en.get x.old = 0 ∧ s.alarmCmp ≤ s.aon.time then
      { s.blockCause x 0x10 with aon := { s.aon with alarmDue := true } }
    else s
  else if x.a = R.AON.PERIOD then s.storeNew (if x.new.toNat < 2 then { x with new := 2 } else x)
  else s.storeNew x

/-- A read of TIME_LO latches the high bits for its initiator (R93). -/
def State.timeLo (s : State) (ini : Ini) : Word × State :=
  (BitVec.ofNat 32 s.aon.time, { s with aon := { s.aon with timeLatch := tabSet 0 (iniCode ini) (s.aon.time / 2 ^ 32) s.aon.timeLatch } })

/-- TIME_HI as an initiator reads it. -/
def State.timeHi (s : State) (ini : Ini) : Word := BitVec.ofNat 32 (tabGet 0 s.aon.timeLatch (iniCode ini))

/-! ### The PWR page -/

/-- A write to the PWR page's own registers. A 1 written to a bit of HOLD while its domain is off is ignored, as R83 keeps the hold until
after the power-up (DESIGN CHOICE, log 72). -/
def pwrWrite (x : Wr) (s : State) : State :=
  if x.a = R.PWR.PATH then
    let s := s.storeNew x
    (if x.on F.PWR.PATH.clr then s.put F.PWR.PATH.switch_cnt 0 else s).pathChange
  else if x.a = R.PWR.BUCK then s.storeNew (if 2 ≤ F.PWR.BUCK.mode.get x.new then x.keep F.PWR.BUCK.mode else x)
  else if x.a = R.PWR.SLEEP then
    let s := if 4 ≤ F.PWR.SLEEP.target.get x.new then (s.storeNew (x.keep F.PWR.SLEEP.target)).blockCause x 0x11 else s.storeNew x
    if x.on F.PWR.SLEEP.clr then s.put F.PWR.SLEEP.refused 0 else s
  else if x.a = R.PWR.DOMAIN then (s.storeNew x).seqKick
  else if x.a = R.PWR.HOLD then
    let up := F.PWR.HOLD.hold.put (s.get F.PWR.DOMAIN.on) 0
    (s.setReg x.a (x.old &&& ~~~ (x.act &&& up))).gpioSample
  else if x.a = R.PWR.XO then
    let s := s.storeNew x
    s.xoUser 0 (s.on F.PWR.XO.fw_req)
  else if x.a = R.PWR.BOOST then
    let s := s.storeNew (x.keep F.PWR.BOOST.req)
    let s := if x.on F.PWR.BOOST.clr then s.put F.PWR.BOOST.refused 0 else s
    let want := F.PWR.BOOST.req.get x.new
    if want = 1 ∧ F.PWR.BOOST.req.get x.old = 0 then s.boostReq
    else if want = 0 ∧ F.PWR.BOOST.req.get x.old = 1 then s.boostOff
    else s
  else if x.a = R.PWR.OFFACC then (if x.on F.PWR.OFFACC.clr then s.put F.PWR.OFFACC.count 0 else s)
  else s.storeNew x

end Sys2Proof.Machine
end

