-- ==== Sys2Proof/Machine/Cartridge.lean ====
section
/-!
DEFINITION. The Glouc cartridge bus host (R459 to R489, R494): presence and supply, descriptors, command frames, responses and their
codes, and the GCB page. A cartridge is outside the machine: what it sends is an operand.
-/
namespace Sys2Proof.Machine
open Sys2Proof

/-! ### Host states (R487) -/

def gcbABSENT : Nat := 0
def gcbOFF : Nat := 1
def gcbPOWERING : Nat := 2
def gcbON : Nat := 3
def gcbSTOPPED : Nat := 4

/-- The host state: with the switch open it follows from presence (R461). -/
def State.gcbHost (s : State) : Nat :=
  if 2 ≤ s.get F.GCB.STAT.state then s.get F.GCB.STAT.state else if s.gcb.present then gcbOFF else gcbABSENT

/-- VDDIO_C is present. -/
def State.vddioC (s : State) : Bool := s.on (F.PWR.IOGRP.present.bit 2)

/-- The switch opens: the host leaves its powered states, and nothing holds DAT0. -/
def State.gcbOpen (s : State) : State := (s.put F.GCB.STAT.state 0).put F.GCB.STAT.busy 0

/-- The host powers off once a write of pwr 0 finds no descriptor in progress and DAT0 free (R487). -/
def State.gcbOffCheck (s : State) : State :=
  if !s.on F.GCB.CTRL.pwr && decide (2 ≤ s.get F.GCB.STAT.state) &&
      (decide (s.get F.GCB.STAT.state ≠ gcbON) || (s.gcb.job.isNone && !s.on F.GCB.STAT.busy)) then s.gcbOpen
  else s

/-! ### Descriptors (R479 to R481) -/

/-- Commands that move data to and from the buffer, and those without data (R475). -/
def cartReads (i : Nat) : Bool := decide (i = 3 ∨ i = 6 ∨ i = 7 ∨ i = 17)
def cartWrites (i : Nat) : Bool := decide (i = 8 ∨ i = 9 ∨ i = 16 ∨ i = 18)
def cartPlain (i : Nat) : Bool := decide (i = 0 ∨ i = 1 ∨ i = 2 ∨ i = 4 ∨ i = 5 ∨ i = 10)

/-- Bytes of one data block of a command (R470). -/
def cartBlockLen (i : Nat) : Nat := if i = 3 then 32 else if i = 18 then 64 else 512

/-- The command index of a descriptor. -/
def Desc.cartIndex (d : Desc) : Nat := d.cbyte % 64

/-- R480: the code of a descriptor before anything is sent. -/
def State.cartJudge (s : State) (d : Desc) : Nat :=
  let i := d.cartIndex
  let n := s.get F.GCB.COUNT.count
  if 64 ≤ d.cbyte then rcRANGE
  else if cartPlain i then (if d.dirIn && decide (d.len = 4) then rcOK else rcRANGE)
  else if !(cartReads i && d.dirIn) && !(cartWrites i && !d.dirIn) then rcRANGE
  else if i = 7 ∨ i = 9 then (if d.len % 512 = 0 ∧ (n = 0 ∨ d.len = 512 * n) then rcOK else rcRANGE)
  else if d.len = cartBlockLen i then rcOK else rcRANGE

/-- A CART descriptor completes (R482, R486, R487). -/
def State.cartDone (s : State) (n : Nat) (d : Desc) (code ret : Nat) : State :=
  let index := s.cidx n
  let s := s.completeDesc n d code ret 0 d.w3 d.cbyte
  let s := { s with gcb := { s.gcb with job := none } }.ringPaused n
  let s := if code = rcCRC then s.inc F.GCB.CNT0.crc else if code = rcTIMEOUT then s.inc F.GCB.CNT1.timeout
    else if code = rcSTATE then s.inc F.GCB.CNT1.state else s
  let s := if code ≠ rcOK ∧ s.get F.GCB.STAT.state = gcbON then
      let w := n + 2 ^ 7 + 2 ^ 8 * index + 2 ^ 24 * code
      ((s.put F.GCB.STAT.state gcbSTOPPED).setReg R.GCB.STOP_AT (BitVec.ofNat 32 w)).irq pageGCB 1
    else s
  s.gcbOffCheck

/-- The Trellis offers a descriptor, with the code of R381 (R480, R487). -/
def State.cartOffer (s : State) (n : Nat) (d : Desc) (code : Nat) : State :=
  if code ≠ rcOK then s.cartDone n d code 0
  else if s.gcbHost ≤ gcbOFF then s.completeDesc n d rcABSENT 0 0 d.w3 d.cbyte
  else
    let c := s.cartJudge d
    if c ≠ rcOK then s.cartDone n d c 0
    else { s with gcb := { s.gcb with job := some ⟨n, d, false, false, false, none⟩ } }

/-- The host takes a descriptor now (R485): it is powered, neither POWERING nor STOPPED, and serves none. -/
def State.cartReady (s : State) : Bool :=
  s.pdOn 12 && s.gcb.job.isNone && decide (s.gcbHost ≠ gcbPOWERING) && decide (s.gcbHost ≠ gcbSTOPPED)

/-! ### Command frames (R465, R466) -/

/-- A command frame. -/
def cartFrame (index arg : Nat) : List Byte :=
  let b := bytesBE 1 (64 + index) ++ bytesBE 4 arg
  b ++ bytesBE 1 (2 * crc7 b + 1)

/-- One frame is sent; the answer is the frame. -/
def State.cartSendFrame (s : State) (index arg : Nat) : State := (s.inc F.GCB.CNT0.commands).answer (cartFrame index arg) 0

/-- Send the command frame of the descriptor in progress, where its index is `i`; `again` for a HELLO that is sent again (R475, R481,
R482, R484, R489). -/
def State.cartSend (s : State) (i : Nat) (again : Bool) : State :=
  match s.gcb.job with
  | none => s
  | some j =>
    if j.sent || j.held.isSome || decide (j.retry ≠ again) || decide (j.desc.cartIndex ≠ i) || (s.on F.GCB.STAT.busy && decide (i ≠ 4)) ||
        decide (s.get F.GCB.STAT.state ≠ gcbON) then s
    else
      let s := s.cartSendFrame i j.desc.w3
      if i = 0 then
        let s := ((s.put F.GCB.COUNT.count 0).put F.GCB.STAT.width 0).put F.GCB.STAT.speed 0
        s.cartDone j.ring j.desc rcOK 0
      else
        let multi := decide (i = 7 ∨ i = 9)
        let stop := multi && !s.on F.GCB.COUNT.count
        let s := if multi then s.put F.GCB.COUNT.count 0 else s
        { s with gcb := { s.gcb with job := some { j with sent := true, stop := stop } } }

def execCartReset (s : State) : Out := .next (s.cartSend 0 false).settle
def execHello (s : State) : Out := .next (s.cartSend 1 false).settle
def execSetBus (s : State) : Out := .next (s.cartSend 2 false).settle
def execReadId (s : State) : Out := .next (s.cartSend 3 false).settle
def execCartStatus (s : State) : Out := .next (s.cartSend 4 false).settle
def execSetCount (s : State) : Out := .next (s.cartSend 5 false).settle
def execReadSingle (s : State) : Out := .next (s.cartSend 6 false).settle
def execReadMulti (s : State) : Out := .next (s.cartSend 7 false).settle
def execWriteSingle (s : State) : Out := .next (s.cartSend 8 false).settle
def execWriteMulti (s : State) : Out := .next (s.cartSend 9 false).settle
def execCartStop (s : State) : Out := .next (s.cartSend 10 false).settle
def execRpaRequest (s : State) : Out := .next (s.cartSend 16 false).settle
def execRpaResult (s : State) : Out := .next (s.cartSend 17 false).settle
def execLockCtrl (s : State) : Out := .next (s.cartSend 18 false).settle

/-- HELLO_RETRY: HELLO is sent again after an answer with ready 0 (R482). -/
def execHelloRetry (s : State) : Out := .next (s.cartSend 1 true).settle

/-! ### Responses (R482, R483, R494) -/

/-- The share of a block that line `k` carries, in order (R471). -/
def lineBits (wide : Bool) (k : Nat) (b : List Byte) : List Bool :=
  (b.map fun x => if wide then [x.toNat.testBit (4 + k), x.toNat.testBit k] else (numsFrom 8 0).map fun i => x.toNat.testBit (7 - i)).flatten

/-- A block of `n` bytes whose lines all have their CRC right (R472). -/
def cartBlockGood (wide : Bool) (n : Nat) (b : CartBlock) : Bool :=
  let lines := if wide then 4 else 1
  decide (b.data.length = n) && decide (b.crc.map (·.toNat) = (numsFrom lines 0).map fun k => crc16Line (lineBits wide k b.data))

/-- A response frame's CRC-7 and end bit hold (R465, R466). -/
def frameGood (f : BitVec 48) : Bool :=
  decide (crc7 (bytesBE 5 (f.toNat / 256)) = f.toNat / 2 % 128) && decide (f.toNat % 2 = 1)

/-- The status word of a response frame. -/
def frameStatus (f : BitVec 48) : Nat := f.toNat / 256 % 2 ^ 32

/-- Lines 5 to 11 of R482: the code that a status word asks for. -/
def statusCode (w : Nat) : Nat :=
  if w.testBit 30 || w.testBit 29 then rcRANGE
  else if w.testBit 28 then rcSTATE
  else if w.testBit 31 then rcBOUNDS
  else if w.testBit 27 then rcLOCKED
  else if w.testBit 26 || w.testBit 23 then rcAUTH
  else if w.testBit 24 then rcWORN
  else if w.testBit 25 then rcABORTED
  else rcOK

/-- The leading elements that `p` accepts. -/
def prefixOf {α : Type} (p : α → Bool) : List α → List α
  | [] => []
  | a :: as => if p a then a :: prefixOf p as else []

/-- The end of the descriptor in progress, with what the cartridge has sent; `forced` is the code of lines 1 to 3 of R482 where one of
them applies. Nothing where the reply is not complete and no such line applies. -/
def State.cartReply (s : State) (forced : Option Nat) (r : CartReply) (g : Integ) : State :=
  match s.gcb.job with
  | none => s
  | some j =>
    let d := { j.desc with back := g }
    let i := d.cartIndex
    let w := s.ringWorld j.ring
    let wide := decide (s.get F.GCB.STAT.width = 1)
    let heard := match r.frame with | some f => frameGood f | none => false
    let word := match r.frame with | some f => frameStatus f | none => 0
    let sc := if heard then statusCode word else rcOK
    let s := if heard then s.setReg R.GCB.RESP (BitVec.ofNat 32 word) else s
    let blk := cartBlockLen i
    let need := d.len / blk
    let badFrame := r.frame.isSome && !heard
    if !j.sent || j.held.isSome || (forced.isNone && r.frame.isNone) then
      match forced with
      | some c => s.cartDone j.ring d c (match j.held with | some h => h.2 | none => 0)
      | none => s
    else if cartPlain i then
      let (s, k) := if heard && !(decide (i = 1 ∧ sc = rcOK) && !word.testBit 15) then
          State.dmaWriteLen .cart w g 5 s d.w0 (bytesLE 4 word) else (s, 0)
      let code := match forced with
        | some c => c
        | none => if badFrame then rcCRC else if sc ≠ rcOK then sc else if k < 4 ∧ ¬ (i = 1 ∧ word.testBit 15 = false) then rcABORTED else rcOK
      if code = rcOK ∧ i = 1 ∧ word.testBit 15 = false then
        { s with gcb := { s.gcb with job := some { j with sent := false, retry := true } } }
      else
        let arg := d.w3
        let s := if code = rcOK ∧ i = 2 then (s.put F.GCB.STAT.width (arg % 2)).put F.GCB.STAT.speed (arg / 2 % 4)
          else if code = rcOK ∧ i = 5 then s.put F.GCB.COUNT.count (arg % 65536)
          else s
        s.cartDone j.ring d code k
    else if cartReads i then
      let got := prefixOf (cartBlockGood wide blk) (r.blocks.take need)
      let badBlock := decide (got.length < (r.blocks.take need).length)
      let (s, k) := State.dmaWriteLen .cart w g (d.len + 1) s d.w0 (got.map (·.data)).flatten
      let short := decide (got.length < need) && (decide (sc = rcOK) || decide (i = 17))
      let code := match forced with
        | some c => c
        | none =>
          if badFrame || badBlock then rcCRC
          else if short then rcTIMEOUT
          else if sc ≠ rcOK then sc
          else if k < blk * need then rcABORTED else rcOK
      let s := if i = 7 ∧ forced.isNone ∧ (code = rcCRC ∨ code = rcABORTED ∨ (code = rcOK ∧ j.stop)) then s.cartSendFrame 10 0 else s
      s.cartDone j.ring d code k
    else
      let sends := heard && decide (sc = rcOK)
      let waits := sends && forced.isNone && s.dmaStalls d.w0 d.len
      let (s, data, ok) := if sends && !waits then s.dmaLoad .cart w g d.w0 d.len else (s, [], true)
      let toks := r.tokens.take need
      let good := (prefixOf (fun t => decide (t = CartToken.accepted)) toks).length
      let bad := toks[good]?
      let ret := if ok then blk * good else min data.length (blk * good)
      if waits || (forced.isNone && sends && ok && bad.isNone && decide (good < need)) then s
      else
        let code := match forced with
          | some c => c
          | none =>
            if badFrame || decide (bad = some .crcFailure) then rcCRC
            else if sc ≠ rcOK then sc
            else if !ok || decide (bad = some .progFailure) then rcABORTED
            else rcOK
        let s := if i = 9 ∧ forced.isNone ∧ (code = rcCRC ∨ code = rcABORTED ∨ (code = rcOK ∧ j.stop)) then s.cartSendFrame 10 0 else s
        let s := if code = rcOK then s.put F.GCB.STAT.busy 1 else s
        if code = rcOK && s.on F.GCB.CTRL.busy_wait then
          { s with gcb := { s.gcb with job := some { j with held := some (code, ret) } } }
        else s.cartDone j.ring d code ret

/-- CART_RESPONSE: the cartridge has answered, with its data or tokens. -/
def execCartResponse (r : CartReply) (g : Integ) (s : State) : Out :=
  .next (if r.frame.isSome then s.cartReply none r g else s).settle

/-- CART_TIMEOUT (R482 line 3): the cartridge has stayed silent, or held DAT0 low, past the limit. -/
def execCartTimeout (r : CartReply) (g : Integ) (s : State) : Out := .next (s.cartReply (some rcTIMEOUT) r g).settle

/-- CART_BUSY_END (R484): the cartridge releases DAT0. -/
def State.cartBusyEnd (s : State) : State :=
  let s := s.put F.GCB.STAT.busy 0
  match s.gcb.job with
  | some j =>
    match j.held with
    | some (code, ret) => s.cartDone j.ring j.desc code ret
    | none => s
  | none => s.gcbOffCheck

def execCartBusyEnd (s : State) : Out := .next (if s.pdOn 12 then s.cartBusyEnd else s).settle

/-! ### Presence and supply (R60, R461, R462, R487, R488) -/

/-- CARTRIDGE_INSERT (R461): declared in PD0; the page shows it while PD12 is on; wake event 1. -/
def State.cartInsert (s : State) : State :=
  if s.gcb.present then s
  else
    let s := { s with gcb := { s.gcb with present := true } }
    (if s.pdOn 12 then s.irq pageGCB 2 else s).wakeEvent 2

def execCartridgeInsert (s : State) : Out := .next s.cartInsert.settle

/-- CARTRIDGE_REMOVE (R461, R462, R487): a descriptor in progress ends with ABORTED, after what the cartridge had sent. -/
def State.cartRemove (s : State) (r : CartReply) (g : Integ) : State :=
  if !s.gcb.present then s
  else
    let s := { s with gcb := { s.gcb with present := false } }
    let s := if s.pdOn 12 then
        let s := (((s.gcbOpen.put F.GCB.CTRL.pwr 0).inc F.GCB.CNT1.removals).irq pageGCB 3)
        s.cartReply (some rcABORTED) r g
      else s
    s.wakeEvent 2

def execCartridgeRemove (r : CartReply) (g : Integ) (s : State) : Out := .next (s.cartRemove r g).settle

/-- GCB_OVERCURRENT (R60, R487). -/
def State.gcbOvercurrent (s : State) (r : CartReply) (g : Integ) : State :=
  if 2 ≤ s.get F.GCB.STAT.state then
    let s := (((s.gcbOpen.put F.GCB.CTRL.pwr 0).put F.GCB.STAT.oc 1).inc F.GCB.CNT1.oc).irq pageGCB 4
    s.cartReply (some rcABORTED) r g
  else s

def execGcbOvercurrent (r : CartReply) (g : Integ) (s : State) : Out := .next (s.gcbOvercurrent r g).settle

/-- GCB_POWER_READY (R488). -/
def execGcbPowerReady (s : State) : Out :=
  if s.get F.GCB.STAT.state = gcbPOWERING then .next ((s.put F.GCB.STAT.state gcbON).irq pageGCB 0).settle else .next s

/-! ### The GCB page -/

/-- A control write that R487 marks STATE. -/
def State.gcbRefuse (s : State) (x : Wr) (cause : Nat) : State := (s.blockCause x cause).inc F.GCB.CNT1.state

/-- A write of CTRL (R487): oc_clr first, then pwr, then resume (log 64). -/
def State.gcbControl (s : State) (x : Wr) : State :=
  let s := if x.on F.GCB.CTRL.oc_clr then s.put F.GCB.STAT.oc 0 else s
  let rise := decide (F.GCB.CTRL.pwr.get x.new = 1) && decide (F.GCB.CTRL.pwr.get x.old = 0)
  let refuse := rise && (decide (s.gcbHost = gcbABSENT) || (decide (s.gcbHost = gcbOFF) && (s.on F.GCB.STAT.oc || !s.vddioC)))
  let s := if refuse then (s.storeNew (x.keep F.GCB.CTRL.pwr)).gcbRefuse x 0x10 else s.storeNew x
  let s := if rise && !refuse && decide (s.gcbHost = gcbOFF) then
      ((s.put F.GCB.STAT.state gcbPOWERING).put F.GCB.STAT.width 0).put F.GCB.STAT.speed 0 else s
  let s := s.gcbOffCheck
  if x.on F.GCB.CTRL.resume then
    if s.gcbHost = gcbSTOPPED then s.put F.GCB.STAT.state gcbON
    else s.gcbRefuse (if refuse then { x with recorded := true } else x) 0x11
  else s

/-- A write to the GCB page's own registers. -/
def gcbWrite (x : Wr) (s : State) : State :=
  if x.a = R.GCB.CTRL then s.gcbControl x
  else if x.a = R.GCB.TMO then
    let x := if F.GCB.TMO.read.get x.new = 0 then x.with F.GCB.TMO.read 1 else x
    s.storeNew (if F.GCB.TMO.busy_ms.get x.new = 0 then x.with F.GCB.TMO.busy_ms 1 else x)
  else if x.a = R.GCB.CNTCLR then
    if x.on F.GCB.CNTCLR.clr then (s.setReg R.GCB.CNT0 0).setReg R.GCB.CNT1 0 else s
  else s.storeNew x

/-- GCB registers that a read computes. DAT0 is high while the host's pull-ups are on and no cartridge holds it (R460, R488). -/
def gcbRead (a : Nat) (s : State) : Word :=
  if a = R.GCB.STAT then
    let dat0 := decide (gcbON ≤ s.gcbHost) && !s.on F.GCB.STAT.busy
    let w := F.GCB.STAT.state.put s.gcbHost (s.reg a)
    F.GCB.STAT.vddio_c.put (b2n s.vddioC) (F.GCB.STAT.dat0.put (b2n dat0) (F.GCB.STAT.present.put (b2n s.gcb.present) w))
  else s.reg a

end Sys2Proof.Machine
end

