-- ==== Sys2Proof/Machine/LifeCycle.lean ====
section
/-!
DEFINITION. The life-cycle block (R121 to R142): transitions by plain write, token, Cloche and management, the transition record, the
back-off, the debug challenge and grant, and the LC page.
-/
namespace Sys2Proof.Machine
open Sys2Proof

/-- Methods of a record page (R124). -/
def lcPLAIN : Nat := 1
def lcTOKEN : Nat := 2
def lcCLOCHE : Nat := 3
def lcMGMT : Nat := 4

/-- The LC block is busy with a transition or the verification of a token or a debug response (R137). -/
def State.lcBusy (s : State) : Bool :=
  s.lc.xfer.isSome || (match s.lc.job with | some (.token ..) => true | some (.debug ..) => true | _ => false)

/-- Set or clear the work that waits for the cipher engine. -/
def State.setLcJob (s : State) (j : Option LcJob) : State := { s with lc := { s.lc with job := j } }

/-- Accept a transition. -/
def State.lcAccept (s : State) (target method : Nat) : State := { s with lc := { s.lc with xfer := some (target, method) } }

/-- LC.ADV_STAT.result takes the code of a refusal; STATE refusals count (R137, R39). -/
def State.advRefuse (s : State) (code : Nat) : State :=
  let s := (s.put F.LC.ADV_STAT.result code).irq pageLC 1
  if code = rcSTATE then s.inc F.LC.ADV_STAT.state_refused else s

/-- The debug result and its refusal. -/
def State.dbgRefuse (s : State) (code : Nat) : State := (s.put F.LC.DBG_CTRL.result code).irq pageLC 3

/-- A challenge request that waits ends with ABORTED where other work of the block takes its place (log 55). -/
def State.challengeDropped (s : State) : State :=
  if s.lc.job = some .challenge then (s.setLcJob none).dbgRefuse rcABORTED else s

/-- The digest of the option set that a token successor names, as its place in OPT.TOKD (R127): none where the pair is no token
transition. -/
def tokenDigest (st target : Nat) : Option Nat :=
  if st = lcBLANK ∧ target = lcCHECKED then some 0
  else if st = lcFIELDED ∧ target = lcRECALLED then some 1
  else if st = lcRECALLED ∧ target = lcPERSONAL then some 2
  else none

/-- A plain write transition of R127. -/
def plainSuccessor (st target : Nat) : Bool :=
  decide ((st = lcCHECKED ∧ target = lcPERSONAL) ∨ (st = lcPERSONAL ∧ target = lcFIELDED) ∨ (st ≠ lcRETIRED ∧ target = lcRETIRED))

/-- Only page 63 is unprogrammed (R126). -/
def State.onlyRetire (s : State) : Bool := decide (63 ≤ s.flash.lcRec.length)

/-- Zero the token registers (R139). -/
def State.clearToken (s : State) : State := s.setRegs R.LC.TOKEN (List.replicate 8 0)

/-- Increment LC_FAIL by the private port (R131, R134, R307). -/
def State.incFail (s : State) (f : CellFate) : Nat × State :=
  match s.engine cntINC cntLC_FAIL 0 f with
  | (r, t) => (r, if r = rcOK then t.put F.LC.FAILS.count t.failCount else t)

/-- Raise LC_FAILBASE to LC_FAIL; a failure is logged and the count stays (R131, R134). -/
def State.clearFails (s : State) (state method : Nat) (f : CellFate) : State :=
  match s.engine cntRAISE cntLC_FAILBASE (s.counter cntLC_FAIL).1 f with
  | (r, t) => if r = rcOK then t.put F.LC.FAILS.count t.failCount else t.log 0x09 state (method + 2 ^ 8 * r)

/-- A token attempt ends: its registers are cleared (R139). -/
def State.tokenEnds (s : State) : State := (s.setLcJob none).clearToken

/-- A token's digest is compared (R131 steps 4 to 6). -/
def State.tokenJudged (s : State) (target digest : Nat) (f : EngineFate) : State :=
  let token := s.regBytes R.LC.TOKEN 8
  let s := s.tokenEnds
  if sha256 token ≠ s.regBytes (R.OPT.TOKD + 32 * digest) 8 then s.startBackoff.advRefuse rcAUTH
  else (s.clearFails target lcTOKEN f.raise).lcAccept target lcTOKEN

/-- A token transition (R131): the attempt then waits for the ledger and the cipher engine (R136). R126 gives the refusal WORN no place among
R131's steps: the model puts it after the STATE of step 1 and before the LOCKED of step 2 (DESIGN CHOICE, log 75). -/
def State.advToken (s : State) (target digest : Nat) (f : EngineFate) : State :=
  if s.on F.SYS.BOOT_STAT.option_default then s.clearToken.advRefuse rcSTATE
  else if s.onlyRetire then s.clearToken.advRefuse rcWORN
  else if 0 < s.lc.backoff then s.clearToken.advRefuse rcLOCKED
  else s.challengeDropped.setLcJob (some (.token target digest f false))

/-- A plain write transition (R126, R130). -/
def State.advPlain (s : State) (target : Nat) : State :=
  if target ≠ lcRETIRED ∧ s.on F.SYS.BOOT_STAT.option_default then s.advRefuse rcSTATE
  else if target = lcFIELDED ∧ s.on F.SYS.BOOT_STAT.unsigned then s.advRefuse rcSTATE
  else if target ≠ lcRETIRED ∧ s.onlyRetire then s.advRefuse rcWORN
  else s.lcAccept target lcPLAIN

/-- A write of LC.ADVANCE with its key (R137): BUSY, then RANGE, then STATE. -/
def State.advance (s : State) (target : Nat) (f : EngineFate) : State :=
  if s.lcBusy then s.put F.LC.ADV_STAT.result rcBUSY
  else if 6 ≤ target then s.advRefuse rcRANGE
  else
    match tokenDigest s.lcState target with
    | some d => s.advToken target d f
    | none => if plainSuccessor s.lcState target then s.advPlain target else s.advRefuse rcSTATE

/-- A halted core runs on (R148). -/
def Core.unhalt (k : Core) : Core := { k with halted := false, haltPending := false, stepping := false }

/-- The debug grant ends (R142): the level of the state returns, halted cores resume. -/
def State.endGrant (s : State) : State :=
  if s.on F.LC.DBG_CTRL.granted then
    let s := ((s.put F.LC.DBG_CTRL.granted 0).put F.LC.STATE.probe (probeLevelOf s.lcState)).irq pageLC 4
    ((s.modCore .core0 Core.unhalt).modCore .core1 Core.unhalt)
  else s

/-- The record page of a transition (R124): the operator field is 0 when BLANK or CHECKED is left (log 54). -/
def State.recordFor (s : State) (target method : Nat) : LcRec :=
  ⟨target, method, s.flash.lcRec.length, s.aon.time, if s.lcState ≤ lcCHECKED then 0 else s.get F.SYS.SEC_VER.operator, true⟩

/-- Program the next record page, where one is left (R125). -/
def State.programRec (s : State) (r : LcRec) : State :=
  if 64 ≤ s.flash.lcRec.length then s else { s with flash := { s.flash with lcRec := s.flash.lcRec ++ [r] } }

/-- R127: the transition zeroises. -/
def lcZeroises (target method : Nat) : Bool := decide (lcRECALLED ≤ target ∨ (target = lcPERSONAL ∧ method = lcPLAIN))

/-- LC_TRANSITION: an accepted transition runs (R135), with a chip reset that joins its reset (R365, R99); a flash operation is waited for (R290). -/
def State.lcTransition (s : State) : State :=
  match s.lc.xfer with
  | none => s
  | some (target, method) =>
    if s.flash.op.isSome then s
    else
      let s := if lcZeroises target method then s.zeroise else s
      let s := s.endGrant
      let s := s.programRec (s.recordFor target method)
      let s := (s.put F.LC.ADV_STAT.result rcOK).irq pageLC 0
      let s := s.log 0x09 target method
      if s.lc.join then s.resetMany [⟨0x0E, none⟩, ⟨0x0A, none⟩] else s.systemReset 0x0E

def execLcTransition (s : State) : Out := .next s.lcTransition.settle

/-- The LC block's work that waits ends with ABORTED: a token attempt, a debug response. -/
def State.lcDrop (s : State) : State :=
  match s.lc.job with
  | some (.token ..) => s.tokenEnds.put F.LC.ADV_STAT.result rcABORTED
  | some (.debug ..) => (s.setLcJob none).dbgRefuse rcABORTED
  | some .challenge => s.challengeDropped
  | none => s

/-- A retire by the Cloche takes precedence over every operation (R138, R365): a transition in progress, a retire by another method among
them, ends with ABORTED and is logged, and the retire with method 3 takes its place. In RETIRED, and while such a retire is in progress,
nothing is left to do. -/
def State.lcRetire (s : State) : State :=
  if s.lcState = lcRETIRED ∨ s.lc.xfer = some (lcRETIRED, lcCLOCHE) then s
  else
    let s := match s.lc.xfer with
      | some (t, m) => (s.put F.LC.ADV_STAT.result rcABORTED).log 0x09 t (m + 2 ^ 8 * rcABORTED)
      | none => s
    s.lcDrop.lcAccept lcRETIRED lcCLOCHE

/-- What a loss of power leaves of an accepted transition: nothing done, keys zeroised, or the page cut short as well (R125, R135). -/
def State.lcCut (s : State) (stage : Nat) : State :=
  match s.lc.xfer with
  | none => s
  | some (target, method) =>
    let s := if 0 < stage ∧ lcZeroises target method then s.zeroise else s
    if 1 < stage then s.programRec { s.recordFor target method with valid := false } else s

/-- LC_BACKOFF_END (R132): the back-off ends where its last tick of AON time is due. -/
def execLcBackoffEnd (s : State) : Out := .next (if s.lc.backoff ≤ 1 then { s with lc := { s.lc with backoff := 0 } } else s)

/-! ### Debug in FIELDED -/

/-- A challenge is requested (R140): it waits for PD9 and for a DRBG that serves (R136, R326), and ends with ABSENT where the DRBG has FAILED
(log 55). While other work of the block is under way the request ends with BUSY (log 55). -/
def State.dbgReq (s : State) : State :=
  if s.lcState ≠ lcFIELDED then s.dbgRefuse rcSTATE
  else if s.lc.job.isSome then s.dbgRefuse rcBUSY
  else s.setLcJob (some .challenge)

/-- The challenge is filled. -/
def State.challenge (s : State) : State :=
  if s.entState = entFAILED then (s.setLcJob none).dbgRefuse rcABSENT
  else
    match s.drbg 16 with
    | (none, _) => s
    | (some d, s) =>
      let chal := d ++ bytesLE 8 Config.uid.toNat ++ bytesLE 4 s.aon.time ++ bytesLE 4 2
      let s := (s.setLcJob none).setRegs R.LC.CHAL ((chunks 4 8 chal).map fun b => BitVec.ofNat 32 (natLE b))
      let s := (s.put F.LC.DBG_CTRL.chal_valid 1).put F.LC.DBG_CTRL.result rcOK
      { s with lc := { s.lc with chalTime := s.aon.time } }

/-- A debug response is presented (R141 steps 1 to 3): its verification then waits for the ledger and the cipher engine (R136). -/
def State.dbgGo (s : State) (f : EngineFate) : State :=
  if s.lc.job.isSome then s.dbgRefuse rcBUSY
  else
    let valid := s.on F.LC.DBG_CTRL.chal_valid
    let s := s.put F.LC.DBG_CTRL.chal_valid 0
    if !valid then s.dbgRefuse rcSTATE
    else if 0 < s.lc.backoff then s.dbgRefuse rcLOCKED
    else if s.lc.chalTime + 327680 ≤ s.aon.time then s.dbgRefuse rcTIMEOUT
    else s.setLcJob (some (.debug f false))

/-- A debug response is verified (R141 steps 5 and 6). -/
def State.debugJudged (s : State) (f : EngineFate) : State :=
  let s := s.setLcJob none
  let key := s.regBytes R.LC.DBG_KEY 16
  if sha256 key = s.regBytes R.OPT.DBGD 8 ∧ ecdsaVerifyMsg key (s.regBytes R.LC.CHAL 8) (s.regBytes R.LC.DBG_SIG 16) then
    let s := s.clearFails s.lcState lcTOKEN f.raise
    let s := ((s.put F.LC.STATE.probe 2).put F.LC.DBG_CTRL.granted 1).put F.LC.DBG_CTRL.result rcOK
    s.irq pageLC 2
  else s.startBackoff.dbgRefuse rcAUTH

/-- The LC block's work goes on (R131, R136, R141): LC_FAIL is incremented once PD8 is up, and the cipher engine serves the job at its next
job boundary once PD9 is up; an increment that fails ends the attempt with its code (R134). The domains then go down again where nothing
else asks for them. -/
def State.lcServe (s : State) : State :=
  let idle := s.pdServes 9 && s.cry.run.isNone
  match s.lc.job with
  | none => s
  | some .challenge => if s.pdServes 9 then s.challenge.seqKick else s.seqKick
  | some (.token t d f true) => if idle && s.pdServes 8 then (s.tokenJudged t d f).seqKick else s.seqKick
  | some (.token t d f false) =>
    if s.pdServes 8 then
      match s.incFail f.inc with
      | (0, s) => if idle then (s.tokenJudged t d f).seqKick else s.setLcJob (some (.token t d f true))
      | (r, s) => (s.tokenEnds.advRefuse r).seqKick
    else s.seqKick
  | some (.debug f true) => if idle && s.pdServes 8 then (s.debugJudged f).seqKick else s.seqKick
  | some (.debug f false) =>
    if s.pdServes 8 then
      match s.incFail f.inc with
      | (0, s) => if idle then (s.debugJudged f).seqKick else s.setLcJob (some (.debug f true))
      | (r, s) => ((s.setLcJob none).dbgRefuse r).seqKick
    else s.seqKick

/-- A write to the LC page's own registers (R128 to R142). req and go are the probe port's; revoke the probe port's or the Glasshouse's. -/
def lcWrite (x : Wr) (f : EngineFate) (s : State) : State :=
  if x.a = R.LC.ADVANCE then
    if F.LC.ADVANCE.key.get x.v = 0x4C43 then (s.advance (F.LC.ADVANCE.target.get x.v) f).lcServe else s.blockCause x 0x10
  else if x.a = R.LC.ADV_STAT then (if x.on F.LC.ADV_STAT.clr then s.put F.LC.ADV_STAT.state_refused 0 else s)
  else if x.a = R.LC.DBG_CTRL then
    let s := if x.on F.LC.DBG_CTRL.req ∧ x.ini = .probe then s.dbgReq.lcServe else s
    let s := if x.on F.LC.DBG_CTRL.go ∧ x.ini = .probe then (s.dbgGo f).lcServe else s
    if x.on F.LC.DBG_CTRL.revoke ∧ (x.ini = .probe ∨ x.w = .glass) then s.endGrant else s
  else if lcTokenReg x.a || lcDebugReg x.a then s.setReg x.a x.v
  else s

/-- LC registers that a read computes: token, key and signature registers read 0. -/
def lcRead (a : Nat) (s : State) : Word :=
  if a = R.LC.UID_LO then BitVec.ofNat 32 Config.uid.toNat
  else if a = R.LC.UID_HI then BitVec.ofNat 32 (Config.uid.toNat / 2 ^ 32)
  else if a = R.LC.ADV_STAT then s.reg a ||| BitVec.ofNat 32 (2 ^ 8 * b2n s.lcBusy)
  else if a = R.LC.FAILS then
    BitVec.ofNat 32 (s.get F.LC.FAILS.count + 2 ^ 16 * min 65535 ((s.lc.backoff + 32767) / 32768))
  else if a ≠ R.LC.DBG_CTRL ∧ (lcTokenReg a || lcDebugReg a) then 0
  else s.reg a

end Sys2Proof.Machine
end

