-- ==== Sys2Proof/Machine/Cloche.lean ====
section
/-!
DEFINITION. The Cloche (ch. 15): detections and the union of their responses (R352 to R365), built-in test (R367 to R370), floors on
writes (R371, R372), and the CLO page.
-/
namespace Sys2Proof.Machine
open Sys2Proof

/-! ### Clocks (R72) -/

/-- Core clock CK07 or CK08 runs. -/
def State.coreClock (s : State) (c : CoreId) : Bool := (s.core c).powered && !(s.core c).wfi && s.ck06

/-- The clock that source `n` of 0 to 14 monitors runs (R352, R355). -/
def State.cloClockRuns (s : State) (n : Nat) : Bool :=
  if n < 3 then s.ck04 else if n < 6 then s.ck06 else if n < 9 then s.coreClock .core0 else if n < 12 then s.coreClock .core1 else s.ck03

/-! ### Detection -/

/-- Bits of a response mask (R352). -/
def rspLOG : Nat := 0
def rspSEVERE : Nat := 3
def rspSNAPSHOT : Nat := 4
def rspCORE : Nat := 5
def rspCHIP : Nat := 6
def rspZERO : Nat := 7
def rspRETIRE : Nat := 8

/-- Source `n` watches now (R355, R357); sources 16 to 22 in HIBERNATE and SENTRY WATCH during bursts only. -/
def State.cloWatches (s : State) (n : Nat) : Bool :=
  let on (d : Nat) := s.pdOn d
  if s.aon.pstate = 4 then false
  else if n < 15 then s.cloClockRuns n
  else if n = 17 then s.on F.PWR.PATH.vbat_ok
  else if n = 23 then on 2 || on 3
  else if n = 24 then on 9 || on 10
  else if n = 25 then on 4 || on 5 || on 6 || on 7 || on 8
  else if n = 26 then on 2
  else if n = 27 then on 3
  else true

/-- A clock source's code sens. -/
def State.cloSens (s : State) (n : Nat) : Nat := s.get (F.CLO.RESP.sens.idx 4 n)

/-- The set points of VCORE in mV, lowest and highest: both while it steps (R77, R79, R356). -/
def State.vcoreRange (s : State) : Nat × Nat :=
  match s.aon.vcore with
  | .low => (800, 800)
  | .high => (900, 900)
  | _ => (800, 900)

/-- `x` exceeds a limit that lies between `lo` and `hi`, at `part` on this part. -/
def beyond (x lo hi part : Nat) : Bool := decide (hi < x) || (decide (lo < x) && decide (part < x))

/-- `x` falls below a limit that lies between `lo` and `hi`. -/
def under (x lo hi part : Nat) : Bool := decide (x < lo) || (decide (x < hi) && decide (x < part))

/-- What a source measures is outside its limits. High and low clock sources: a deviation of more than (4 + 2 × sens) %, unless a change of
the nominal frequency suspends the window (R353, R355); short: a cycle below (50 + 5 × sens) % (R354); VCORE: outside the window about its
set point (R356); VBAT and VSYS: outside the limits of ch. 23. The other sources report what they have found. -/
def State.cloSees (s : State) (d : Det) : Bool :=
  let n := d.src.val
  if n < 15 then
    if n % 3 = 2 then decide (d.detail.toNat < 50 + 5 * s.cloSens n)
    else decide (4 + 2 * s.cloSens n < d.detail.toNat) && !(s.aon.winSkip && decide (6 ≤ n ∧ n < 11))
  else if n = 16 then
    beyond d.mv (s.vcoreRange.2 + 50) (s.vcoreRange.2 + 70) (s.vcoreRange.2 + Config.cloVc) ||
      under d.mv (s.vcoreRange.1 - 70) (s.vcoreRange.1 - 50) (s.vcoreRange.1 - Config.cloVc)
  else if n = 17 then under d.mv 1850 1950 Config.cloBatLo || beyond d.mv 3850 3950 Config.cloBatHi
  else if n = 18 then beyond d.mv 5800 6200 Config.cloSys
  else true

/-- A twin detects unless it is under test or marked failed (R359, R367). -/
def State.twinA (s : State) (n : Nat) : Bool := !(s.get F.CLO.BIST_A.run).testBit n && !(s.get F.CLO.TWFAIL_A.fail).testBit n
def State.twinB (s : State) (n : Nat) : Bool := !(s.get F.CLO.BIST_B.run).testBit n && !(s.get F.CLO.TWFAIL_B.fail).testBit n

/-- What of a detection the source's twins fire on. -/
def State.firing (s : State) (d : Det) : Det := { d with a := d.a && s.twinA d.src.val, b := d.b && s.twinB d.src.val }

/-- The response that a detection applies: all of it, or only severe, resets, zeroise and retire while the alarm is latched already; none
with en at 0 (R360). -/
def State.cloResponse (s : State) (n : Nat) : Nat :=
  let r := s.get (F.CLO.RESP.resp.idx 4 n)
  if !s.on (F.CLO.RESP.en.idx 4 n) then 0
  else if (s.get F.CLO.ALARM.alarm).testBit n then r &&& 0x1E8 else r

/-- The cores that a source's core reset and severe aim at (R363). -/
def aimsAt (d : Det) (c : CoreId) : Bool :=
  let n := d.src.val
  if n = 8 ∨ n = 26 then decide (c = .core0)
  else if n = 11 ∨ n = 27 then decide (c = .core1)
  else if n = 23 then (match c with | .core0 => d.c0 | .core1 => d.c1)
  else true

/-- A detection with the response it applies. -/
structure Hit where
  d : Det
  r : Nat
  deriving DecidableEq, Repr

/-- A core action of the hit aims at a powered-down core and is dropped (R363). -/
def State.hitDropped (s : State) (h : Hit) : Bool :=
  (h.r.testBit rspSEVERE || h.r.testBit rspCORE) &&
    ((aimsAt h.d .core0 && !s.core0.powered) || (aimsAt h.d .core1 && !s.core1.powered))

/-- Latch the alarm, count and note the detection (R360, R362 step 3). -/
def State.cloLatch (h : Hit) (s : State) : State :=
  let n := h.d.src.val
  let s := (s.put (F.CLO.ALARM.alarm.bit n) 1).inc ⟨R.CLO.CNT + 4 * (n / 4), 8 * (n % 4) + 7, 8 * (n % 4)⟩
  s.setReg R.CLO.LASTDET (BitVec.ofNat 32 (n + 2 ^ 5 * b2n h.d.a + 2 ^ 6 * b2n h.d.b + 2 ^ 8 * h.d.detail.toNat))

/-- The log entry of a hit (R545). -/
def State.cloLog (dropped : Nat → Bool) (h : Hit) (s : State) : State :=
  let n := h.d.src.val
  if h.r.testBit rspLOG then
    let test := (s.get F.CLO.BIST_A.run).testBit n || (s.get F.CLO.BIST_B.run).testBit n
    let fail := (s.get F.CLO.TWFAIL_A.fail).testBit n || (s.get F.CLO.TWFAIL_B.fail).testBit n
    s.log 0x06 n (h.r + 2 ^ 9 * b2n h.d.a + 2 ^ 10 * b2n h.d.b + 2 ^ 11 * b2n test + 2 ^ 12 * b2n (dropped n) + 2 ^ 13 * b2n fail +
      2 ^ 16 * h.d.detail.toNat)
  else s

/-- Severe waits for the core's next instruction boundary, with the lowest source (R217, R362 step 5). -/
def State.cloSevere (hs : List Hit) (c : CoreId) (s : State) : State :=
  let ns := (hs.filter fun h => h.r.testBit rspSEVERE && aimsAt h.d c).map fun h => h.d.src.val
  match ns with
  | [] => s
  | n :: t =>
    if (s.core c).powered then
      let low := t.foldl min n
      s.modCore c fun k => { k with severePending := some (match k.severePending with | some m => min m low | none => low) }
    else s

/-- t_CLORSP in ticks of CK27, at its maximum (ch. 23; log 77). -/
def cloRespTicks : Nat := 60

/-- Steps 6 to 8 of R362: core reset, retire, chip reset. A chip reset beside a retire joins its reset (R365). -/
def State.cloResets (s : State) (w : CloWait) : State :=
  let s := if w.chip then s
    else s.resetMany ((if w.r0 then [⟨0x09, some .core0⟩] else []) ++ (if w.r1 then [⟨0x09, some .core1⟩] else []))
  let s := if w.retire then s.lcRetire else s
  if w.chip then
    if w.retire && s.lcBusy then { s with lc := { s.lc with join := true } } else s.systemReset 0x0A
  else s

/-- The log entries before waiting reset responses have been written or discarded, or t_CLORSP has passed: they go on (R364). -/
def State.cloGoOn (s : State) (w : CloWait) : State := State.cloResets { s with cloWait := none } w

/-- An entry has left the log queue. -/
def State.cloLogged (s : State) : State :=
  match s.cloWait with
  | none => s
  | some w => if w.entries ≤ 1 then s.cloGoOn w else { s with cloWait := some { w with entries := w.entries - 1 } }

/-- A tick of t_CLORSP. -/
def State.cloTick (s : State) : State :=
  match s.cloWait with
  | none => s
  | some w => if w.ticks ≤ 1 then s.cloGoOn w else { s with cloWait := some { w with ticks := w.ticks - 1 } }

/-- Reset responses of a handling: at once where it has queued no log entry, else they wait, with those that wait already (R364). -/
def State.cloSchedule (s : State) (queued : Bool) (w : CloWait) : State :=
  let resets := w.r0 || w.r1 || w.chip
  match s.cloWait with
  | some v =>
    if resets || w.retire then
      { s with cloWait := some { v with entries := if queued then s.logQueue.length else v.entries, r0 := v.r0 || w.r0, r1 := v.r1 || w.r1
                                        retire := v.retire || w.retire, chip := v.chip || w.chip } }
    else s
  | none => if resets && queued then { s with cloWait := some { w with entries := s.logQueue.length } } else s.cloResets w

/-- R362: the union of the responses of hits in ascending source order, once, in order; `fire` is the firing of the common trigger, which the
pages capture first. An interrupt response is a wake event (R89). -/
def State.cloApply (fire : State → State) (s : State) (hs : List Hit) : State :=
  let any (b : Nat) : Bool := hs.any fun h => h.r.testBit b
  let dropped (n : Nat) : Bool := hs.any fun h => decide (h.d.src.val = n) && s.hitDropped h
  let resets (c : CoreId) : Bool := (s.core c).powered && hs.any fun h => h.r.testBit rspCORE && aimsAt h.d c
  let r0 := resets .core0
  let r1 := resets .core1
  let s := if any rspSNAPSHOT then fire (s.trig 1) else s
  let s := if any rspZERO then s.zeroise else s
  let s := foldState State.cloLatch hs s
  let before := s.logQueue.length
  let s := foldState (State.cloLog dropped) hs s
  let s := if any 1 || any 2 then s.wakeEvent 0x100 else s
  let s := if any rspCHIP || r0 then s else s.cloSevere hs .core0
  let s := if any rspCHIP || r1 then s else s.cloSevere hs .core1
  s.cloSchedule (decide (before < s.logQueue.length)) ⟨0, cloRespTicks, r0, r1, any rspRETIRE, any rspCHIP⟩

/-- What a detection does at once, before any response: a lockstep mismatch stops its core (R178), and a lost LFXO leaves CK01 to LFRC
(R75). -/
def State.detectStops (d : Det) (s : State) : State :=
  if d.src.val = 26 then s.modCore .core0 fun k => { k with stopped := true }
  else if d.src.val = 27 then s.modCore .core1 fun k => { k with stopped := true }
  else if d.src.val = 15 then (s.put F.PWR.XO.lf_src 1).put F.PWR.XO.lfxo_ok 0
  else s

/-- The detections of one source in one cycle, as one: the twins of all, the detail of the last. -/
def mergeDets (n : Nat) (ds : List Det) : Option Det :=
  (ds.filter fun d => decide (d.src.val = n)).foldl (fun (m : Option Det) (d : Det) =>
    match m with
    | none => some d
    | some e => some { d with a := d.a || e.a, b := d.b || e.b, c0 := d.c0 || e.c0, c1 := d.c1 || e.c1 }) none

/-- R362: handle what the sources measure in one CK26 cycle, with the reports that blocks have made; nothing watches in SHIP. A source fires
when a twin detects that is neither under test nor marked failed (R359). -/
def State.cloHandle (fire : State → State) (s : State) (ds : List Det) : State :=
  let rs := s.cloReport.map fun r => (⟨Fin.ofNat 32 r.1, true, true, BitVec.ofNat 8 r.2, true, true, 0⟩ : Det)
  let seen := (ds.filter s.cloSees) ++ rs
  let all := ((seen.filter fun d => s.cloWatches d.src.val).map s.firing).filter fun d => d.a || d.b
  let s := foldState State.detectStops all { s with cloReport := [] }
  let hs := ((numsFrom 32 0).filterMap fun n => mergeDets n all).map fun d => (⟨d, s.cloResponse d.src.val⟩ : Hit)
  if hs.isEmpty then s else s.cloApply fire hs

/-- A burst is due: none has been evaluated in this AON second, and its offset in the second is reached (R357). -/
def State.burstDue (s : State) : Bool :=
  let sec := s.aon.time / 32768
  let at' := (if s.entState = entFAILED then Config.cloFixed sec else Config.cloOffset s.cloGen sec) % 32768
  decide (s.cloSecond ≤ sec ∧ at' ≤ s.aon.time % 32768)

/-- The temperature source takes a sample; outside its thresholds it detects (CLO.TEMP: °C + 64 against a reading in quarters). -/
def State.tempSample (s : State) (reading : BitVec 16) : State :=
  let q := reading.toInt + 256
  let hot := decide (4 * (s.get F.CLO.TEMP.t_hi : Int) < q)
  let cold := decide (q < 4 * (s.get F.CLO.TEMP.t_lo : Int))
  let s := s.put F.CLO.TEMP.reading reading.toNat
  if hot || cold then s.cloche 19 0 else s

/-- CLOCHE_TEMP_SAMPLE: in RUN and DOZE (R358); the detection is handled with the next detections. -/
def execClocheTempSample (reading : BitVec 16) (s : State) : Out :=
  if s.aon.pstate ≤ 1 then .next (s.tempSample reading) else .next s

/-! ### Built-in test -/

def causeFLOOR : Nat := 0x10
def causeBIST_REFUSED : Nat := 0x11
def causeBIST_NOCLK : Nat := 0x12

/-- Start tests of twin A or B of the sources in `v`, lowest first (R367, R368): refused while the other twin is under test or failed, or
without the source's clock. -/
def State.bistStart (s : State) (x : Wr) (twinB : Bool) (v : Nat) : State :=
  let own := if twinB then F.CLO.BIST_B.run else F.CLO.BIST_A.run
  let free (n : Nat) : Bool := if twinB then s.twinA n else s.twinB n
  let want := (numsFrom 32 0).filter fun n => v.testBit n && !(s.get own).testBit n
  let busy := want.filter fun n => !free n
  let noclk := want.filter fun n => free n && cloClock n && !s.cloClockRuns n
  let go := want.filter fun n => free n && !(cloClock n && !s.cloClockRuns n)
  let s := foldState (fun n s => s.put (own.bit n) 1) go s
  let s := s.addSat F.CLO.REFUSE.bist (busy.length + noclk.length)
  if busy.isEmpty && noclk.isEmpty then s
  else s.blockCause x (if busy.isEmpty then causeBIST_NOCLK else causeBIST_REFUSED)

/-- A test ends (R369). -/
def State.bistDone (fire : State → State) (s : State) (n : Fin 32) (twinB detected : Bool) : State :=
  let own := if twinB then F.CLO.BIST_B.run else F.CLO.BIST_A.run
  let fail := if twinB then F.CLO.TWFAIL_B.fail else F.CLO.TWFAIL_A.fail
  if !(s.get own).testBit n.val then s
  else
    let s := (s.put (own.bit n.val) 0).irq pageCLO 0
    if detected then (s.put (fail.bit n.val) 0).put (F.CLO.DEAD.dead.bit n.val) 0
    else
      let s := (s.put (fail.bit n.val) 1).irq pageCLO 1
      let s := s.log 0x06 n.val ((if twinB then 2 ^ 10 else 2 ^ 9) + 2 ^ 13)
      if (s.get F.CLO.TWFAIL_A.fail).testBit n.val && (s.get F.CLO.TWFAIL_B.fail).testBit n.val then
        let s := (s.put (F.CLO.DEAD.dead.bit n.val) 1).irq pageCLO 2
        s.cloApply fire [⟨⟨n, true, true, 0xFF, true, true, 0⟩, s.cloResponse n.val⟩]
      else s

/-! ### The page -/

/-- A write of RESPn (R366, R371, R372): what the new word keeps of the old, and whether a floor or a reserved code was met. -/
def State.respWrite (s : State) (n : Nat) (x : Wr) : State :=
  let r : Fld := ⟨x.a, 8, 0⟩
  let q : Fld := ⟨x.a, 15, 12⟩
  let e : Fld := ⟨x.a, 16, 16⟩
  let x := if cloClock n then x else x.keep q
  let reserved := decide (8 < q.get x.new ∧ q.get x.new ≠ q.get x.old)
  let x := if 8 < q.get x.new then x.keep q else x
  let x := if (n = 26 ∨ n = 27) ∧ ¬ (r.get x.new).testBit rspCHIP then x.with r (r.get x.new ||| 2 ^ rspCORE) else x
  let f := s.floorWord n
  let on := s.on F.LC.STATE.floors
  let badR := on && decide ((f % 2 ^ 9) &&& (0x1FF ^^^ r.get x.new) ≠ 0)
  let badE := on && f.testBit 9 && decide (e.get x.new = 0)
  let badS := on && sensWeak n (q.get x.new) f
  let x := if badR then x.keep r else x
  let x := if badE then x.keep e else x
  let x := if badS then x.keep q else x
  let s := s.storeNew x
  let s := if badR || badE || badS then s.inc F.CLO.REFUSE.floor else s
  if badR || badE || badS || reserved then s.blockCause x causeFLOOR else s

/-- A write to the CLO page's own registers. -/
def cloWrite (x : Wr) (s : State) : State :=
  if x.a < R.CLO.ALARM then s.respWrite (x.a % 128 / 4) x
  else if x.a = R.CLO.BIST_A then s.bistStart x false x.act.toNat
  else if x.a = R.CLO.BIST_B then s.bistStart x true x.act.toNat
  else if x.a = R.CLO.TEMP then (if s.on F.LC.STATE.floors then s else s.storeNew x)
  else if x.a = R.CLO.CNTCLR then
    if x.on F.CLO.CNTCLR.clr then (s.setRegs R.CLO.CNT (List.replicate 8 0)).setReg R.CLO.REFUSE 0 else s
  else s.storeNew x

end Sys2Proof.Machine
end

