-- ==== Sys2Proof/Machine/Riddle.lean ====
section
/-!
DEFINITION. The Riddle classifier (R401 to R417): parsing, the key, rules and actions, ring choice, delivery and forwarding, and the
RDL and RDLT pages. The wake sieve is Radio.lean's.
-/
namespace Sys2Proof.Machine
open Sys2Proof

/-- Byte `k` of a frame; 0 beyond its end. -/
def frameByte (b : List Byte) (k : Nat) : Nat := (b.getD k 0).toNat

/-- The `n` bytes at `k` as a number, first byte most significant (R405). -/
def frameNum (b : List Byte) (k n : Nat) : Nat := (numsFrom n k).foldl (fun v i => 256 * v + frameByte b i) 0

/-- What parsing extracts (R401, R403): the cause of R402 (0: parsed), l3, l4, the fields of the key, the places that R404 names (none: the
frame lacks them), and the address length for R412. -/
structure Parsed where
  cause : Nat
  l3 : Nat
  l4 : Nat
  vlan : Bool
  frag : Bool
  proto : Nat
  etype : Nat
  vid : Nat
  pcp : Nat
  tos : Nat
  flags : Nat
  src : Nat
  dst : Nat
  alen : Nat
  sport : Nat
  dport : Nat
  afterType : Option Nat
  l4At : Option Nat
  dataAt : Option Nat
  deriving DecidableEq, Repr

/-- Nothing parsed yet. -/
def Parsed.start : Parsed := ⟨0, 0, 0, false, false, 0, 0, 0, 0, 0, 0, 0, 0, 0, 0, 0, none, none, none⟩

/-- A parse failure. -/
def Parsed.fail (p : Parsed) (cause : Nat) : Parsed := { p with cause := cause }

/-- UDP or TCP at `o`, with `room` bytes of IP payload from there. -/
def Parsed.transport (p : Parsed) (b : List Byte) (o room : Nat) : Parsed :=
  if p.proto = 17 then
    if room < 8 then p.fail 6
    else { p with l4 := 1, sport := frameNum b o 2, dport := frameNum b (o + 2) 2, l4At := some o, dataAt := some (o + 8) }
  else if p.proto = 6 then
    if room < 20 then p.fail 6
    else
      let h := 4 * (frameByte b (o + 12) / 16)
      if h < 20 then p.fail 3
      else if room < h then p.fail 6
      else { p with
        l4 := 2, sport := frameNum b o 2, dport := frameNum b (o + 2) 2, flags := frameByte b (o + 13)
        l4At := some o, dataAt := some (o + h) }
  else { p with l4 := 3 }

/-- The ones' complement sum of the 16-bit words of `n` bytes at `o`, folded. -/
def ipSum (b : List Byte) (o n : Nat) : Nat :=
  let t := (numsFrom (n / 2) 0).foldl (fun v i => v + frameNum b (o + 2 * i) 2) 0
  let t := t % 65536 + t / 65536
  t % 65536 + t / 65536

/-- An IPv4 datagram at `o`. -/
def Parsed.ipv4 (p : Parsed) (b : List Byte) (o : Nat) : Parsed :=
  let h := 4 * (frameByte b o % 16)
  let total := frameNum b (o + 2) 2
  if b.length < o + 20 then p.fail 1
  else if frameByte b o / 16 ≠ 4 then p.fail 2
  else if h < 20 then p.fail 3
  else if b.length < o + h then p.fail 1
  else if total < h ∨ b.length < o + total then p.fail 4
  else if ipSum b o h ≠ 65535 then p.fail 5
  else
    let word := frameNum b (o + 6) 2
    let offset := word % 8192
    let p := { p with
      l3 := 1, proto := frameByte b (o + 9), tos := frameByte b (o + 1), frag := decide (offset ≠ 0) || word.testBit 13
      src := frameNum b (o + 12) 4, dst := frameNum b (o + 16) 4, alen := 4 }
    if offset ≠ 0 then p else p.transport b (o + h) (total - h)

/-- An IPv6 datagram at `o`: the fixed header only. -/
def Parsed.ipv6 (p : Parsed) (b : List Byte) (o : Nat) : Parsed :=
  let n := frameNum b (o + 4) 2
  if b.length < o + 40 then p.fail 1
  else if frameByte b o / 16 ≠ 6 then p.fail 2
  else if b.length < o + 40 + n then p.fail 4
  else
    let p := { p with
      l3 := 2, proto := frameByte b (o + 6), tos := frameNum b o 2 / 16 % 256
      src := frameNum b (o + 8) 16, dst := frameNum b (o + 24) 16, alen := 16 }
    p.transport b (o + 40) n

/-- Parse an Ethernet frame (R401, R402). -/
def parseEth (b : List Byte) : Parsed :=
  let p := Parsed.start
  if b.length < 14 then p.fail 1
  else
    let tag := decide (frameNum b 12 2 = 0x8100)
    if tag ∧ b.length < 18 then p.fail 1
    else
      let o := if tag then 18 else 14
      let t := frameNum b (o - 2) 2
      let tci := if tag then frameNum b 14 2 else 0
      let p := { p with etype := t, vlan := tag, vid := tci % 4096, pcp := tci / 8192, afterType := some o }
      if t = 0x0800 then p.ipv4 b o else if t = 0x86DD then p.ipv6 b o else p

/-- Parse a radio frame (R401, R402): the length field must name the payload. -/
def parseRadio (b : List Byte) : Parsed :=
  let p := { Parsed.start with l3 := 3, proto := frameByte b 0, etype := frameNum b 1 2, flags := frameByte b 3, afterType := some 6, dataAt := some 6 }
  if frameNum b 4 2 ≠ b.length - 6 then p.fail 7 else p

/-- Parse a frame: one that its port marks in error has cause PORT_ERR (R402). -/
def InFrame.parse (f : InFrame) : Parsed :=
  let p := if f.port = 2 then parseRadio f.bytes else parseEth f.bytes
  if f.err then p.fail 8 else p

/-- User-defined field `k` (R404): its four bytes, and whether any lay outside; `none` where it is not enabled for the port. -/
def State.udef (s : State) (f : InFrame) (p : Parsed) (k : Nat) : Option (Nat × Bool) :=
  if (s.get (F.RDL.UDEF.ports.idx 4 k)).testBit f.port then
    let bse := s.get (F.RDL.UDEF.base.idx 4 k)
    let place := if bse = 0 then some 0 else if bse = 1 then p.afterType else if bse = 2 then p.l4At else p.dataAt
    match place with
    | some o =>
      let o := o + s.get (F.RDL.UDEF.offset.idx 4 k)
      some (frameNum f.bytes o 4, decide (f.bytes.length < o + 4))
    | none => some (0, true)
  else none

/-- The key (R403). -/
def State.rdlKey (s : State) (f : InFrame) (p : Parsed) : List Nat :=
  let u0 := s.udef f p 0
  let u1 := s.udef f p 1
  let short := (u0.map (·.2)).getD false || (u1.map (·.2)).getD false
  let w0 := f.port + 4 * p.l3 + 16 * p.l4 + 64 * b2n p.vlan + 128 * b2n p.frag + 256 * p.proto + 65536 * p.etype
  let w1 := p.vid + 4096 * p.pcp + 32768 * b2n short + 65536 * p.flags + 2 ^ 24 * p.tos
  let w2 := match u0 with | some u => u.1 | none => p.src % 2 ^ 32
  let w3 := match u1 with | some u => u.1 | none => p.dst % 2 ^ 32
  let w4 := if f.port = 2 then f.bytes.length - 6 else p.sport + 65536 * p.dport
  [w0, w1, w2, w3, w4]

/-! ### Actions (R407) -/

def actDROP : Nat := 0
def actFORWARD : Nat := 1
def actCOPY : Nat := 2
def actPUNT : Nat := 3

def actPrimary (a : Nat) : Nat := a % 4
def actMirror (a : Nat) : Bool := a.testBit 2
def actEn (a : Nat) : Bool := a.testBit 3
def actRing (a : Nat) : Nat := bitsOf a 10 4
def actGsize (a : Nat) : Nat := bitsOf a 13 11
def actEgress (a : Nat) : Nat := bitsOf a 15 14
def actHash (a : Nat) : Bool := a.testBit 16
def actGlass (a : Nat) : Bool := a.testBit 23
def actTag (a : Nat) : Nat := bitsOf a 31 24

/-- A ring group of R407: aligned and within 96 rings (R415). -/
def groupOk (a : Nat) : Bool := decide (actRing a % 2 ^ actGsize a = 0 ∧ actRing a + 2 ^ actGsize a ≤ 96)

/-- A reserved encoding of an action word: gsize above 3, egress 3 of FORWARD or COPY, a reserved bit (R407, R415). -/
def actReserved (a : Nat) : Bool :=
  decide (3 < actGsize a) || (decide (actPrimary a = actFORWARD ∨ actPrimary a = actCOPY) && decide (actEgress a = 3)) ||
    decide (bitsOf a 22 17 ≠ 0)

/-- An action word that WRITE takes (R415). -/
def actOk (a : Nat) : Bool :=
  !actReserved a && (!decide (actPrimary a = actCOPY ∨ actPrimary a = actPUNT) || groupOk a)

/-! ### The rule table -/

/-- Rule `n`. -/
def State.rule (s : State) (n : Nat) : RdlRule := tabGet RdlRule.none s.rules n

/-- Replace rule `n`. -/
def State.setRule (s : State) (n : Nat) (r : RdlRule) : State := { s with rules := tabSet RdlRule.none n r s.rules }

/-- A rule's hit count. -/
def ruleHits (n : Nat) : Fld := ⟨R.RDLT.HIT + 4 * (n / 2), 16 * (n % 2) + 15, 16 * (n % 2)⟩

/-- A rule matches a key (R406). -/
def RdlRule.hits (r : RdlRule) (key : List Nat) : Bool :=
  actEn r.act && (key.zip (r.value.zip r.mask)).all fun e => decide ((e.1 ^^^ e.2.1) &&& e.2.2 = 0)

/-- The lowest-numbered rule that matches. -/
def State.matchRule (s : State) (key : List Nat) : Option Nat :=
  (s.rules.find? fun e => e.2.hits key).map (·.1)

/-! ### Ring choice (R412) -/

/-- The canonical tuple's bytes. -/
def InFrame.tuple (f : InFrame) (p : Parsed) : List Byte :=
  if f.port = 2 then bytesBE 2 p.etype ++ bytesBE 1 p.proto
  else if p.l3 = 0 then
    let src := frameNum f.bytes 6 6
    let dst := frameNum f.bytes 0 6
    bytesBE 6 (min src dst) ++ bytesBE 6 (max src dst) ++ bytesBE 2 p.etype
  else
    let ports := !p.frag && decide (p.l4 = 1 ∨ p.l4 = 2)
    let a := 65536 * p.src + (if ports then p.sport else 0)
    let b := 65536 * p.dst + (if ports then p.dport else 0)
    let lo := min a b
    let hi := max a b
    bytesBE p.alen (lo / 65536) ++ bytesBE p.alen (hi / 65536) ++ bytesBE 2 (lo % 65536) ++ bytesBE 2 (hi % 65536) ++
      bytesBE 1 p.proto

/-- The hash of a frame; 0 on a parse failure. -/
def State.rdlHash (s : State) (f : InFrame) (p : Parsed) : Nat :=
  if p.cause ≠ 0 then 0 else crc32c (0xFFFFFFFF ^^^ s.get F.RDL.HSEED.seed) (f.tuple p) ^^^ 0xFFFFFFFF

/-! ### Delivery and forwarding -/

/-- Counters of port `p`. -/
def Fld.port (f : Fld) (p : Nat) : Fld := f.idx 0x10 p

/-- What a descriptor's buffer takes of a frame (R431, R445). -/
def State.ringBytes (s : State) (f : InFrame) : List Byte :=
  if f.port = 2 ∧ s.on F.RLP.CTRL.hdr_in_buf = false then f.bytes.drop 6 else f.bytes

/-- Deliver a frame to ring `n` (R409, R410, R413): `glass` is the action word's, `act` gives its tag. -/
def State.deliver (s : State) (f : InFrame) (p : Parsed) (n act rule : Nat) (glass mirror : Bool) : State :=
  let c := s.ringClient n
  let fits := if mirror then decide (c = clMIRROR) else decide (c = clETH0_RX ∨ c = clETH1_RX ∨ c = clRADIO_RX)
  if !fits || (decide (s.ringWorld n = .glass) && !glass) then (s.inc (F.RDL.LOSS.misroute.port f.port)).irq pageRDL 2
  else
    let cb := p.cause + 16 * b2n mirror + 32 * b2n (decide (actPrimary act = actCOPY))
    let w3 := f.word + 65536 * actTag act + 2 ^ 24 * rule
    let (s, taken) := s.offer ⟨n, s.ringBytes f, w3, cb, f.err⟩
    if taken then s else (s.inc (F.RDL.LOSS.cpu_refused.port f.port)).irq pageRDL 0

/-- Port `e` of the two Ethernet ports. -/
def State.eth (s : State) (e : Nat) : EthPort := if e = 0 then s.eth0 else s.eth1

/-- Replace an Ethernet port. -/
def State.setEth (s : State) (e : Nat) (p : EthPort) : State := if e = 0 then { s with eth0 := p } else { s with eth1 := p }

/-- The egress port is enabled and its forward buffer has room (R411, R434, R448). -/
def State.egressReady (s : State) (e : Nat) : Bool :=
  if e = 2 then s.pdOn 1 && s.on F.RLP.CTRL.tx_en && s.radio.fwd.isNone
  else s.on (F.ETH.CTRL.en.idx 0x1000 e) && decide ((s.eth e).fwd.length < 2)

/-- The frame that an egress port sends for a received one (R435). -/
def State.converted (s : State) (f : InFrame) (e : Nat) : Option (List Byte) :=
  if f.port = 2 then
    let b := f.bytes.drop 6
    if b.length < 14 then none else some b
  else
    let b := if s.on (F.ETH.CTRL.keep_fcs.idx 0x1000 f.port) then f.bytes.take (f.bytes.length - 4) else f.bytes
    if e = 2 ∧ 1024 < b.length then none else some b

/-- Forward a frame to port `e` (R408, R411, R435); a frame for the radio port is armed once it is whole (R448). -/
def State.forward (s : State) (f : InFrame) (e : Nat) : State :=
  if e = f.port then s.inc (F.RDL.LOSS.hairpin.port f.port)
  else
    match s.egressReady e, s.converted f e with
    | true, some b =>
      if e = 2 then
        let t : RadioTx := ⟨s.get F.RLP.CTRL.fwd_type, s.get F.RLP.ADDR.addr, b, 0, false, 0, false⟩
        { s with radio := { s.radio with fwd := some t } }
      else s.setEth e { s.eth e with fwd := (s.eth e).fwd ++ [b] }
    | _, _ => s.inc (F.RDL.LOSS.fwd_lost.port f.port)

/-- Apply an action to a frame (R407, R408): `rule` is the rule number, or 0xFF for a default. -/
def State.applyAction (s : State) (f : InFrame) (p : Parsed) (act rule : Nat) : State :=
  let h := s.rdlHash f p
  let a := actPrimary act
  let s := if a = actFORWARD ∨ a = actCOPY then s.forward f (actEgress act) else s
  let s := if a = actCOPY ∨ a = actPUNT then
      let n := actRing act + (if actHash act then h % 2 ^ actGsize act else 0)
      s.deliver f p n act rule (actGlass act) false
    else s
  if actMirror act then
    let m := (s.reg R.RDL.MIRROR).toNat
    s.deliver f p (actRing m + h % 2 ^ actGsize m) act rule (actGlass m) true
  else s

/-- Classify a frame (R402, R406, R407). -/
def State.classify (s : State) (f : InFrame) : State :=
  let p := f.parse
  let s := s.inc (F.RDL.FRAMES.frames.port f.port)
  let dflt := s.get (F.RDL.DFLT.action.idx 4 f.port)
  if p.cause ≠ 0 then
    let s := ((s.inc (F.RDL.PFAIL.count.port f.port)).put (F.RDL.PFAIL.last.port f.port) p.cause).irq pageRDL 1
    s.applyAction f p dflt 0xFF
  else if s.on F.RDL.CTRL.bypass then s.applyAction f p dflt 0xFF
  else
    match s.matchRule (s.rdlKey f p) with
    | none => s.applyAction f p dflt 0xFF
    | some n =>
      let s := (s.inc (F.RDL.HITS.hits.port f.port)).inc (ruleHits n)
      s.applyAction f p (s.rule n).act n

/-- The next frame that Riddle takes: radio first, then ETH0, then ETH1, each in order (R414). -/
def State.nextFrame (s : State) : Option InFrame :=
  match s.rin.find? (fun f => decide (f.port = 2)) with
  | some f => some f
  | none =>
    match s.rin.find? (fun f => decide (f.port = 0)) with
    | some f => some f
    | none => s.rin.head?

/-- FRAME_CLASSIFY. -/
def State.frameClassify (s : State) : State :=
  if s.pdOn 11 then
    match s.nextFrame with
    | some f => ({ s with rin := s.rin.erase f }).classify f
    | none => s
  else s

def execFrameClassify (s : State) : Out := .next s.frameClassify.settle

/-! ### The RDL and RDLT pages -/

/-- A write of DFLT0 to DFLT2 or MIRROR (R407, R417): en reads 0, glass is the writer's world. -/
def State.actionWrite (s : State) (x : Wr) : State :=
  let a := x.new.toNat
  let bad := if x.a = R.RDL.MIRROR then decide (3 < actGsize a) || !groupOk a else !actOk a
  if bad then s.blockCause x 0x10
  else
    let keep : Word := if x.a = R.RDL.MIRROR then 0x00003FF0 else 0xFF01FFF7
    s.setReg x.a ((x.new &&& keep) ||| (if x.w = .glass then 0x00800000 else 0))

/-- A write to the RDL page's own registers. -/
def rdlWrite (x : Wr) (s : State) : State :=
  if (R.RDL.DFLT ≤ x.a ∧ x.a < R.RDL.DFLT + 12) ∨ x.a = R.RDL.MIRROR then s.actionWrite x
  else if x.a = R.RDL.CNTCLR then
    if x.on F.RDL.CNTCLR.clr then
      let regs := numsFrom 12 0
      let s := foldState (fun k s => s.setReg (R.RDL.FRAMES + 4 * k) 0) regs s
      foldState (fun k s => s.setReg (R.RDLT.HIT + 4 * k) 0) (numsFrom 64 0) s
    else s
  else s.storeNew x

/-- The refusal of a rule command (R415). -/
def State.ruleRefused (s : State) (x : Wr) : State :=
  ((s.put F.RDLT.RES.code rcRANGE).blockCause x 0x10).inc F.RDLT.RES.refused

/-- Staging words. -/
def State.staged (s : State) (a : Nat) : List Nat := (numsFrom 5 0).map fun k => (s.reg (a + 4 * k)).toNat

/-- RDLT commands (R415). -/
def State.ruleCommand (s : State) (x : Wr) (op : Nat) : State :=
  let n := s.get F.RDLT.SEL.rule
  if op = 0 then s
  else if 127 < n then s.ruleRefused x
  else if op = 1 then
    let a := s.get F.RDLT.ACT.action
    if !actOk a then s.ruleRefused x
    else
      let mask := s.staged R.RDLT.MSK
      let value := ((s.staged R.RDLT.VAL).zip mask).map fun e => e.1 &&& e.2
      let act := (Fld.put F.RDL.MIRROR.glass (worldCode x.w) (BitVec.ofNat 32 a)).toNat
      ((s.setRule n ⟨value, mask, act⟩).put (ruleHits n) 0).put F.RDLT.RES.code rcOK
  else if op = 2 then
    let r := s.rule n
    let s := s.setRegs R.RDLT.VAL (r.value.map (BitVec.ofNat 32))
    let s := s.setRegs R.RDLT.MSK (r.mask.map (BitVec.ofNat 32))
    (s.setReg R.RDLT.ACT (BitVec.ofNat 32 r.act)).put F.RDLT.RES.code rcOK
  else if op = 3 then
    let r := s.rule n
    (s.setRule n { r with act := r.act - 8 * b2n (actEn r.act) }).put F.RDLT.RES.code rcOK
  else s.ruleRefused x

/-- A write to the RDLT page's own registers. -/
def rdltWrite (x : Wr) (s : State) : State :=
  if x.a = R.RDLT.CMD then s.ruleCommand x (x.bits F.RDLT.CMD.op)
  else if x.a = R.RDLT.ACT then s.setReg x.a (Fld.put F.RDL.MIRROR.glass (worldCode x.w) x.new)
  else s.storeNew x

/-- RDLT registers that a read computes: the enables (EN0 to EN3). -/
def rdltRead (a : Nat) (s : State) : Word :=
  if R.RDLT.EN ≤ a ∧ a < R.RDLT.EN + 16 then
    let m := a % 16 / 4
    BitVec.ofNat 32 ((numsFrom 32 0).foldl (fun v k => if actEn (s.rule (32 * m + k)).act then v + 2 ^ k else v) 0)
  else s.reg a

end Sys2Proof.Machine
end

