-- ==== Sys2Proof/Machine/Ether.lean ====
section
/-!
DEFINITION. The Ethernet ports and MDIO (R425 to R439): the ETH0 and ETH1 pages.
-/
namespace Sys2Proof.Machine
open Sys2Proof

/-- A field of Ethernet port `p`. -/
def Fld.ethPort (f : Fld) (p : Nat) : Fld := f.idx 0x1000 p

/-- The page of port `p`. -/
def ethPage (p : Nat) : Nat := pageETH0 + p

/-- A byte counter of RXERR: 0 fcs, 1 runt, 2 oversize, 3 rxer. -/
def ethErr (p k : Nat) : Fld := ⟨R.ETH.RXERR + 0x1000 * p, 8 * k + 7, 8 * k⟩

/-- The port is powered, enabled and clocked: its pins are supplied (R57), and with ref_out it waits for the PLL (R76, R426). -/
def State.ethRuns (s : State) (p : Nat) : Bool :=
  s.pdOn 11 && s.on (F.ETH.CTRL.en.ethPort p) && s.on (F.ETH.STAT.ref_ok.ethPort p) && s.groupOn .mdc &&
    (!s.on (F.ETH.CTRL.ref_out.ethPort p) || s.on F.PWR.XO.pll_lock)

/-- R428: the port accepts the frame's destination address. -/
def State.ethAccepts (s : State) (p : Nat) (b : List Byte) : Bool :=
  let da := frameNum b 0 6
  let own := 2 ^ 32 * s.get (F.ETH.MAC_HI.addr.ethPort p) + s.get (F.ETH.MAC_LO.addr.ethPort p)
  s.on (F.ETH.CTRL.promisc.ethPort p) || decide (da = own) || decide (da = 2 ^ 48 - 1) ||
    (s.on (F.ETH.CTRL.mcast.ethPort p) && (frameByte b 0).testBit 0)

/-- Count a receive error (R429). -/
def State.ethError (s : State) (p : Nat) (f : Fld) : State := (s.inc f).irq (ethPage p) 2

/-- Bytes that wait in the receive FIFO of a port (R429). -/
def State.ethFifo (s : State) (p : Nat) : Nat :=
  (s.rin.filter fun f => decide (f.port = p)).foldl (fun n f => n + f.bytes.length) 0

/-- Hand a frame to Riddle (R430 to R432): `stamp` is the fast timestamp at its first data dibit. -/
def State.ethHand (s : State) (p : Nat) (b : List Byte) (err : Bool) (stamp : Nat) : State :=
  if 2048 < s.ethFifo p + b.length then s.ethError p (F.ETH.ERR2.overrun.ethPort p)
  else
    let s := (s.inc (F.ETH.RXCNT.frames.ethPort p)).put (F.ETH.RXTS.ts.ethPort p) stamp
    let seen := if s.on (F.ETH.CTRL.keep_fcs.ethPort p) then b else b.take (b.length - 4)
    { s with rin := s.rin ++ [⟨p, seen, err, bitsOf stamp 19 4⟩] }

/-- A frame received with its FCS (R428 to R432); `whole` tells that it ends on a byte, `rxer` that RMIIn_RXER was asserted in it, and
`ticks` how many periods of the fast timestamp have passed since its first data dibit. -/
def State.ethReceive (s : State) (p : Nat) (b : List Byte) (whole rxer : Bool) (ticks : Nat) : State :=
  let n := b.length
  let bad := s.on (F.ETH.CTRL.pass_bad.ethPort p)
  let stamp := (BitVec.ofNat 32 s.stampNow - BitVec.ofNat 32 ticks).toNat
  if !s.ethRuns p then s
  else if n < 6 then s.ethError p (ethErr p 1)
  else if !s.ethAccepts p b then s.inc (F.ETH.RXDROP.filtered.ethPort p)
  else if n < 64 then s.ethError p (ethErr p 1)
  else if 1522 < n then s.ethError p (ethErr p 2)
  else if !whole || decide (crc32 (b.take (n - 4)) ≠ natLE (b.drop (n - 4))) then
    let s := s.ethError p (ethErr p 0)
    if bad then s.ethHand p b true stamp else s
  else if rxer then
    let s := s.ethError p (ethErr p 3)
    if bad then s.ethHand p b true stamp else s
  else s.ethHand p b false stamp

/-- ETH_RX_FRAME. -/
def execEthRxFrame (p : Fin 2) (bytes : List Byte) (whole rxer : Bool) (ticks : Word) (s : State) : Out :=
  .next (s.ethReceive p bytes whole rxer ticks.toNat).settle

/-- The frame that a port sends next, alternating between ring and forward frames, and the port without it (R434). -/
def EthPort.take (e : EthPort) : Option (List Byte × EthPort) :=
  match e.ring, e.fwd with
  | none, [] => none
  | some b, [] => some (b, { e with ring := none, lastRing := true })
  | none, f :: fs => some (f, { e with fwd := fs, lastRing := false })
  | some b, f :: fs =>
    if e.lastRing then some (f, { e with fwd := fs, lastRing := false }) else some (b, { e with ring := none, lastRing := true })

/-- A frame on the wire: padded to 60 bytes, with its FCS (R433). -/
def ethWire (b : List Byte) : List Byte :=
  let b := b ++ List.replicate (60 - b.length) 0
  b ++ bytesLE 4 (crc32 b)

/-- ETH_TX_FRAME (R433, R434): the answer is the frame sent. -/
def State.ethSend (s : State) (p : Nat) : State :=
  if s.ethRuns p then
    match (s.eth p).take with
    | some (b, e) => ((s.setEth p e).inc (F.ETH.TXCNT.frames.ethPort p)).answer (ethWire b) 0
    | none => s
  else s

def execEthTxFrame (p : Fin 2) (s : State) : Out := .next (s.ethSend p)

/-- REFCLK_LOST (R436): a frame being received is discarded, one being sent is cut. -/
def State.refLost (s : State) (p : Nat) (rxing txing : Bool) : State :=
  if s.pdOn 11 && s.on (F.ETH.STAT.ref_ok.ethPort p) then
    let run := s.ethRuns p
    let s := (s.put (F.ETH.STAT.ref_ok.ethPort p) 0).irq (ethPage p) 4
    let s := if run && rxing then s.ethError p (ethErr p 3) else s
    if run && txing then
      match (s.eth p).take with
      | some (_, e) => (s.setEth p e).inc (F.ETH.ERR2.tx_abort.ethPort p)
      | none => s
    else s
  else s

def execRefclkLost (p : Fin 2) (rxing txing : Bool) (s : State) : Out := .next (s.refLost p rxing txing).settle

/-- REFCLK_RETURN (R436). -/
def execRefclkReturn (p : Fin 2) (s : State) : Out :=
  .next (if s.pdOn 11 then s.put (F.ETH.STAT.ref_ok.ethPort p) 1 else s)

/-! ### MDIO -/

/-- Bits of a number, the most significant first. -/
def msbFirst (n v : Nat) : List Bool := (numsFrom n 0).map fun k => v.testBit (n - 1 - k)

/-- What the controller drives on MDIO in a Clause 22 frame (R437): preamble, ST, OP, PHYAD and REGAD, and in a write the turnaround and the data,
which in a read are the PHY's. -/
def mdioBits (pre read : Bool) (phy reg data : Nat) : List Bool :=
  (if pre then List.replicate 32 true else []) ++ msbFirst 2 1 ++ msbFirst 2 (if read then 2 else 1) ++ msbFirst 5 phy ++ msbFirst 5 reg ++
    (if read then [] else msbFirst 2 2 ++ msbFirst 16 data)

/-- The frame that a write of MDIO_CMD starts. -/
def Wr.mdioFrame (x : Wr) : MdioFrame :=
  let read := decide (x.bits F.ETH.MDIO_CMD.op = 2)
  ⟨none, read, mdioBits (!x.on F.ETH.MDIO_CMD.no_pre) read (x.bits F.ETH.MDIO_CMD.phy) (x.bits F.ETH.MDIO_CMD.reg) (x.bits F.ETH.MDIO_CMD.data)⟩

/-- A write of MDIO_CMD (R438). -/
def State.mdioCommand (s : State) (x : Wr) : State :=
  let op := x.bits F.ETH.MDIO_CMD.op
  if s.mdio.isSome then s.put F.ETH.MDIO_RES.code rcBUSY
  else if op ≠ 1 ∧ op ≠ 2 then s.put F.ETH.MDIO_RES.code rcRANGE
  else { s with mdio := some x.mdioFrame }

/-- MDIO_DONE (R438): the command's frame ends; `ack` tells that the second turnaround bit sampled 0. -/
def State.mdioDone (s : State) (data : Nat) (ack : Bool) : State :=
  match s.mdio with
  | some ⟨none, read, _⟩ =>
    let s := { s with mdio := none }
    let s := if read then s.put F.ETH.MDIO_RES.data (if ack then data else 0xFFFF) else s
    (s.put F.ETH.MDIO_RES.code (if read && !ack then rcABSENT else rcOK)).irq pageETH0 3
  | _ => s

def execMdioDone (data : BitVec 16) (ack : Bool) (s : State) : Out := .next (s.mdioDone data.toNat ack).settle

/-- The frame of port `p`'s link poll (R439): register 1 of its PHY. -/
def State.pollFrame (s : State) (p : Nat) : MdioFrame := ⟨some p, true, mdioBits true true (s.get (F.ETH.POLL.phyad.ethPort p)) 1 0⟩

/-- The poll of port `p` is due, or will be within a tick of CK27 (R439). -/
def State.pollDue (s : State) (p : Nat) : Bool :=
  s.on (F.ETH.POLL.interval.ethPort p) && decide (1000 * s.get (F.ETH.POLL.interval.ethPort p) ≤ (s.eth p).polled + 1)

/-- A tick of CK27 passes for the link polls (R439). -/
def State.pollTick (s : State) : State :=
  if s.pdOn 11 then
    { s with eth0 := { s.eth0 with polled := s.eth0.polled + 1 }, eth1 := { s.eth1 with polled := s.eth1.polled + 1 } }
  else s

/-- LINK_POLL (R439): port `p`'s poll starts (`none`), or ends having read bit 2 of PHY register 1. -/
def State.linkPoll (s : State) (p : Nat) (r : Option Bool) : State :=
  match r with
  | none =>
    if s.pdOn 11 && s.mdio.isNone && s.pollDue p then { s.setEth p { s.eth p with polled := 0 } with mdio := some (s.pollFrame p) } else s
  | some b =>
    if (s.mdio.bind (·.poll)) = some p then
      let f := F.ETH.STAT.link.ethPort p
      let s' := { s with mdio := none }.putB f b
      if b && !s.on f then s'.irq (ethPage p) 0 else if !b && s.on f then s'.irq (ethPage p) 1 else s'
    else s

def execLinkPoll (p : Fin 2) (r : Option Bool) (s : State) : Out := .next (s.linkPoll p r).settle

/-! ### The ETH pages -/

/-- A write to an ETH page's own registers. -/
def ethWrite (x : Wr) (s : State) : State :=
  let p := x.p - pageETH0
  let at0 := x.a % 0x1000
  if at0 = R.ETH.CTRL % 0x1000 then
    let live := decide (F.ETH.CTRL.en.get x.old = 1) &&
      decide (F.ETH.CTRL.speed.get x.new ≠ F.ETH.CTRL.speed.get x.old ∨ F.ETH.CTRL.ref_out.get x.new ≠ F.ETH.CTRL.ref_out.get x.old)
    let s := if live then (s.storeNew ((x.keep F.ETH.CTRL.speed).keep F.ETH.CTRL.ref_out)).blockCause x 0x10 else s.storeNew x
    let s := s.xoUser (1 + p) (s.on (F.ETH.CTRL.en.ethPort p))
    if s.refclkWanted || s.on F.PWR.BOOST.req then s else s.put F.PWR.XO.pll_lock 0
  else if at0 = R.ETH.CNTCLR % 0x1000 then
    if x.on (F.ETH.CNTCLR.clr) then foldState (fun k s => s.setReg (R.ETH.RXCNT + 0x1000 * p + 4 * k) 0) (numsFrom 5 0) s else s
  else if x.a = R.ETH.MDIO_CMD then s.mdioCommand x
  else s.storeNew x

/-- ETH registers that a read computes. -/
def ethRead (a : Nat) (s : State) : Word :=
  let p := pageOf a - pageETH0
  if a % 0x1000 = R.ETH.STAT % 0x1000 then F.ETH.STAT.running.put (b2n (s.ethRuns p)) (s.reg a)
  else if a = R.ETH.MDIO_RES then F.ETH.MDIO_RES.busy.put (b2n s.mdio.isSome) (s.reg a)
  else s.reg a

end Sys2Proof.Machine
end

