-- ==== Sys2Proof/Machine/FlashCtl.lean ====
section
/-!
DEFINITION. The flash controller's commands (R285 to R290) with the commit checks of the option area (R293), and the FLC page.
-/
namespace Sys2Proof.Machine
open Sys2Proof

/-- FLC command codes. -/
def flcPROG : Nat := 1
def flcERASE : Nat := 2
def flcOPT_PROG : Nat := 3
def flcOPT_ERASE : Nat := 4

/-- The byte address that FLC.ADDR names for a command, where it is aligned and inside its space (R286 check 2). -/
def flcTarget (op a : Nat) : Option Nat :=
  if op = flcPROG then (if 0x01000000 ≤ a ∧ a < 0x01400000 ∧ a % 512 = 0 then some a else none)
  else if op = flcERASE then (if 0x01000000 ≤ a ∧ a < 0x01400000 ∧ a % 0x10000 = 0 then some a else none)
  else if op = flcOPT_PROG then (if a < 0x4000 ∧ a % 512 = 0 then some (0x01800000 + a) else none)
  else if op = flcOPT_ERASE then (if a = 0 ∨ a = 0x2000 then some (0x01800000 + a) else none)
  else none

/-- FLC.RESULT.target of an address. -/
def flcTargetNo (a : Nat) : Nat := if a < 0x01800000 then a % 0x400000 / 0x10000 else 64 + a % 0x4000 / 0x2000

/-- Bit `i` of a 64-bit pair of registers from `a`. -/
def State.pairBit (s : State) (a i : Nat) : Bool := (s.getPair a (a + 4)).testBit i

/-- The page buffer. -/
def State.flcBuf (s : State) : List Byte := s.regBytes R.FLC.BUF 128

/-- Check 7: the page or a higher page of its block is marked programmed. -/
def State.pageTaken (s : State) (a : Nat) : Bool :=
  let m := pageMark a
  let b := markBlock m
  (numsFrom (b.1 + b.2 - m) m).any s.marked

/-- The commit checks of R293 on the block of page-15 address `a`. -/
def State.commitCheck (s : State) (a : Nat) : Nat :=
  let b := a - 15 * 512
  let buf := s.flcBuf
  let seq := s.loadN (b + 4) 4
  if !s.marked (pageMark b) || decide (s.loadN b 4 ≠ optMagic) || decide (natLE (buf.take 4) ≠ optCommit) ||
      decide (natLE ((buf.drop 4).take 4) ≠ seq) || (!s.on F.SYS.BOOT_STAT.option_default && decide (seq ≤ (s.reg R.OPT.SEQ).toNat))
    then rcSTATE
  else if natLE ((buf.drop 8).take 4) ≠ crc32 (s.bytes b 512) then rcCRC
  else if (s.get F.LC.STATE.state = lcFIELDED ∨ s.get F.LC.STATE.state = lcRECALLED) ∧
      (s.bytes (b + 0xC0) 96 ≠ s.regBytes (R.OPT.TOKD + 32) 24 ∨ s.bytes (b + 0x120) 64 ≠ s.regBytes R.OPT.FLOOR 16)
    then rcAUTH
  else rcOK

/-- R286: the code of the first check that fails, or OK with the target address. -/
def State.flcJudge (s : State) (op : Nat) : Nat × Nat :=
  let a := (s.reg R.FLC.ADDR).toNat
  if s.flash.op.isSome || s.lc.xfer.isSome then (rcBUSY, a)
  else
    match flcTarget op a with
    | none => (rcRANGE, a)
    | some t =>
      let blk := flcTargetNo t
      let r :=
        if s.lcState = lcRETIRED then rcSTATE
        else if blk < 64 ∧ s.flash.worn.testBit blk then rcWORN
        else if blk < 64 ∧ (s.pairBit R.FLC.WPROT blk ∨ (s.on F.SYS.BOOT_IMG.valid ∧ s.get F.SYS.BOOT_IMG.first_blk ≤ blk ∧
            blk ≤ s.get F.SYS.BOOT_IMG.last_blk)) then rcLOCKED
        else if op = flcOPT_ERASE ∧ !s.on F.SYS.BOOT_STAT.option_default ∧ blk = 64 + s.get F.SYS.BOOT_STAT.option_set then rcLOCKED
        else if (op = flcPROG ∨ op = flcOPT_PROG) ∧ s.pageTaken t then rcSTATE
        else if op = flcOPT_PROG ∧ t % 0x2000 = 15 * 512 then s.commitCheck t
        else rcOK
      (r, t)

/-- A refused command: its code, its counter, the refused event (R286). -/
def State.flcRefuse (s : State) (code : Nat) : State :=
  let s := (s.put F.FLC.RESULT.code code).put F.FLC.RESULT.pulses 0
  let s := s.inc (if code = rcBUSY then F.FLC.REFUSE.busy else if code = rcSTATE then F.FLC.REFUSE.state
    else if code = rcLOCKED then F.FLC.REFUSE.locked else F.FLC.REFUSE.other)
  s.irq pageFLC 1

/-- An accepted command starts: the marker first, then the data; an erase clears its block. The contents of the page or block are
final from here on, because reads of the bank stall until the operation ends (R280, R283, R284; log 32). -/
def State.flcStart (s : State) (op t : Nat) : State :=
  let prog := decide (op = flcPROG ∨ op = flcOPT_PROG)
  let s := if prog then (s.setMark true (pageMark t)).setBytes t s.flcBuf else s.clearMem t (t + eraseSize t)
  let s := s.setRegs R.FLC.BUF (List.replicate 128 0)
  let s := (s.put F.FLC.STAT.busy 1).put F.FLC.STAT.bank (if t < 0x01800000 then t % 0x400000 / 0x200000 else t % 0x4000 / 0x2000)
  { s with flash := { s.flash with op := some ⟨op, t, flcTargetNo t⟩ } }

/-- A keyed command (R285, R286). -/
def State.flcCommand (s : State) (op : Nat) : State :=
  let (r, t) := s.flcJudge op
  if r = rcOK then s.flcStart op t
  else if r = rcBUSY ∨ r = rcRANGE then s.flcRefuse r
  else (s.put F.FLC.RESULT.target (flcTargetNo t)).flcRefuse r

/-- The running operation ends after `p` pulses (R287, R288). -/
def State.flcDone (s : State) (p : Nat) (verified : Bool) : State :=
  match s.flash.op with
  | none => s
  | some o =>
    let prog := decide (o.op = flcPROG ∨ o.op = flcOPT_PROG)
    let most := if prog then 8 else 64
    let n := if verified then max 1 (min most p) else most
    let s := { s with flash := { s.flash with op := none } }
    let s := ((s.put F.FLC.STAT.busy 0).put F.FLC.RESULT.target o.target).put F.FLC.RESULT.pulses n
    let s := (s.put F.FLC.RESULT.code (if verified then rcOK else rcWORN)).irq pageFLC 0
    let s := if !prog && decide (24 < n) then (s.put F.FLC.STAT.erase_slow 1).irq pageFLC 2 else s
    if verified then
      if prog then s else foldState (fun m s => s.setMark false m) (numsFrom (markBlock (pageMark o.addr)).2 (pageMark o.addr)) s
    else
      let s := if prog then s.freeBytes o.addr 512 else s.freeBytes o.addr (eraseSize o.addr)
      let s := s.irq pageFLC 3
      -- the wear record has a page for each block of the main array only (R279)
      if o.target < 64 then { s with flash := { s.flash with worn := s.flash.worn ||| 2 ^ o.target } } else s

/-- FLASH_OP_DONE: the operation ends after `pulses` + 1 pulses, verified or not. -/
def execFlashOpDone (pulses : Fin 64) (verified : Bool) (s : State) : Out := .next (s.flcDone (pulses + 1) verified).settle

/-- A write to the FLC page's own registers. -/
def flcWrite (x : Wr) (s : State) : State :=
  if x.a = R.FLC.CMD then
    if F.FLC.CMD.key.get x.v = 0x464C then s.flcCommand (F.FLC.CMD.op.get x.v) else s.blockCause x 0x10
  else if x.a = R.FLC.CNTCLR then
    if x.on F.FLC.CNTCLR.clr then
      (((s.setReg R.FLC.ECC 0).setReg R.FLC.REDUND 0).setReg R.FLC.REFUSE 0).put F.FLC.STAT.erase_slow 0
    else s
  else if R.FLC.BUF ≤ x.a then s.setReg x.a x.v
  else s.storeNew x

/-- FLC registers that a read computes: the wear record's bits; write-only registers read 0. -/
def flcRead (a : Nat) (s : State) : Word :=
  if a = R.FLC.WORN then BitVec.ofNat 32 s.flash.worn
  else if a = R.FLC.WORN + 4 then BitVec.ofNat 32 (s.flash.worn / 2 ^ 32)
  else if R.FLC.BUF ≤ a then 0
  else s.reg a

end Sys2Proof.Machine
end

