-- ==== Sys2Proof/Machine/Radio.lean ====
section
/-!
DEFINITION. The radio link port with its slot timer (R440 to R458) and the wake sieve (R418 to R424): the RLP page.
-/
namespace Sys2Proof.Machine
open Sys2Proof

/-! ### Receive errors -/

/-- A byte counter of RLP.RXERR: 0 crc, 1 runt, 2 size, 3 lost. -/
def rlpErr (k : Nat) : Fld := ⟨R.RLP.RXERR, 8 * k + 7, 8 * k⟩

/-- A received frame in error or lost (R443, R444, R446). -/
def State.rlError (s : State) (k : Nat) : State := (s.inc (rlpErr k)).irq pageRLP 4

/-! ### The wake sieve -/

/-- The oldest queued frame has waited SV_QCFG.age units of 32 AON ticks, or will have within `slack` ticks (R422). -/
def State.sieveAged (s : State) (slack : Nat) : Bool :=
  match s.sieve.queue with
  | [] => false
  | f :: _ => s.on F.RLP.SV_QCFG.age && decide (f.since + 32 * s.get F.RLP.SV_QCFG.age ≤ s.aon.time + slack)

/-- The queue condition of R422. -/
def State.sieveCond (s : State) : Bool :=
  !s.sieve.queue.isEmpty && (decide (s.get F.RLP.SV_QCFG.count ≤ s.sieve.queue.length) || s.sieve.aged || s.sieveAged 0 || s.sieve.lost)

/-- Bytes that the sieve queue uses: header and payload, and 4 of overhead per frame (R421). -/
def queueBytes (q : List QFrame) : Nat := q.foldl (fun n f => n + f.bytes.length + 4) 0

/-- The queue condition, where it holds, is wake event 6 (R89). It raises the event when a decision or the age of the oldest frame makes it hold:
one that holds already when SENTRY WATCH or DOZE is entered, or when WAKE_EN bit 6 is set, raises it at the next frame that the sieve decides, or
when the oldest frame comes of age (DESIGN CHOICE, log 78: the spec does not say whether the event is a level). -/
def State.sieveCheck (s : State) : State := if s.sieveCond then s.wakeEvent 0x40 else s

/-- A frame discarded under R421. -/
def State.sieveLose (s : State) : State :=
  { (s.inc F.RLP.SV_CNT1.lost).irq pageRLP 16 with sieve := { s.sieve with lost := true } }

/-- A frame of `n` bytes fits the queue (R421). -/
def queueFits (q : List QFrame) (n : Nat) : Bool := decide (q.length < 8) && decide (queueBytes q + n + 4 ≤ 4096)

/-- Evict the oldest QUEUE frames until a frame of `n` bytes fits (R421): the queue left, and how many were evicted. -/
def evictFor (n : Nat) : List QFrame → List QFrame → Nat × List QFrame
  | kept, [] => (0, kept)
  | kept, f :: fs =>
    if queueFits (kept ++ f :: fs) n then (0, kept ++ f :: fs)
    else if f.wake then evictFor n (kept ++ [f]) fs
    else let r := evictFor n kept fs; (r.1 + 1, r.2)

/-- Store a frame in the queue (R421). -/
def State.sieveStore (s : State) (b : List Byte) (wake : Bool) : State :=
  let (k, q) := if wake then evictFor b.length [] s.sieve.queue else (0, s.sieve.queue)
  let head := s.sieve.queue.head?
  let s := foldState (fun _ s => s.sieveLose) (numsFrom k 0) { s with sieve := { s.sieve with queue := q } }
  let s := if q.head? = head then s else { s with sieve := { s.sieve with aged := false } }
  if queueFits q b.length then { s with sieve := { s.sieve with queue := q ++ [⟨b, wake, s.aon.time⟩] } } else s.sieveLose

/-- The sieve key S0 to S2 (R419). -/
def State.sieveKey (s : State) (b : List Byte) : List Nat :=
  let p := b.drop 6
  [frameByte b 0 + 2 ^ 8 * frameNum b 1 2 + 2 ^ 24 * frameByte b 3,
    frameNum p (s.get F.RLP.SV_UDEF.offset) 4, frameNum p (s.get (F.RLP.SV_UDEF.offset.idx 4 1)) 4]

/-- Sieve rule `n` matches a key (R420). -/
def State.sieveHit (s : State) (n : Nat) (key : List Nat) : Bool :=
  s.on (F.RLP.SV_RULE.en.idx 32 n) &&
    ((key.zip (numsFrom 3 0)).all fun e =>
      decide ((e.1 ^^^ (s.reg (R.RLP.SV_RULE + 32 * n + 4 * e.2)).toNat) &&& (s.reg (R.RLP.SV_RULE + 32 * n + 12 + 4 * e.2)).toNat = 0))

/-- Hit count of sieve rule `n`. -/
def sieveHits (n : Nat) : Fld := ⟨R.RLP.SV_HIT + 4 * (n / 2), 16 * (n % 2) + 15, 16 * (n % 2)⟩

/-- The sieve's decision on a frame, with the rule that gave it (R420; R444 for a wrong length). -/
def State.sieveDecision (s : State) (b : List Byte) : Nat × Option Nat :=
  if (parseRadio b).cause ≠ 0 then (0, none)
  else if !s.on F.RLP.SV_CFG.en then (2, none)
  else
    match (numsFrom 16 0).find? fun n => s.sieveHit n (s.sieveKey b) with
    | some n => (s.get (F.RLP.SV_RULE.decision.idx 32 n), some n)
    | none => (s.get F.RLP.SV_CFG.dflt, none)

/-- SIEVE_DECIDE: the sieve judges the oldest frame that waits, while PD11 is off (R418, R420). -/
def State.sieveDecide (s : State) : State :=
  match s.sieve.waiting with
  | [] => s
  | b :: bs =>
    if s.pdOn 11 || !s.pdOn 1 then s
    else
      let (d, rule) := s.sieveDecision b
      let s := { s with sieve := { s.sieve with waiting := bs } }
      let s := if (parseRadio b).cause ≠ 0 then s.rlError 1 else s
      let s := match rule with | some n => s.inc (sieveHits n) | none => s
      if d = 1 then ((s.inc F.RLP.SV_CNT0.queue).sieveStore b false).sieveCheck
      else if d = 2 then (((s.inc F.RLP.SV_CNT0.wake).sieveStore b true).wakeEvent 0x20).sieveCheck
      else s.inc F.RLP.SV_CNT1.ignore

def execSieveDecide (s : State) : Out := .next s.sieveDecide.settle

/-- The oldest queued frame comes of age, where that is due within the tick (R422). -/
def State.sieveAge (s : State) : State :=
  if s.sieveAged 1 then { s with sieve := { s.sieve with aged := true } }.sieveCheck else s

/-- SIEVE_AGE_EXPIRE. -/
def execSieveAgeExpire (s : State) : Out := .next s.sieveAge.settle

/-- A radio frame on its way into Riddle (R445). -/
def radioFrame (b : List Byte) : InFrame := ⟨2, b, false, frameByte b 0 + 2 ^ 8 * frameByte b 3⟩

/-- SIEVE_HANDOFF: with PD11 up the queue, then the frames behind it, go to Riddle (R423). -/
def State.sieveHandoff (s : State) : State :=
  if s.pdOn 11 then
    let l := s.sieve.queue.map (·.bytes) ++ s.sieve.waiting
    { s with rin := s.rin ++ l.map radioFrame, sieve := Sieve.init }
  else s

def execSieveHandoff (s : State) : Out := .next s.sieveHandoff

/-! ### Receive -/

/-- The front end is armed (R443). -/
def State.rlArmed (s : State) : Bool :=
  s.pdOn 1 && (s.radio.wake || (decide (s.aon.pstate = 0) && s.on F.RLP.CTRL.rx_en))

/-- RL_WAKE: the transceiver raises RL_WAKE (R443, R538); PD1 off holds the pin, and nothing sees it. -/
def execRlWake (s : State) : Out :=
  let s' := { s with radio := { s.radio with wake := true } }
  .next (if s.pdOn 1 && !s.radio.wake then s'.trig 2 else s')

/-- RL_WAKE_FALL (R443). -/
def execRlWakeFall (s : State) : Out := .next { s with radio := { s.radio with wake := false } }

/-- A valid reference releases frames that wait for the next beacon (R455). -/
def RadioTx.retarget (t : RadioTx) : RadioTx := { t with waits := false }

/-- A beacon (R451): `ref` is the count latched at its RL_FS rise. -/
def State.beacon (s : State) (b : List Byte) (ref : Nat) : State :=
  let s := s.setReg R.RLP.BCN_TIME (BitVec.ofNat 32 ref)
  let s := ((s.put F.RLP.BCN_INFO.seq (frameByte b 3)).put F.RLP.BCN_INFO.addr (frameNum b 1 2)).put F.RLP.STAT.ref_valid 1
  let s := ((s.inc F.RLP.RXCNT.beacons).irq pageRLP 3).trig 5
  { s with radio := { s.radio with ring := s.radio.ring.map RadioTx.retarget, fwd := s.radio.fwd.map RadioTx.retarget } }

/-- The frame is a beacon by BCN_MATCH (R451). -/
def State.isBeacon (s : State) (b : List Byte) : Bool :=
  s.on F.RLP.BCN_MATCH.en && decide ((parseRadio b).cause = 0) &&
    decide ((frameByte b 0 ^^^ s.get F.RLP.BCN_MATCH.type) &&& s.get F.RLP.BCN_MATCH.mask = 0)

/-- Where a received frame goes: to Riddle, behind frames that the sieve hands over, or to the sieve (R418, R423). -/
def State.rlDeliver (s : State) (b : List Byte) : State :=
  if s.pdOn 11 && s.sieve.queue.isEmpty && s.sieve.waiting.isEmpty then { s with rin := s.rin ++ [radioFrame b] }
  else { s with sieve := { s.sieve with waiting := s.sieve.waiting ++ [b] } }

/-- A frame whose RL_FS rose at count `ref` started while RL_TXEN was high (R446). -/
def State.duringSend (s : State) (ref : Word) : Bool :=
  s.radio.sending.isSome ||
    (match s.radio.fell with
    | some n => decide (0 ≤ (ref - s.reg R.RLP.TX_WHEN).toInt) && decide (0 < (BitVec.ofNat 32 n - ref).toInt)
    | none => false)

/-- RL_RX_FRAME (R443 to R446, R451): the bytes between RL_FS's edges, whether they end on a byte, and the ticks since RL_FS rose. -/
def State.rlReceive (s : State) (bytes : List Byte) (whole : Bool) (ticks : Nat) : State :=
  if !s.pdOn 1 then s
  else if !s.rlArmed || s.duringSend (s.reg R.RLP.ST_NOW - BitVec.ofNat 32 ticks) then s.rlError 3
  else
    let n := bytes.length
    let b := bytes.take (n - 2)
    if n < 8 then s.rlError 1
    else if 1032 < n || !whole then s.rlError 2
    else if crc16 b ≠ frameNum bytes (n - 2) 2 then s.rlError 0
    else
      let s := s.inc F.RLP.RXCNT.frames
      let ref := ((s.reg R.RLP.ST_NOW) - BitVec.ofNat 32 ticks).toNat
      (if s.isBeacon b then s.beacon b ref else s).rlDeliver b

def execRlRxFrame (bytes : List Byte) (whole : Bool) (ticks : Word) (s : State) : Out :=
  .next (s.rlReceive bytes whole ticks.toNat).settle

/-! ### Transmit -/

/-- Causes of TX_STAT. -/
def txGUARD : Nat := 1
def txNO_REF : Nat := 2
def txSTALE : Nat := 3
def txCUT : Nat := 4
def txCLK_LOST : Nat := 5
def txDISABLED : Nat := 6

/-- The slot timer's count. -/
def State.slotNow (s : State) : Nat := s.get F.RLP.ST_NOW.count

/-- Write TX_STAT. -/
def State.txStat (s : State) (result cause seq : Nat) : State :=
  s.setReg R.RLP.TX_STAT (BitVec.ofNat 32 (result + 2 ^ 8 * cause + 2 ^ 16 * seq))

/-- The frame that is tested next: the ring frame, then the forward frame (R448); true for the forward frame. -/
def State.txNext (s : State) : Option (RadioTx × Bool) :=
  let live (t : RadioTx) : Bool := t.armed && !t.waits
  match s.radio.ring.filter live with
  | some t => some (t, false)
  | none => (s.radio.fwd.filter live).map fun t => (t, true)

/-- Put the frame of one of the two buffers. -/
def State.txPut (s : State) (fwd : Bool) (t : Option RadioTx) : State :=
  { s with radio := if fwd then { s.radio with fwd := t } else { s.radio with ring := t } }

/-- A frame is held back (R455). -/
def State.txHold (s : State) (t : RadioTx) (fwd : Bool) (cause : Nat) : State :=
  let s := ((s.txStat rcTIMEOUT cause 0).inc F.RLP.TXCNT.slot_miss).irq pageRLP 1
  let s := s.log 0x08 cause (s.reg R.RLP.TX_COOKIE).toNat
  s.txPut fwd (if s.on F.RLP.SLOT_CFG.retry then some { t with waits := true } else none)

/-- Arm a frame: it is held back at once where no reference is valid (R448, R454). -/
def State.txArm (s : State) (t : RadioTx) (fwd : Bool) : State :=
  let t := { t with armed := true, armedAt := s.slotNow }
  let s := if fwd then s else s.setReg R.RLP.TX_COOKIE (BitVec.ofNat 32 t.cookie)
  if s.on F.RLP.STAT.ref_valid then s.txPut fwd (some t) else s.txHold t fwd txNO_REF

/-- RL_TX_ARM: a frame that the port holds whole is armed, the ring frame first (R448). -/
def State.rlArm (s : State) : State :=
  let cold (t : RadioTx) : Bool := !t.armed
  if !s.pdOn 1 then s
  else
    match s.radio.ring.filter cold, s.radio.fwd.filter cold with
    | some t, _ => s.txArm t false
    | none, some t => s.txArm t true
    | none, none => s

def execRlTxArm (s : State) : Out := .next s.rlArm.settle

/-- The open window against the reference, in ticks from it: W_open, W_close and d (R452). -/
def State.slotWindow (s : State) : Int × Int × Int :=
  let o : Int := s.get F.RLP.SLOT_OFF.off
  let l : Int := s.get F.RLP.SLOT_LEN.len
  let g : Int := s.get F.RLP.SLOT_LEN.guard
  let close := o + l - g
  (o + g, close, -((-(close * s.get F.RLP.SLOT_CFG.tol)) / 1000000))

/-- A count as ticks from the reference, later counts positive. -/
def State.fromRef (s : State) (n : Nat) : Int := (BitVec.ofNat 32 n - s.reg R.RLP.BCN_TIME).toInt

/-- The predicted start S from the reference: the later of W_open and the tick after arming, and not before now (R454, R457). -/
def State.txStart (s : State) (t : RadioTx) : Int :=
  max (max s.slotWindow.1 (s.fromRef ((t.armedAt + 1) % 2 ^ 32))) (s.fromRef s.slotNow)

/-- R453, R454: the frame passes the window test. -/
def State.txFits (s : State) (t : RadioTx) : Bool :=
  let (o, c, d) := s.slotWindow
  let rate : Int := s.get F.RLP.CTRL.rate
  decide (2 * s.get F.RLP.SLOT_LEN.guard < s.get F.RLP.SLOT_LEN.len) && decide (o < c - d) &&
    decide (rate * (s.txStart t + 32) + 64 * ((t.payload.length : Int) + 8) ≤ rate * (c - d))

/-- The bytes of a frame with its sequence number (R441, R442). -/
def RadioTx.bytes (t : RadioTx) (seq : Nat) : List Byte :=
  let b := bytesBE 1 t.type ++ bytesBE 2 t.addr ++ bytesBE 1 seq ++ bytesBE 2 t.payload.length ++ t.payload
  b ++ bytesBE 2 (crc16 b)

/-- RL_TXEN rises (R447, R449); the answer is the frame driven. -/
def State.txSend (s : State) (t : RadioTx) (fwd : Bool) : State :=
  let seq := s.get F.RLP.TXSEQ.next
  let start := s.reg R.RLP.BCN_TIME + BitVec.ofInt 32 (s.txStart t)
  let s := ((s.setReg R.RLP.TX_WHEN start).put F.RLP.TXSEQ.next (seq + 1)).answer (t.bytes seq) 0
  ({ s with radio := { s.radio with sending := some (seq, fwd) } }).trig 3

/-- Ticks of the slot timer in one tick of CK27, at most (R72, R450): a moment that lies so near is due. -/
def State.slotSlack (s : State) : Nat := if s.ck06 then 8 else 245

/-- The predicted start of a frame is due (R454, R457). -/
def State.startDue (s : State) (t : RadioTx) : Bool := decide (s.txStart t ≤ s.fromRef s.slotNow + s.slotSlack)

/-- SLOT_WINDOW_TEST (R453, R454): at the predicted start. -/
def State.slotTest (s : State) : State :=
  if !s.pdOn 1 || s.radio.sending.isSome || !s.on F.RLP.STAT.ref_valid then s
  else
    match s.txNext with
    | none => s
    | some (t, fwd) => if !s.startDue t then s else if s.txFits t then s.txSend t fwd else s.txHold t fwd txGUARD

def execSlotWindowTest (s : State) : Out := .next s.slotTest.settle

/-- RL_TXEN falls: the frame ends with a result; one that waits behind it starts after now (R447, R448, R456). -/
def State.txEnd (s : State) (result cause bit : Nat) : State :=
  match s.radio.sending with
  | none => s
  | some (seq, fwd) =>
    let s := (s.txStat result cause seq).irq pageRLP bit
    let s := if result = rcOK then s.inc F.RLP.TXCNT.sent else s
    let s := s.txPut fwd none
    ({ s with radio := { s.radio with sending := none, fell := some s.slotNow } }).trig 4

/-- RL_TX_END. -/
def execRlTxEnd (s : State) : Out := .next (s.txEnd rcOK 0 0).settle

/-- The count is at W_close, or will be within `slack` ticks (R452, R456). -/
def State.closeDue (s : State) (slack : Nat) : Bool := decide (s.slotWindow.2.1 ≤ s.fromRef s.slotNow + slack)

/-- What is being sent at W_close is cut (R456). -/
def State.wClose (s : State) (slack : Nat) : State := if s.closeDue slack then s.txEnd rcABORTED txCUT 2 else s

/-- W_CLOSE. -/
def execWClose (s : State) : Out := .next (s.wClose s.slotSlack).settle

/-- RL_CLK_LOST (R456). -/
def execRlClkLost (s : State) : Out := .next (s.txEnd rcABORTED txCLK_LOST 2).settle

/-- The reference expires; armed frames that were waiting on it are held back (R451, R454). -/
def State.refExpire (s : State) : State :=
  if s.on F.RLP.STAT.ref_valid then
    let s := s.put F.RLP.STAT.ref_valid 0
    let stale (fwd : Bool) (s : State) : State :=
      match (if fwd then s.radio.fwd else s.radio.ring) with
      | some t =>
        if t.armed && !t.waits && decide (s.radio.sending.map (·.2) ≠ some fwd) then s.txHold t fwd txSTALE else s
      | none => s
    stale true (stale false s)
  else s

/-- The reference is bcn_max milliseconds old, or will be within `slack` ticks (R451). -/
def State.refDue (s : State) (slack : Nat) : Bool :=
  s.on F.RLP.STAT.ref_valid &&
    decide (8000 * s.get F.RLP.SLOT_CFG.bcn_max ≤ (s.reg R.RLP.ST_NOW - s.reg R.RLP.BCN_TIME).toNat + slack)

/-- REFERENCE_EXPIRE: within the tick in which it is due. -/
def execReferenceExpire (s : State) : Out := .next (if s.refDue s.slotSlack then s.refExpire else s).settle

/-- `n` ticks of the slot timer; a frame being sent past W_close is cut, and a reference older than bcn_max expires (R450, R451, R456). -/
def State.slotCount (s : State) (n : Nat) : State :=
  if s.slotRuns then
    let s := (s.setReg R.RLP.ST_NOW (s.reg R.RLP.ST_NOW + BitVec.ofNat 32 n)).wClose 0
    if s.refDue 0 then s.refExpire else s
  else s

/-! ### The RLP page -/

/-- A write to the RLP page's own registers (ch. 17 and 18). -/
def rlpWrite (x : Wr) (s : State) : State :=
  if x.a = R.RLP.CTRL then
    let r := F.RLP.CTRL.rate.get x.new
    if r = 0 ∨ 17 ≤ r then (s.storeNew (x.keep F.RLP.CTRL.rate)).blockCause x 0x10 else s.storeNew x
  else if x.a = R.RLP.SLOT_CFG then
    let s := s.storeNew x
    s.xoUser 3 (s.on F.RLP.SLOT_CFG.mode)
  else if x.a = R.RLP.CNTCLR then
    if x.on F.RLP.CNTCLR.clr then ((s.setReg R.RLP.TXCNT 0).setReg R.RLP.RXCNT 0).setReg R.RLP.RXERR 0 else s
  else if x.a = R.RLP.SV_CFG then
    if F.RLP.SV_CFG.dflt.get x.new = 3 then (s.storeNew (x.keep F.RLP.SV_CFG.dflt)).blockCause x 0x20 else s.storeNew x
  else if R.RLP.SV_UDEF ≤ x.a ∧ x.a < R.RLP.SV_UDEF + 8 then
    if 1020 < x.new.toNat % 1024 then s else s.storeNew x
  else if x.a = R.RLP.SV_QCFG then
    let c := F.RLP.SV_QCFG.count.get x.new
    s.storeNew (x.with F.RLP.SV_QCFG.count (max 1 (min 8 c)))
  else if x.a = R.RLP.SV_CNTCLR then
    if x.on F.RLP.SV_CNTCLR.clr then
      let s := (s.setReg R.RLP.SV_CNT0 0).setReg R.RLP.SV_CNT1 0
      foldState (fun k s => s.setReg (R.RLP.SV_HIT + 4 * k) 0) (numsFrom 8 0) s
    else s
  else if R.RLP.SV_RULE ≤ x.a ∧ x.a % 32 = 24 then
    let f := F.RLP.SV_RULE.decision.idx 32 (x.a % 0x1000 / 32 - 72)
    if f.get x.new = 3 then (s.storeNew (x.keep f)).blockCause x 0x20 else s.storeNew x
  else s.storeNew x

/-- RLP registers that a read computes. -/
def rlpRead (a : Nat) (s : State) : Word :=
  if a = R.RLP.STAT then
    let st := if s.radio.sending.isSome then 2 else if s.txNext.isSome || (s.radio.ring.map (·.waits)).getD false ||
      (s.radio.fwd.map (·.waits)).getD false then 1 else 0
    F.RLP.STAT.tx_state.put st (F.RLP.STAT.armed.put (b2n s.rlArmed) (s.reg a))
  else if a = R.RLP.BCN_INFO then F.RLP.BCN_INFO.valid.put (s.get F.RLP.STAT.ref_valid) (s.reg a)
  else if a = R.RLP.SV_QSTAT then
    BitVec.ofNat 32 (s.sieve.queue.length + 16 * queueBytes s.sieve.queue + 2 ^ 17 * b2n s.sieveCond)
  else s.reg a

end Sys2Proof.Machine
end

