-- ==== Sys2Proof/Machine/Trellis.lean ====
section
/-!
DEFINITION. The Trellis at work (R382 to R385, R393, R394): which ring a service slot goes to, what it fetches, and the end of a
receive descriptor or a transmit frame. Cipher jobs are Cipher.lean's, cartridge commands Cartridge.lean's; the host link reaches its
mailbox rings itself (R512).
-/
namespace Sys2Proof.Machine
open Sys2Proof

/-- The Ethernet port of a client. -/
def clientPort (c : Nat) : Nat := if c = clETH1_RX ∨ c = clETH1_TX then 1 else 0

/-- A transmit client takes a frame now (R434, R448). -/
def State.txReady (s : State) (c : Nat) : Bool :=
  if c = clRADIO_TX then s.pdOn 1 && s.on F.RLP.CTRL.tx_en && s.radio.ring.isNone
  else s.on (F.ETH.CTRL.en.ethPort (clientPort c)) && (s.eth (clientPort c)).ring.isNone

/-- Word 2 of entry `i` as it stands in memory. -/
def State.peekFlags (s : State) (n i : Nat) : Nat := s.loadN (s.descAddr n i + 8) 4

/-- How many of the first `k` posted descriptors from `i` on make up the transmit frame there: up to the first with eop, or up to one whose
reading halts the ring (R396); `none` while none of them does. -/
def State.frameSpan (s : State) (n : Nat) : Nat → Nat → Nat → Option Nat
  | 0, _, _ => none
  | k + 1, i, m =>
    if s.descRefused n (s.descAddr n i) || (s.peekFlags n i).testBit 17 then some (m + 1) else s.frameSpan n k (i + 1) (m + 1)

/-- Descriptors that a transmit service takes: a whole frame, or, where no eop is posted, all of more than 16 (R383; log 65). -/
def State.txSpan (s : State) (n : Nat) : Nat :=
  match s.frameSpan n (s.ringPosted n) (s.cidx n) 0 with
  | some m => m
  | none => if 16 < s.ringPosted n then s.ringPosted n else 0

/-- Ring `n` is a mailbox that offers a descriptor which the host link has not been shown (R393, R512). -/
def State.hostOffers (s : State) (n : Nat) : Bool :=
  s.hlkServes && decide (56 ≤ n ∧ n < 64) && s.mbPosted (n - 56) && !s.trl.shown.any fun e => decide (e.1 = n)

/-- R393: a ring is eligible. A PAUSING ring starts no further work (R391), but a mailbox still offers what is posted (R512). -/
def State.eligible (s : State) (n : Nat) : Bool :=
  let c := s.ringClient n
  if c = clHOST then s.hostOffers n
  else
    decide (s.ringState n = ringRUN) && decide (0 < s.ringPosted n) &&
      (if c = clCIPHER then s.engineFree && s.jobReady n
       else if clientRx c then decide (0 < s.ringHeld n)
       else if clientTx c then s.txReady c && decide (0 < s.txSpan n)
       else if c = clCART then s.cartReady
       else false)

/-- The slot may go to ring `n`: it is eligible, and of the cipher rings it is the one that R339 names. -/
def State.mayServe (s : State) (n : Nat) : Bool := s.eligible n && (decide (s.ringClient n ≠ clCIPHER) || decide (s.nextJobRing = some n))

/-- The eligible descriptors of ring `n`, from its head on: of a receive ring as many as there are frames for it (R393, R394). -/
def State.openEntries (s : State) (n : Nat) : List Nat :=
  if s.eligible n then
    (numsFrom (if clientRx (s.ringClient n) then min (s.ringPosted n) (s.ringHeld n) else s.ringPosted n) (s.cidx n)).map (· % 65536)
  else []

/-- A tick of CK27 passes for the eligible descriptors (R393); a mark stays with a descriptor that is not eligible any more (R394). -/
def State.waitTick (s : State) : State :=
  let now := ((numsFrom 96 0).map fun n => (s.openEntries n).map fun i => { s.waitOf n i with ticks := (s.waitOf n i).ticks + 1 }).flatten
  let old := s.trl.waits.filter fun w => w.deferred && !now.any fun v => decide (v.ring = w.ring ∧ v.idx = w.idx)
  { s with trl := { s.trl with waits := now ++ old } }

/-- A tick of CK27 passes for the Trellis. -/
def State.trlTick (s : State) : State := if s.pdOn 11 then s.waitTick.holdTick else s

/-- The oldest eligible descriptor of ring `n` has waited longer than SCHED.age_us, where 0 disables ageing (R393). Ticks are whole
microseconds: of a wait of just as many, `aged` tells. -/
def State.ageDue (s : State) (aged : List (Fin 96)) (n : Nat) : Bool :=
  let age := s.get F.TRL.SCHED.age_us
  let t := (s.waitOf n (s.cidx n)).ticks
  decide (age ≠ 0) && (decide (age < t) || (decide (t = age) && aged.any fun k => decide (k.val = n)))

/-- The effective class of a ring (R393). -/
def State.effClass (s : State) (aged : List (Fin 96)) (n : Nat) : Nat :=
  let c := s.ringClass n
  if 2 ≤ c ∧ s.ageDue aged n then 1 else c

/-- The rings in the order of the round robin (R393). -/
def State.ringOrder (s : State) : List Nat := numsFrom (95 - s.trl.last) (s.trl.last + 1) ++ numsFrom (s.trl.last + 1) 0

/-- The ring that the service slot goes to (R393). -/
def State.nextRing (s : State) (aged : List (Fin 96)) : Option Nat :=
  (s.ringOrder.filter s.mayServe).foldl (fun best n =>
    match best with
    | none => some n
    | some b => if s.effClass aged n < s.effClass aged b then some n else best) none

/-- Fetch `k` descriptors from entry `i` on, each judged (R381, R396). -/
def State.fetchDescs (s : State) (n : Nat) (g : Integ) : Nat → Nat → State × Option (List Desc)
  | 0, _ => (s, some [])
  | k + 1, i =>
    match s.fetchDesc n i g with
    | (s, none) => (s, none)
    | (s, some d) =>
      match State.fetchDescs s n g k (i + 1) with
      | (s, none) => (s, none)
      | (s, some ds) => (s, some ({ d with code := s.judgeDesc n d } :: ds))

/-- The code of a mailbox's descriptor (R381, R512). -/
def State.hostJudge (s : State) (n : Nat) (d : Desc) : Nat := if d.dirIn = s.mbOut (n - 56) then rcRANGE else s.judgeDesc n d

/-- A mailbox offers a descriptor: the link is shown it, or it completes at once (R512). -/
def State.hostShow (s : State) (n : Nat) (d : Desc) : State :=
  let code := s.hostJudge n d
  if code = rcOK then { s with trl := { s.trl with shown := s.trl.shown ++ [(n, d)] } }
  else s.completeDesc n d code 0 0 d.w3 d.cbyte

/-- The slot goes to ring `n`: every eligible descriptor of a lower effective class is deferred (R393, R394). -/
def State.slotTo (s : State) (aged : List (Fin 96)) (n : Nat) : State :=
  let losers := (numsFrom 96 0).filter fun k => s.eligible k && decide (s.effClass aged n < s.effClass aged k)
  let s := foldState (fun k s => foldState (State.deferEntry k) (s.openEntries k) s) losers s
  { s with trl := { s.trl with last := n } }

/-- Serve ring `n` of a client other than CIPHER (R381, R382, R393). -/
def State.serveRing (s : State) (n : Nat) (g : Integ) : State :=
  let c := s.ringClient n
  match s.fetchDescs n g (if clientTx c then s.txSpan n else 1) (s.cidx n) with
  | (s, none) => s
  | (s, some []) => s
  | (s, some (d :: ds)) =>
    if c = clHOST then s.hostShow n d
    else if c = clCART then s.cartOffer n d d.code
    else if clientRx c && decide (d.code ≠ rcOK) then s.completeDesc n d d.code 0 0 d.w3 d.cbyte
    else { s with trl := { s.trl with cur := some (n, d :: ds) } }

/-- One service slot (R393, R394), where it is one for a job of `want` (none: any work). -/
def State.trlService (s : State) (aged : List (Fin 96)) (want : Option Nat) (g : Integ) (ps : List Pulse) : Option State :=
  if !s.pdOn 11 || s.trl.cur.isSome then none
  else
    match s.nextRing aged with
    | none => none
    | some n =>
      let t := s.slotTo aged n
      if s.ringClient n = clCIPHER then t.takeJob n want g ps
      else if want.isSome then none
      else some (t.serveRing n g)

/-- DESCRIPTOR_SERVICE. -/
def execDescriptorService (aged : List (Fin 96)) (g : Integ) (ps : List Pulse) (s : State) : Out :=
  .next ((s.trlService aged none g ps).getD s).settle

/-! ### The job rows -/

/-- A job row: the next service slot, where it is the engine's and the job is of that operation; its request for randomness may have to wait
(R326). -/
def State.jobRow (s : State) (op : Nat) (g : Integ) (ps : List Pulse) : State :=
  match s.trlService [] (some op) g ps with
  | some t => (t.drbgServed .cipher).settle
  | none => if s.drbgWaits && s.engineFree && s.nextJobRing.isSome then s.drbgWait .cipher else s

def execAes (g : Integ) (s : State) : Out := .next (s.jobRow opAES g [])
def execTdea (g : Integ) (s : State) : Out := .next (s.jobRow opTDEA g [])
def execHash (g : Integ) (s : State) : Out := .next (s.jobRow opHASH g [])
def execHmac (g : Integ) (s : State) : Out := .next (s.jobRow opHMAC g [])
def execEcdsaP256 (g : Integ) (ps : List Pulse) (s : State) : Out := .next (s.jobRow opECDSA g ps)
def execEd25519 (g : Integ) (s : State) : Out := .next (s.jobRow opED25519 g [])
def execEcdhP256 (g : Integ) (ps : List Pulse) (s : State) : Out := .next (s.jobRow opECDH g ps)
def execX25519 (g : Integ) (ps : List Pulse) (s : State) : Out := .next (s.jobRow opX25519 g ps)
def execKeygen (s : State) : Out := .next (s.jobRow opKEYGEN .ok [])
def execDerive (g : Integ) (s : State) : Out := .next (s.jobRow opDERIVE g [])
def execWrap (s : State) : Out := .next (s.jobRow opWRAP .ok [])
def execUnwrap (g : Integ) (s : State) : Out := .next (s.jobRow opUNWRAP g [])
def execLoad (g : Integ) (s : State) : Out := .next (s.jobRow opLOAD g [])
def execZeroSlot (s : State) : Out := .next (s.jobRow opZERO_SLOT .ok [])
def execCpnHold (s : State) : Out := .next (s.jobRow opCPN_HOLD .ok [])
def execCpnDrop (s : State) : Out := .next (s.jobRow opCPN_DROP .ok [])

/-! ### The end of a service -/

/-- A receive descriptor takes the first frame that its client holds (R379, R382, R385). -/
def State.rxComplete (s : State) (n : Nat) (d : Desc) (g : Integ) : State :=
  match s.trl.rx.find? fun f => decide (f.ring = n) with
  | none => s
  | some f =>
    let data := f.bytes.take d.len
    let (s, k) := State.dmaWriteLen .port (s.ringWorld n) g (data.length + 1) s d.w0 data
    let s := { s with trl := { s.trl with rx := s.trl.rx.erase f } }
    let flags := b2n (decide (d.len < f.bytes.length)) + 2 * b2n f.err
    if k = data.length then s.completeDesc n d rcOK f.bytes.length flags f.word3 f.cbyte
    else s.completeDesc n d rcABORTED k flags f.word3 f.cbyte

/-- Complete the descriptors of a frame, each with its code and length, until the ring halts. -/
def State.completeAll (s : State) (n : Nat) : List (Desc × Nat × Nat) → State
  | [] => s
  | (d, code, ret) :: l =>
    if s.ringState n = ringHALTED then s
    else State.completeAll (s.completeDesc n d code ret 0 d.w3 d.cbyte) n l

/-- Read a frame's data, descriptor by descriptor: the bytes, and what came of each where one failed (R385). -/
def State.txGather (s : State) (n : Nat) (g : Integ) : List Desc → State × List Byte × List Nat × Bool
  | [] => (s, [], [], true)
  | d :: ds =>
    let (s, b, ok) := s.dmaLoad .port (s.ringWorld n) g d.w0 d.len
    if ok then
      let (s, bs, rets, fine) := State.txGather s n g ds
      (s, b ++ bs, d.len :: rets, fine)
    else (s, [], b.length :: ds.map (fun _ => 0), false)

/-- The client takes a whole frame (R383, R433, R448). -/
def State.txHand (s : State) (c : Nat) (d : Desc) (b : List Byte) : State :=
  if c = clRADIO_TX then
    { s with radio := { s.radio with ring := some ⟨d.cbyte, s.get F.RLP.ADDR.addr, b, d.w3, false, 0, false⟩ } }
  else s.setEth (clientPort c) { s.eth (clientPort c) with ring := some b }

/-- Lengths that a transmit client takes (R433, R448). -/
def txLenOk (c n : Nat) : Bool := if c = clRADIO_TX then decide (0 < n ∧ n ≤ 1024) else decide (14 ≤ n ∧ n ≤ 1518)

/-- A transmit frame ends (R383, R385). -/
def State.txComplete (s : State) (n : Nat) (ds : List Desc) (g : Integ) : State :=
  let c := s.ringClient n
  match ds with
  | [] => s
  | d :: _ =>
    if !d.sop || decide (16 < ds.length) then s.completeAll n (ds.map fun d => (d, rcRANGE, 0))
    else if ds.any (fun d => decide (d.code ≠ rcOK)) then
      s.completeAll n (ds.map fun d => (d, if d.code = rcOK then rcABORTED else d.code, 0))
    else if !txLenOk c (ds.foldl (fun n d => n + d.len) 0) then s.completeAll n (ds.map fun d => (d, rcRANGE, 0))
    else
      let (s, b, rets, ok) := s.txGather n g ds
      let code := if ok then rcOK else rcABORTED
      let s := if ok then s.txHand c d b else s
      s.completeAll n ((ds.zip rets).map fun e => (e.1, code, e.2))

/-- The data of a transmit frame lies in a busy flash bank (R284). -/
def State.txStalls (s : State) (n : Nat) (ds : List Desc) : Bool := clientTx (s.ringClient n) && ds.any fun d => s.dmaStalls d.w0 d.len

/-- DESCRIPTOR_COMPLETE: the service in progress ends, and with it a pause of its ring (R391). -/
def State.trlComplete (s : State) (g : Integ) : State :=
  match s.trl.cur with
  | none => s
  | some (n, ds) =>
    if s.txStalls n ds then s
    else
      let s := { s with trl := { s.trl with cur := none } }
      let ds := ds.map fun d => { d with back := g }
      let s := if clientTx (s.ringClient n) then s.txComplete n ds g
        else
          match ds with
          | [] => s
          | d :: _ => s.rxComplete n d g
      s.ringPaused n

def execDescriptorComplete (g : Integ) (s : State) : Out := .next (s.trlComplete g).settle

end Sys2Proof.Machine
end

