-- ==== Sys2Proof/Machine/HostLink.lean ====
section
/-!
DEFINITION. The host link (R506 to R518): frames, mailboxes, host interrupts, and the HLK page. The bytes that the host sends are
operands; what the Y880 sends back is the answer.
-/
namespace Sys2Proof.Machine
open Sys2Proof

/-- The link reaches the oldest posted descriptor of mailbox `m`: the one it has been shown, or one that it is served now; one whose `in`
disagrees, or that R381 refuses, completes and the next is taken (R381, R393, R512). The first number bounds how many are passed over. -/
def State.mbReach (m : Nat) (g : Integ) : Nat → State → State × Option Desc
  | 0, s => (s, none)
  | k + 1, s =>
    let n := mbRing m
    if !s.mbPosted m then (s, none)
    else
      match s.trl.shown.find? fun e => decide (e.1 = n) with
      | some e => (s, some (if g = .ok then e.2 else { e.2 with back := g }))
      | none =>
        let s := s.slotTo [] n
        match s.fetchDesc n (s.cidx n) g with
        | (s, none) => (s, none)
        | (s, some d) => State.mbReach m g k (s.hostShow n d)

/-- The descriptor that mailbox `m` offers, if any. -/
def State.mbDesc (s : State) (m : Nat) (g : Integ) : State × Option Desc := State.mbReach m g (s.ringPosted (mbRing m) + 1) s

/-- A mailbox's descriptor completes, and with it a pause of its ring (R391). -/
def State.mbDone (s : State) (m : Nat) (d : Desc) (code ret cbyte : Nat) : State :=
  (s.completeDesc (mbRing m) d code ret 0 d.w3 cbyte).ringPaused (mbRing m)

/-- A latched host interrupt bit (R517). -/
def State.hostBit (s : State) (k : Nat) : State := s.put (F.HLK.HOSTIRQ.raw.bit k) 1

/-- The error interrupt for a code other than OK (R517). -/
def State.hlkError (s : State) (code : Nat) : State := if code = rcOK then s else (s.hostBit 2).irq pageHLK 2

/-- A frame starts: its mode is taken and it is counted (R507). -/
def State.hlkFrame (s : State) (mode3 : Bool) : State := (s.putB F.HLK.STAT.mode3 mode3).inc F.HLK.CNT0.frames

/-- A frame that R510 ignores. -/
def State.hlkBad (s : State) : State := s.inc F.HLK.CNT1.bad_frame

/-- R510: the frame is refused for its width or its mailbox. -/
def State.hlkIgnored (s : State) (quad : Bool) (body : List Byte) : Bool :=
  (quad && !s.on F.HLK.CTRL.quad_en) || decide (7 < frameByte body 0)

/-- The opcode byte of a frame. -/
def hlkOp (op : Nat) (quad : Bool) : Byte := BitVec.ofNat 8 (op + if quad then 0x80 else 0)

/-- A byte of INSEQ or OUTSEQ. -/
def mbSeq (base m : Nat) : Fld := ⟨base + 4 * (m / 4), 8 * (m % 4) + 7, 8 * (m % 4)⟩

/-- `n` bytes that the spec leaves undefined (log 6). -/
def State.drawBytes (s : State) (n : Nat) : List Byte × State :=
  let (k, s) := s.draw
  ((numsFrom n 0).map (Config.freeByte k), s)

/-- Record a write's code (R513). -/
def State.lastWr (s : State) (code m seq : Nat) (dup : Bool) : State :=
  let s := s.setReg R.HLK.LASTWR (BitVec.ofNat 32 (code + 2 ^ 8 * m + 2 ^ 11 * b2n dup + 2 ^ 16 * seq))
  let s := if code = rcCRC then s.inc F.HLK.CNT0.crc else if code = rcREFUSED_QUOTA then s.inc F.HLK.CNT1.quota
    else if code = rcBOUNDS then s.inc F.HLK.CNT1.bounds else if code = rcABORTED then s.inc F.HLK.CNT1.aborted else s
  s.hlkError code

/-- Outcomes 2, 3 and 6 of R513: the descriptor stays posted with its buffer undefined, unless the stream itself was refused (R385). -/
def State.mbSpoil (s : State) (m : Nat) (code n : Nat) (g : Integ) : State × Nat :=
  match s.mbDesc m g with
  | (s, none) => (s, code)
  | (s, some d) =>
    let n := min n d.len
    if n = 0 then (s, code)
    else
      let (bs, s) := s.drawBytes d.len
      let w := s.ringWorld (mbRing m)
      let (s, k) := State.dmaWriteLen .host w g (d.len + 1) s d.w0 bs
      if n ≤ k then (s, code) else (s.mbDone m d rcABORTED (min k n) d.cbyte, rcABORTED)

/-- The judgement of a MSG_WRITE (R513): `body` is what follows the opcode. -/
def State.msgJudge (s : State) (op : Byte) (body : List Byte) (g : Integ) : State :=
  let m := frameByte body 0
  let seq := frameByte body 1
  let len := frameNum body 2 2
  let pay := (body.drop 4).take len
  if body.isEmpty then (s.put F.HLK.LASTWR.code rcABORTED).inc F.HLK.CNT1.aborted |>.hlkError rcABORTED
  else if s.mbOut m || (decide (4 ≤ body.length) && decide (len = 0)) then s.lastWr rcRANGE m seq false
  else if body.length < 6 + len then
    let (s, c) := s.mbSpoil m rcABORTED pay.length g
    s.lastWr c m seq false
  else if crc16 (op :: body.take (4 + len)) ≠ frameNum body (4 + len) 2 then
    let (s, c) := s.mbSpoil m rcCRC len g
    s.lastWr c m seq false
  else if (s.get F.HLK.INSEQ_V.valid).testBit m && decide (s.get (mbSeq R.HLK.INSEQ m) = seq) then
    (s.inc F.HLK.CNT2.dup).lastWr rcOK m seq true
  else
    match s.mbDesc m g with
    | (s, none) => s.lastWr rcREFUSED_QUOTA m seq false
    | (s, some d) =>
      if d.len < len then
        let (s, c) := s.mbSpoil m rcBOUNDS len g
        s.lastWr c m seq false
      else
        let (s, k) := State.dmaWriteLen .host (s.ringWorld (mbRing m)) g (len + 1) s d.w0 pay
        if k = len then
          let s := s.mbDone m d rcOK len seq
          let s := (s.put (mbSeq R.HLK.INSEQ m) seq).put (F.HLK.INSEQ_V.valid.bit m) 1
          (s.irq pageHLK 0).lastWr rcOK m seq false
        else (s.mbDone m d rcABORTED k d.cbyte).lastWr rcABORTED m seq false

/-- MSG_WRITE. -/
def execMsgWrite (quad mode3 : Bool) (body : List Byte) (g : Integ) (s : State) : Out :=
  if s.hlkServes then
    let s := s.hlkFrame mode3
    .next (if s.hlkIgnored quad body then s.hlkBad else s.msgJudge (hlkOp 2 quad) body g).settle
  else .next s

/-- Record the code of a read, an acknowledgement or an IRQ_CLR. -/
def State.lastRd (s : State) (code : Nat) : State := (s.put F.HLK.LASTRD.code code).hlkError code

/-- The answer to a MSG_READ: `sent` after the opcode and mailbox byte, with its CRC or the inverted CRC (R509, R516). -/
def State.msgAnswer (s : State) (op : Byte) (m : Nat) (sent : List Byte) (invert : Bool) : State :=
  let c := crc16 (op :: BitVec.ofNat 8 m :: sent)
  s.answer (sent ++ bytesBE 2 (if invert then c ^^^ 0xFFFF else c)) 0

/-- A MSG_READ (R514, R516): `missing` names the payload bytes that the fetch does not bring in time. -/
def State.msgRead (s : State) (op : Byte) (body : List Byte) (missing : List Nat) (g : Integ) : State :=
  let m := frameByte body 0
  let s := { s with hlkUnderrun := false }
  if body.isEmpty then s
  else
    let s := s.put F.HLK.LASTRD.mbox m
    if !s.mbOut m then (s.msgAnswer op m [0, 0, 0] false).lastRd rcRANGE
    else
      match s.mbDesc m g with
      | (s, none) => (s.msgAnswer op m [0, 0, 0] false).lastRd rcABSENT
      | (s, some d) =>
        let seq := (s.get (mbSeq R.HLK.OUTSEQ m) + 1) % 256
        let missing := if s.dmaStalls d.w0 d.len then numsFrom d.len 0 else missing
        let (s, b, ok) := s.dmaLoad .host (s.ringWorld (mbRing m)) g d.w0 d.len
        let head := bytesBE 1 seq ++ bytesBE 2 d.len
        if ok then
          let late := missing.any fun k => decide (k < d.len)
          let b := (b.zip (numsFrom d.len 0)).map fun e => if missing.contains e.2 then 0xFF else e.1
          let s := (s.msgAnswer op m (head ++ b) late).lastRd rcOK
          if late then (({ s with hlkUnderrun := true }.inc F.HLK.CNT2.underrun).hostBit 2).irq pageHLK 2 else s
        else
          let s := s.msgAnswer op m (head ++ b ++ List.replicate (d.len - b.length) 0xFF) true
          (s.mbDone m d rcABORTED b.length d.cbyte).lastRd rcABORTED

def execMsgRead (quad mode3 : Bool) (body : List Byte) (missing : List Nat) (g : Integ) (s : State) : Out :=
  if s.hlkServes then
    let s := s.hlkFrame mode3
    .next (if s.hlkIgnored quad body then s.hlkBad else s.msgRead (hlkOp 3 quad) body missing g).settle
  else .next s

/-- A MSG_ACK (R515). -/
def State.msgAck (s : State) (op : Byte) (body : List Byte) : State :=
  let m := frameByte body 0
  let seq := frameByte body 1
  if body.length < 4 ∨ crc16 (op :: body.take 2) ≠ frameNum body 2 2 then (s.inc F.HLK.CNT0.crc).lastRd rcCRC
  else
    let s := s.put F.HLK.LASTRD.mbox m
    let (s, d) := if s.mbOut m then s.mbDesc m .ok else (s, none)
    match d with
    | some d =>
      if seq = (s.get (mbSeq R.HLK.OUTSEQ m) + 1) % 256 then
        let s := (s.mbDone m d rcOK d.len seq).put (mbSeq R.HLK.OUTSEQ m) seq
        (s.irq pageHLK 1).lastRd rcOK
      else (s.inc F.HLK.CNT2.state).lastRd rcSTATE
    | none => (s.inc F.HLK.CNT2.state).lastRd rcSTATE

def execMsgAck (quad mode3 : Bool) (body : List Byte) (s : State) : Out :=
  if s.hlkServes then
    let s := s.hlkFrame mode3
    .next (if s.hlkIgnored quad body then s.hlkBad else s.msgAck (hlkOp 4 quad) body).settle
  else .next s

/-- An IRQ_CLR (R517). -/
def State.irqClr (s : State) (body : List Byte) : State :=
  if body.length < 3 ∨ crc16 (0x05 :: body.take 1) ≠ frameNum body 1 2 then (s.inc F.HLK.CNT0.crc).lastRd rcCRC
  else
    let mask := frameByte body 0 &&& 0xE
    (s.put F.HLK.HOSTIRQ.raw (s.get F.HLK.HOSTIRQ.raw &&& (0xF ^^^ mask))).lastRd rcOK

def execIrqClr (mode3 : Bool) (body : List Byte) (s : State) : Out :=
  if s.hlkServes then .next ((s.hlkFrame mode3).irqClr body).settle else .next s

/-- The STATUS bytes (R511). -/
def State.hlkStatus (s : State) : List Byte :=
  let bit (p : Nat → Bool) : Nat := (numsFrom 8 0).foldl (fun v m => if p m then v + 2 ^ m else v) 0
  let w := (s.reg R.HLK.LASTWR).toNat
  let b : List Nat := [
    b2n (s.on F.HLK.CTRL.ready) + 2 * b2n (s.on F.HLK.CTRL.quad_en) + 4 * b2n s.hlkUnderrun,
    s.get F.HLK.CTRL.session,
    bitsOf w 7 0,
    bitsOf w 10 8 + 128 * bitsOf w 11 11,
    bitsOf w 23 16,
    bit fun m => !s.mbOut m && s.mbPosted m,
    bit fun m => s.mbOut m && s.mbPosted m,
    s.hostRaw,
    s.get F.HLK.LASTRD.code]
  b.map (BitVec.ofNat 8) ++ List.replicate 7 0

/-- Opcodes of R509. -/
def hlkOpcodes : List Nat := [0x01, 0x02, 0x82, 0x03, 0x83, 0x04, 0x84, 0x05]

/-- STATUS (R511); a frame whose opcode R509 does not list is R510's. Frames of the other opcodes are rows of their own. -/
def execStatus (op : Byte) (mode3 : Bool) (s : State) : Out :=
  if s.hlkServes then
    if op.toNat = 0x01 then
      let s := s.hlkFrame mode3
      let b := s.hlkStatus
      .next (s.answer (b ++ bytesBE 2 (crc16 (op :: b))) 0)
    else if hlkOpcodes.contains op.toNat then .next s
    else .next (s.hlkFrame mode3).hlkBad
  else .next s

/-- A write to the HLK page's own registers. -/
def hlkWrite (x : Wr) (s : State) : State :=
  if x.a = R.HLK.CTRL then
    let s := s.storeNew x
    if F.HLK.CTRL.en.get x.new = 1 ∧ F.HLK.CTRL.en.get x.old = 0 then s.hostBit 3 else s
  else if x.a = R.HLK.MBDIR then (if s.on F.HLK.CTRL.en then s.blockCause x 0x10 else s.storeNew x)
  else if x.a = R.HLK.DOORBELL then (if x.on F.HLK.DOORBELL.ring then s.hostBit 1 else s)
  else if x.a = R.HLK.CNTCLR then
    if x.on F.HLK.CNTCLR.clr then ((s.setReg R.HLK.CNT0 0).setReg R.HLK.CNT1 0).setReg R.HLK.CNT2 0 else s
  else s.storeNew x

/-- HLK registers that a read computes. -/
def hlkRead (a : Nat) (s : State) : Word :=
  if a = R.HLK.HOSTIRQ then s.hostIrqWord else s.reg a

end Sys2Proof.Machine
end

