-- ==== Sys2Proof/Machine/Smpu.lean ====
section
/-!
DEFINITION. The SMPU page: region writes and their judgement (R274, R275), the rule barriers (R276 to R278), the memory and bus keys
(R257, R258), coherence retries (R263); and the COL and CPU pages' own registers.
-/
namespace Sys2Proof.Machine
open Sys2Proof

/-! ### Region registers -/

/-- The parts that a region covers: [first, end) pairs (R270). -/
def Rule.parts (r : Rule) : List (Nat × Nat) :=
  if r.subMode then
    let n := 2 ^ (r.size - 3)
    ((numsFrom 8 0).filter fun k => !r.srd.testBit k).map fun k => (r.baseAddr + n * k, r.baseAddr + n * (k + 1))
  else [(r.baseAddr, r.baseAddr + 2 ^ r.size)]

/-- The covered parts of two regions overlap. -/
def Rule.overlaps (r q : Rule) : Bool := r.parts.any fun a => q.parts.any fun b => decide (a.1 < b.2 ∧ b.1 < a.2)

/-- The channel and region of a region register's address. -/
def regionChannel (a : Nat) : Nat := a % 0x400 / 0x80
def regionIndex (a : Nat) : Nat := a % 0x80 / 8

/-- The rule that would overlap an enabled pending rule of its channel (R274). -/
def State.overlapsPending (s : State) (ch n : Nat) (r : Rule) : Bool :=
  (numsFrom 16 0).any fun m => decide (m ≠ n) && (s.pendingRule ch m).en && r.overlaps (s.pendingRule ch m)

/-- SMPU causes. -/
def causeOVERLAP_EN : Nat := 0x10
def causeBAD_SIZE : Nat := 0x11
def causeBAD_MODE : Nat := 0x12
def causeBAD_SYNC : Nat := 0x13
def causeKEY_LATE : Nat := 0x14

/-- The cause that refuses a region whose registers would hold `r` (R274, R275), if one does. -/
def State.regionJudge (s : State) (ch n : Nat) (r : Rule) : Option Nat :=
  if !r.en then none
  else if !r.sizeOk then some causeBAD_SIZE
  else if r.subMode && decide (2 ≤ ch) then some causeBAD_MODE
  else if r.subMode && decide (r.size < 8) then some causeBAD_SIZE
  else if s.overlapsPending ch n r then some causeOVERLAP_EN
  else none

/-- A write of RBASEn or RATTRn; one whose fields a lock keeps is not judged (R274). -/
def State.regionWrite (s : State) (x : Wr) : State :=
  let ch := regionChannel x.a
  let n := regionIndex x.a
  let old := s.pendingRule ch n
  let r : Rule := if x.a = aRbase ch n then { old with base := x.new } else { old with attr := x.new }
  if s.locked x.p then s.storeNew x
  else
    match s.regionJudge ch n r with
    | none => s.storeNew x
    | some k => (s.blockCause x k).inc (if k = causeOVERLAP_EN then F.SMPU.REFUSE.overlap else F.SMPU.REFUSE.other)

/-! ### Barriers -/

/-- SYNC_DONE bit `n`. -/
def syncBit (n : Nat) : Fld := F.SMPU.SYNC_DONE.done.bit n

/-- A write of SYNC (R277). -/
def State.syncWrite (s : State) (x : Wr) : State :=
  let v := x.bits F.SMPU.SYNC.sync
  let s := s.put F.SMPU.SYNC_DONE.done (s.get F.SMPU.SYNC_DONE.done - (s.get F.SMPU.SYNC_DONE.done &&& v))
  if v % 4 ≠ 0 then s.blockCause x causeBAD_SYNC else s

/-- The channel's pending rules differ from its active rules (R278). -/
def State.rulesPend (s : State) (ch : Nat) : Bool :=
  (aChctrl ch :: ((numsFrom 16 0).map (aRbase ch) ++ (numsFrom 16 0).map (aRattr ch))).any fun a =>
    decide (tabGet 0 s.mpuActive a ≠ s.reg a)

/-- SYNC_DONE: the checked accesses of channel `n` have drained and it switches to its pending rules (R277). -/
def execSyncDone (n : Fin 8) (s : State) : Out :=
  if 2 ≤ n.val ∧ ¬ s.on (syncBit n) then
    .next (((s.activate n).put (syncBit n) 1).irq pageSMPU 9).settle
  else .next s

/-! ### Keys -/

/-- Load new memory and bus-beat keys (R257): both are drawn from the DRBG over the key store's wire, and the rows of powered banks and every
tag are cleared. While the DRBG cannot serve, the load waits (R326, R330); in FAILED the keys stay as they are (R324). -/
def State.memkeyLoad (s : State) : State :=
  if s.drbgWaits then s.drbgWait .keyStore
  else
    let (o, s) := s.drbg 64
    let s := match o with | some k => { s with memKeys := k } | none => s
    -- a row whose initialised bit is 0 reads as zeros (R255)
    let bank (d lo hi : Nat) (s : State) : State := if s.pdOn d then (s.clearRows lo hi).clearMem lo hi else s
    let s := bank 6 0x28000000 0x28020000 (bank 5 0x20040000 0x20080000 (bank 4 0x20000000 0x20040000 s))
    { s with tags := [] }.put F.SMPU.MEMKEY.loaded 1

/-- Core 0's PCC lies in the boot ROM (R258). -/
def State.inRom (s : State) : Bool :=
  let p := s.core0.bank.pcc
  decide (p.base + p.length ≤ 0x8000 ∧ 0 < p.length)

/-- A write of 1 to MEMKEY.load (R257, R258). -/
def State.memkeyWrite (s : State) (x : Wr) : State :=
  if !x.on F.SMPU.MEMKEY.load then s
  else if x.ini = .core0 ∧ s.inRom then s.memkeyLoad
  else s.blockCause x causeKEY_LATE

/-! ### The page -/

/-- A write to the SMPU page's own registers. -/
def smpuWrite (x : Wr) (s : State) : State :=
  if R.SMPU.RBASE ≤ x.a then s.regionWrite x
  else if x.a = R.SMPU.SYNC then s.syncWrite x
  else if R.SMPU.MFAULT ≤ x.a ∧ x.a < R.SMPU.MFAULT + 32 then
    if x.act.getLsbD 15 then
      let ch := x.a % 32 / 4
      (s.setReg x.a (x.old &&& 0xFFFF0000)).setReg (R.SMPU.MFADDR + 4 * ch) 0
    else s
  else if x.a = R.SMPU.MEMKEY then s.memkeyWrite x
  else if x.a = R.SMPU.CNTCLR then
    if x.on F.SMPU.CNTCLR.clr then
      (((s.setReg R.SMPU.REFUSE 0).put F.SMPU.INTEG.sram 0).put F.SMPU.INTEG.beat 0).setReg R.SMPU.COH 0
    else s
  else s.storeNew x

/-- SMPU registers that a read computes: PEND (R278), and base bits below the region's size (R275). -/
def smpuRead (a : Nat) (s : State) : Word :=
  if a = R.SMPU.PEND then BitVec.ofNat 32 ((numsFrom 8 0).foldl (fun m ch => if s.rulesPend ch then m + 2 ^ ch else m) 0)
  else if R.SMPU.RBASE ≤ a ∧ a % 8 = 0 then
    BitVec.ofNat 32 (s.pendingRule (regionChannel a) (regionIndex a)).baseAddr
  else s.reg a

/-- COH_RETRY (R263, R264): a request of agent `r.ini` for line `r.line` finds it in transit from an operation that the fabric has served
earlier in the cycle, so of an agent before it in the order of service; it is answered with retry, and its agent presents it again, after the
operation that came first. Any other request is served and not retried. -/
def execCohRetry (r : CohRequest) (s : State) : Out :=
  .next (match s.fab.op with
    | some (l, k) => if l = lineOf r.line ∧ k < cohRank r.ini ∧ hasTags r.line ∧ r.ini ≠ .mgmt then s.inc F.SMPU.COH.retries else s
    | none => s)

/-! ### The COL page -/

/-- A write to the COL page's own registers. -/
def colWrite (x : Wr) (s : State) : State :=
  if x.a = R.COL.CFG then
    let bad := decide (14 ≤ F.COL.CFG.entry_mask.get x.new)
    let y := if bad then x.keep F.COL.CFG.entry_mask else x
    let y := if F.COL.CFG.max_recover.get y.new = 0 then y.with F.COL.CFG.max_recover 1 else y
    let s := s.storeNew y
    if bad then s.blockCause x 0x10 else s
  else if x.a = R.COL.BUDGET then
    s.storeNew (if F.COL.BUDGET.call_us.get x.new < 10 then x.with F.COL.BUDGET.call_us 10 else x)
  else if x.a = R.COL.BUDGET2 then
    let x := if F.COL.BUDGET2.boot.get x.new = 0 then x.with F.COL.BUDGET2.boot 1 else x
    s.storeNew (if F.COL.BUDGET2.recover.get x.new = 0 then x.with F.COL.BUDGET2.recover 1 else x)
  else if x.a = R.COL.CNTCLR then
    if x.on F.COL.CNTCLR.clr then ((s.setReg R.COL.CNT0 0).setReg R.COL.CNT1 0).setReg R.COL.CNT2 0 else s
  else s.storeNew x

/-- The budget timer reaches its limit: the stay is aborted with cause BUDGET (R245, R246). It does not count while the probe halts the
occupant (R148, R244). -/
def State.budgetExpire (s : State) : State :=
  let c : CoreId := if s.get F.COL.STAT.occupant = 0 then .core0 else .core1
  if s.on F.COL.STAT.held && s.col.budgetRun && !(s.core c).halted then s.colAbort c wiltBUDGET else s

/-- COL_BUDGET_EXPIRE: at the last microsecond of the limit. -/
def execColBudgetExpire (s : State) : Out := .next (if s.col.limit ≤ 1 then s.budgetExpire else s).settle

/-- The holdoff has passed (R248): the Col, if not CLOSED, allows a recovery run. -/
def State.holdoffExpire (s : State) : State :=
  if s.col.holdoff.isSome then
    let s := { s with col := { s.col with holdoff := none } }
    if s.on F.COL.STAT.wilted && !s.on F.COL.STAT.closed then s.put F.COL.STAT.recover_due 1 else s
  else s

/-- COL_HOLDOFF_EXPIRE: at the last tick of the holdoff. -/
def execColHoldoffExpire (s : State) : Out := .next (if s.col.holdoff.all (· ≤ 1) then s.holdoffExpire else s).settle

/-! ### The CPU pages -/

/-- The core of a CPU page's address. -/
def cpuOf (a : Nat) : CoreId := if pageOf a = pageCPU0 then .core0 else .core1

/-- A register of the CPU page of core `c`, from its address on CPU0. -/
def cpuReg (a : Nat) (c : CoreId) : Nat := a + 0x1000 * coreNum c

/-- A write to a CPU page's own registers: CNTCLR (R167, R168). -/
def cpuWrite (x : Wr) (s : State) : State :=
  let c := cpuOf x.a
  if x.a = cpuReg R.CPU.CNTCLR c ∧ x.on (F.CPU.CNTCLR.clr.cpu c) then
    let s := (s.setReg (cpuReg R.CPU.CAPCNT c) 0).setReg (cpuReg R.CPU.STALE c) 0
    (s.put (F.CPU.EPOCH_STAT.state_refused.cpu c) 0).put (F.CPU.EPOCH_STAT.busy_refused.cpu c) 0
  else s

/-- CPU registers that a read computes: RUN, SWEEP, the sweep-done bits and the epoch file. -/
def cpuRead (a : Nat) (s : State) : Word :=
  let c := cpuOf a
  let k := s.core c
  if a = cpuReg R.CPU.RUN c then
    BitVec.ofNat 32 (b2n k.executing + 2 * b2n k.wfi + 4 * worldCode k.world + 16 * k.mask)
  else if a = cpuReg R.CPU.SWEEP c then
    BitVec.ofNat 32 (s.sweepLast.1 + 2 ^ 8 * b2n s.sweep.isSome + 2 ^ 16 * s.sweepLast.2)
  else if a = cpuReg R.CPU.SWEEP_DONE_LO c then BitVec.ofNat 32 s.sweepDone
  else if a = cpuReg R.CPU.SWEEP_DONE_HI c then BitVec.ofNat 32 (s.sweepDone / 2 ^ 32)
  else if cpuReg R.CPU.EPOCH c ≤ a ∧ a < cpuReg R.CPU.EPOCH c + 64 then
    let m := (a - cpuReg R.CPU.EPOCH c) / 4
    BitVec.ofNat 32 (natLE ((numsFrom 4 (4 * m)).map fun i => BitVec.ofNat 8 (s.epochOf i)))
  else s.reg a

end Sys2Proof.Machine
end

