-- ==== Sys2Proof/Machine/Service.lean ====
section
/-!
DEFINITION. Who is served next by the DRBG and the cipher engine (R326, R330, R331, R339), and the events that free them: a seed, the end
of a test, a domain that is up, the end of a job.
-/
namespace Sys2Proof.Machine
open Sys2Proof

/-- The first private request that waits is served (R330). A cipher job that waits is taken by its own command, and holds those after it. -/
def State.drbgServeOne (s : State) : State :=
  match s.ent.waiting with
  | [] => s
  | u :: _ =>
    if s.drbgWaits then s
    else
      let t := s.drbgServed u
      match u with
      | .keyStore => t.memkeyLoad
      | .cipher => if s.engineFree && s.nextJobRing.isSome then s else t
      | .cloche => t.cloReseed
      | .jitter _ => t.drbgTake

/-- Private requests that wait are served in order. -/
def State.drbgServe (s : State) : State := foldState (fun _ s => s.drbgServeOne) (numsFrom 5 0) s

/-- What waits for the engine and the DRBG goes on: the life-cycle block, private requests, the FIFO, a suspended job. -/
def State.serve (s : State) : State := (s.lcServe.drbgServe.fillFifo).resumeJob

/-- SEED_READY: the conditioner has made a seed of the raw bits; what waits for it goes on (R323, R326). -/
def execSeedReady (raw : BitVec 6144) (s : State) : Out := .next (s.seedMade raw).serve.settle

/-- ENT_TEST_DONE: the test of the sources ends (R322). -/
def execEntTestDone (samples : List (List Bool)) (s : State) : Out := .next (s.testEnds samples).serve.settle

/-- RESEED: the DRBG reseeds from a ready seed after 1,024 requests, or in the background (R326, R327). -/
def execReseed (s : State) : Out :=
  if s.ent.bg || decide (s.get F.ENT.REQCNT.since = 1024) then .next s.reseed.serve.settle else .next s

/-- JITTER_DRBG_REQUEST: the jitter generator of a running core takes one request while PD9 is on (R330). -/
def execJitterDrbgRequest (c : CoreId) (s : State) : Out :=
  if (s.core c).executing && s.pdOn 9 then .next (if s.drbgWaits then s.drbgWait (.jitter c) else s.drbgTake) else .next s

/-- CLOCHE_GENERATOR_RESEED: the Cloche draws a word for its burst generator while PD9 is on (R330, R357). -/
def execClocheGeneratorReseed (s : State) : Out :=
  if s.pdOn 9 then .next (if s.drbgWaits then s.drbgWait .cloche else s.cloReseed) else .next s

/-- DOMAIN_POWER_UP: the domain in progress is up (R81). -/
def execDomainPowerUp (s : State) : Out := .next s.powerUpDone.serve.settle

/-- CIPHER_JOB_DONE: the running job completes, and the engine goes on (R339). -/
def execCipherJobDone (cycles : Word) (g : Integ) (s : State) : Out := .next (s.jobDone cycles.toNat g).serve.settle

/-- PK_STEP_BOUNDARY: a step of a public-key operation ends (R340). -/
def execPkStepBoundary (s : State) : Out := .next s.pkBoundary.serve.settle

end Sys2Proof.Machine
end

