-- ==== Sys2Proof/Machine/Boot.lean ====
section
/-!
DEFINITION. The boot ROM (R109 to R120): verification of an image (R114), cold boot, warm resume, core restart and boot failure; and the
reset commands (R97 to R107, R46, R54).
-/
namespace Sys2Proof.Machine
open Sys2Proof

/-! ### Verification (R114) -/

def bootNO_IMAGE : Nat := 0x01
def bootHEADER : Nat := 0x02
def bootKEY : Nat := 0x03
def bootSIG : Nat := 0x04
def bootDIGEST : Nat := 0x05
def bootROLLBACK : Nat := 0x06
def bootLC : Nat := 0x07
def bootSEGMENT : Nat := 0x0B

/-- Bytes that are all 0. -/
def zeros (bs : List Byte) : Bool := bs.all (· == 0)

/-- Flags of the image header. -/
def State.imgSigned (s : State) (img : Nat) : Bool := (s.hdr img 8 4).testBit 0
def State.imgGlass (s : State) (img : Nat) : Bool := (s.hdr img 8 4).testBit 1
def State.imgEd (s : State) (img : Nat) : Bool := (s.hdr img 8 4).testBit 3

/-- An entry point lies inside a segment of its world with exec set. -/
def State.entryOk (s : State) (img off : Nat) (glass : Bool) : Bool :=
  (s.segs img).any fun g => g.has off && (g.glass == glass) && g.exec

/-- The entry points that check 2 covers: the Field's always, the Glasshouse's with flags.glass, core 1's where it is used (log 58). -/
def State.entriesOk (s : State) (img : Nat) : Bool :=
  s.entryOk img (s.hdr img hdrFieldEntry 4) false && s.entryOk img (s.hdr img hdrFieldResume 4) false &&
    (decide (s.hdr img hdrCore1Entry 4 = 0) || s.entryOk img (s.hdr img hdrCore1Entry 4) false) &&
    (!s.imgGlass img ||
      (s.entryOk img (s.hdr img hdrGlassEntry 4) true && s.entryOk img (s.hdr img hdrGlassResume 4) true &&
        s.entryOk img (s.hdr img hdrGlassRecover 4) true))

/-- Reserved bytes and bits of a header are 0 (R113). -/
def State.reservedOk (s : State) (img : Nat) : Bool :=
  let n := s.hdr img 0x1C 1
  decide (s.hdr img 8 4 < 16) && zeros (s.bytes (img + 0x1D) 3) && zeros (s.bytes (img + 0x38) 8) &&
    zeros (s.bytes (img + 0x101) 127) && zeros (s.bytes (img + 0x1A0) 32) && (s.segs img).all (fun g => decide (g.reserved = 0)) &&
    zeros (s.bytes (img + 0x40 + 16 * n) (128 - 16 * n))

/-- A segment's values and place (check 4). R114 names no check for a src_off or size that breaks R113's table: the model fails it here, with
SEGMENT (DESIGN CHOICE, log 73). -/
def segOk (size : Nat) (g : Seg) : Bool :=
  decide (0x200 ≤ g.srcOff ∧ g.srcOff % 16 = 0 ∧ 16 ≤ g.size ∧ g.size ≤ 0x100000 ∧ g.size % 16 = 0 ∧ g.srcOff + g.size ≤ size) &&
    (decide (g.dest = 0) ||
      (if g.glass then decide (0x28000000 ≤ g.dest ∧ g.dest + g.size ≤ 0x28020000)
       else decide (0x20000000 ≤ g.dest ∧ g.dest + g.size ≤ 0x20080000))) &&
    !(g.glass && g.write && g.exec)

/-- No two copied segments overlap at dest. -/
def segsApart : List Seg → Bool
  | [] => true
  | g :: gs =>
    gs.all (fun h => decide (g.dest = 0 ∨ h.dest = 0 ∨ g.dest + g.size ≤ h.dest ∨ h.dest + h.size ≤ g.dest)) && segsApart gs

/-- Unsigned code is permitted for every world that the image loads (check 9). -/
def State.unsignedOk (s : State) (img : Nat) : Bool :=
  s.imgSigned img ||
    (s.on F.LC.STATE.unsigned_field &&
      (!(s.imgGlass img && decide (s.lcState ≠ lcRECALLED)) || s.on F.LC.STATE.unsigned_glass))

/-- R114 on the image in blocks `first` to `last`: the code of the first check that fails, or 0. -/
def State.verifySlot (s : State) (first last : Nat) : Nat :=
  let img := blockAddr first
  let size := s.hdr img 0x0C 4
  let key := s.hdr img 0x100 1
  let pub := s.bytes (img + 0xC0) 64
  let sig := s.bytes (img + 0x1C0) 64
  if s.hdr img 0 4 ≠ 0x4D514531 ∨ s.hdr img 4 2 ≠ 1 ∨ s.hdr img 6 2 ≠ 0x200 then bootNO_IMAGE
  else if size < 0x200 ∨ 0x10000 * (last + 1 - first) < size ∨ ¬ (s.hdr img 0x1A 1 = 2 ∨ s.hdr img 0x1A 1 = 0xFF) ∨
      s.hdr img 0x1C 1 = 0 ∨ 8 < s.hdr img 0x1C 1 ∨ s.reservedOk img = false ∨ s.entriesOk img = false then bootHEADER
  else if ¬ (s.hdr img 0x1B 1).testBit s.lcState then bootLC
  else if ¬ (s.segs img).all (segOk size) ∨ ¬ segsApart (s.segs img) then bootSEGMENT
  else if s.imgSigned img ∧ (key < (s.counter cntKEY_FLOOR).1 ∨ 3 < key ∨ sha256 pub ≠ s.regBytes (R.OPT.KEYD + 32 * key) 8) then bootKEY
  else if s.imgSigned img ∧
      (if s.imgEd img then edVerify (pub.take 32) (s.bytes img 0x1C0) sig else ecdsaVerifyMsg pub (s.bytes img 0x1C0) sig) = false
    then bootSIG
  else if sha256 (s.bytes (img + 0x200) (size - 0x200)) ≠ s.bytes (img + 0x180) 32 then bootDIGEST
  else if s.hdr img 0x10 4 < (s.counter cntROLLBACK).1 then bootROLLBACK
  else if ¬ s.unsignedOk img then bootLC
  else 0

/-! ### Steps of the boot ROM -/

/-- The boot ROM has a domain powered: requested, and up when the sequencer has finished the domain in progress and taken it (R81, R109,
R115). -/
def State.bootPower (s : State) (d : Nat) : State :=
  let s := if d = 10 then s else s.put (F.PWR.DOMAIN.req.bit d) 1
  let s := s.seqFinish
  if s.pdOn d then s else s.domainUp d

/-- Step 2: PD8 to PD10 and the start-up test of the noise sources; true when the DRBG serves (R322, R323, R327). -/
def State.bootEntropy (s : State) (samples : List (List Bool)) (raw : BitVec 6144) : State × Bool :=
  let s := ((s.bootPower 8).bootPower 9).bootPower 10
  let s := (s.testEnds samples).seedMade raw
  (s, decide (s.entState = entRUN))

/-- Copy one segment to its place in SRAM, whose domain is powered (R109 step 7, R115; log 58). -/
def State.copySeg (img : Nat) (g : Seg) (s : State) : State :=
  let s := s.bootPower (addrDomain g.dest)
  let s := s.bootPower (addrDomain (g.dest + g.size - 1))
  foldState (fun k s => s.sramStore (g.dest + 16 * k) 16 (s.loadN (img + g.srcOff + 16 * k) 16)) (numsFrom (g.size / 16) 0) s

/-- The Glasshouse is loaded from the image: flags.glass, and not in RECALLED (R110). -/
def State.loadsGlass (s : State) (img : Nat) : Bool := s.imgGlass img && decide (s.lcState ≠ lcRECALLED)

/-- Copy every copied segment that the boot loads. -/
def State.copySegs (s : State) (img : Nat) : State :=
  foldState (State.copySeg img) ((s.segs img).filter fun g => decide (g.dest ≠ 0) && (!g.glass || s.loadsGlass img)) s

/-- The boot ROM ends on a core. -/
def State.romDone (s : State) (c : CoreId) : State := s.modCore c fun k => { k with rom := none, mask := 0, resv := none }

/-- Enter the Glasshouse for a boot stay, or the Field where no Glasshouse is loaded (R110, R176, R235, R243). -/
def State.bootEnter (s : State) (cold : Bool) : State :=
  let img := s.imageBase
  let s := s.romDone .core0
  if s.loadsGlass img then
    let s := s.put F.COL.STAT.present 1
    let s := s.enterGlass .core0 (if cold then hdrGlassEntry else hdrGlassResume)
    let s := { s with col := { s.col with bootCold := cold } }
    s.colHold .core0 modeBoot (64 * s.get F.COL.BUDGET2.boot)
  else s.enterField .core0 (if cold then hdrFieldEntry else hdrFieldResume)

/-- Accept the image of slot `k` (0 A, 1 B) (R109 step 7, R119). -/
def State.bootAccept (s : State) (k first last : Nat) : State :=
  let img := blockAddr first
  let s := s.setReg R.SYS.BOOT_IMG (BitVec.ofNat 32 (first + 2 ^ 8 * last + 2 ^ 16))
  let s := s.setReg R.SYS.SEC_VER (BitVec.ofNat 32 (s.hdr img 0x10 4 % 2 ^ 16 + 2 ^ 16 * s.hdr img 0x18 2))
  let s := (s.put F.SYS.RESUME.valid 1).put F.SYS.BOOT_STAT.slot k
  let s := (s.putB F.SYS.BOOT_STAT.unsigned (!s.imgSigned img)).put F.SYS.BOOT_STAT.fail_cnt 0
  (s.copySegs img).bootEnter true

/-- Halt: every domain but PD0, PD2 and PD13 powers down and core 0 stops, its clock gated as after a WFI that no wake event ends (R118;
log 58). -/
def State.bootHalt (s : State) : State :=
  let s := s.put F.PWR.DOMAIN.req 0x2005
  (s.modCore .core0 fun k => { k with started := false, wfi := true, rom := none }).seqKick

/-- A failed cold boot (R117, R118, R120). -/
def State.bootFail (s : State) (cause : Nat) : State :=
  let s := s.put F.SYS.BOOT_STAT.cause cause
  let n := s.get F.SYS.BOOT_STAT.fail_cnt + 1
  let s := s.put F.SYS.BOOT_STAT.fail_cnt (min 3 n)
  let s := s.log 0x03 cause (s.get F.SYS.BOOT_STAT.code_a + 2 ^ 8 * s.get F.SYS.BOOT_STAT.code_b + 2 ^ 16 * min 3 n)
  if n < 3 then s.systemReset 0x0B else (s.put F.SYS.BOOT_STAT.halted 1).bootHalt

/-- Steps 4 to 7 of R109. -/
def State.bootSlots (s : State) (ledgerBad : Bool) : State :=
  if s.lcState ≠ lcBLANK ∧ s.on F.SYS.BOOT_STAT.option_default then s.bootFail 0x08
  else if ledgerBad then s.ledgerInteg.bootFail 0x0A
  else
    let bounds (k : Nat) : Nat × Nat :=
      if k = 0 then (s.get F.OPT.SLOTS.a_first, s.get F.OPT.SLOTS.a_last) else (s.get F.OPT.SLOTS.b_first, s.get F.OPT.SLOTS.b_last)
    let code (k : Nat) : Fld := if k = 0 then F.SYS.BOOT_STAT.code_a else F.SYS.BOOT_STAT.code_b
    let try1 (s : State) (k : Nat) : Nat × State :=
      let r := s.verifySlot (bounds k).1 (bounds k).2
      (r, s.put (code k) r)
    let p := if s.get F.OPT.CFG.pref_slot = 1 then 1 else 0
    let (r, s) := try1 s p
    if r = 0 then s.bootAccept p (bounds p).1 (bounds p).2
    else
      let (r, s) := try1 s (1 - p)
      if r = 0 then s.bootAccept (1 - p) (bounds (1 - p)).1 (bounds (1 - p)).2 else s.bootFail 0

/-- The cold path (R109, R120): `samples` and `raw` come from the noise sources, `ledgerBad` tells that a counter's word fails its hidden
code. -/
def State.coldBoot (s : State) (samples : List (List Bool)) (raw : BitVec 6144) (ledgerBad : Bool) : State :=
  let cause := s.get F.SYS.RST_CAUSE.cause
  let again := decide (s.get F.SYS.RST_CAUSE.scope = 0 ∨ cause = 0x03 ∨ cause = 0x0D)
  if s.get F.SYS.BOOT_STAT.fail_cnt = 3 ∧ ¬ again then (s.put F.SYS.BOOT_STAT.halted 1).bootHalt
  else
    let s := if s.get F.SYS.BOOT_STAT.fail_cnt = 3 then s.put F.SYS.BOOT_STAT.fail_cnt 0 else s
    let s := ((s.put F.SYS.BOOT_STAT.code_a 0xFF).put F.SYS.BOOT_STAT.code_b 0xFF).put F.SYS.BOOT_STAT.cause 0
    if s.lcState = lcRETIRED then s.bootHalt
    else
      let (s, ok) := s.bootEntropy samples raw
      if ok then s.memkeyLoad.fillFifo.bootSlots ledgerBad else s.bootFail 0x09

/-- COLD_BOOT: core 0 runs the cold path to its end. -/
def execColdBoot (samples : List (List Bool)) (raw : BitVec 6144) (ledgerBad : Bool) (s : State) : Out :=
  if s.core0.executing ∧ s.core0.rom = some false ∧ ¬ s.on F.SYS.RESUME.valid then .next (s.coldBoot samples raw ledgerBad).settle
  else .next s

/-- WARM_RESUME: core 0 runs the warm path (R115). The keys come from the DRBG, so PD9 is powered too (DEDUCED, log 73); while the DRBG cannot
serve, the ROM's request waits with everything powered (R326), and the path goes on when WARM_RESUME comes again. -/
def execWarmResume (s : State) : Out :=
  if s.core0.executing ∧ s.core0.rom = some false ∧ s.on F.SYS.RESUME.valid then
    let s := ((((s.bootPower 7).bootPower 4).bootPower 6).bootPower 8).bootPower 9
    if s.drbgWaits then .next s.settle
    else .next ((s.memkeyLoad.copySegs s.imageBase).bootEnter false).settle
  else .next s

/-- The restart path of core `c` (R101, R116): core 0 enters field_resume, or takes the cold path where no image has been accepted;
core 1 enters core1_entry, or gives its domain back. -/
def State.restart (s : State) (c : CoreId) : State :=
  let img := s.imageBase
  if ¬ s.on F.SYS.BOOT_IMG.valid then
    match c with
    | .core0 => s.modCore .core0 fun k => { k with rom := some false }
    | .core1 => (s.put (F.PWR.DOMAIN.req.bit 3) 0).modCore .core1 fun k => { k with rom := none, wfi := true }
  else
    match c with
    | .core0 => (s.romDone .core0).enterField .core0 hdrFieldResume
    | .core1 =>
      if s.hdr img hdrCore1Entry 4 = 0 then
        ((s.put (F.PWR.DOMAIN.req.bit 3) 0).modCore .core1 fun k => { k with rom := none, wfi := true }).seqKick
      else (s.romDone .core1).enterField .core1 hdrCore1Entry

/-- CORE_RESTART. -/
def execCoreRestart (c : CoreId) (s : State) : Out :=
  if (s.core c).executing ∧ (s.core c).rom = some true then .next (s.restart c).settle else .next s

/-- CORE1_START: the restart path of core 1 after its domain has powered up (R116). -/
def execCore1Start (s : State) : Out :=
  if s.core1.executing ∧ s.core1.rom = some true then .next (s.restart .core1).settle else .next s

/-! ### Resets -/

/-- A reset source of R98 that a command may name, with its scope: causes 0x05, 0x07 and 0x09 reset cores, 0x08 either, the others from 0x03 to
0x0E the system. -/
def rstNamed (r : RstSrc) : Bool :=
  if r.cause = 5 ∨ r.cause = 7 ∨ r.cause = 9 then r.core.isSome
  else if r.cause = 8 then true
  else decide (3 ≤ r.cause ∧ r.cause ≤ 0x0E) && r.core.isNone

/-- SYSTEM_RESET: the reset sources of one cycle, one of them of system scope (R97, R99). RESET_N is a source while it is neither masked
(R105) nor holds a reset already, and its reset holds (R103). -/
def execSystemReset (srcs : List RstSrc) (s : State) : Out :=
  let dead := s.on F.SYS.RSTPIN.masked || s.on F.SYS.RSTPIN.held
  let rs := srcs.filter fun r => rstNamed r && !(dead && decide (r.cause = 3))
  if rs.any (·.core.isNone) && decide (s.aon.pstate ≠ 4) then
    let s := if rs.any fun r => decide (r.cause = 3) then (s.put F.SYS.RSTPIN.level 0).put F.SYS.RSTPIN.held 1 else s
    .next (s.resetMany rs).settle
  else .next s

/-- CORE_RESET: the reset sources of one cycle, all of core scope (R99 to R101). -/
def execCoreReset (srcs : List RstSrc) (s : State) : Out :=
  let rs := srcs.filter rstNamed
  if rs.any (·.core.isNone) || rs.isEmpty || decide (s.aon.pstate ≠ 0 ∧ s.aon.pstate ≠ 1) then .next s else .next (s.resetMany rs).settle

/-- RESET_PIN_GLITCH (R102). -/
def execResetPinGlitch (s : State) : Out :=
  if s.on F.SYS.RSTPIN.masked || !s.on F.SYS.RSTPIN.level || decide (s.aon.pstate = 4) then .next s
  else .next (((s.inc F.SYS.RSTPIN.glitch_cnt).irq pageSYS 1).cloche 30 0).settle

/-- PIN_RESET (R103); a masked pin only shows its level (R105). -/
def execPinReset (s : State) : Out :=
  if s.aon.pstate = 4 then .next s
  else
    let s := s.put F.SYS.RSTPIN.level 0
    if s.on F.SYS.RSTPIN.masked || s.on F.SYS.RSTPIN.held then .next s
    else .next ((s.put F.SYS.RSTPIN.held 1).systemReset 0x03).settle

/-- RESET_PIN_STUCK (R104). -/
def execResetPinStuck (s : State) : Out :=
  if s.on F.SYS.RSTPIN.held && !s.on F.SYS.RSTPIN.stuck then
    let s := (s.put F.SYS.RSTPIN.stuck 1).irq pageSYS 0
    .next (s.log 0x02 1 (s.get F.SYS.RSTPIN.glitch_cnt)).settle
  else .next s

/-- The held reset ends: core 0 starts the boot ROM (R106, R107), unless TEST still holds it (R46). -/
def State.releaseReset (s : State) : State :=
  if s.on F.SYS.RSTPIN.held then (s.put F.SYS.RSTPIN.held 0).startRom .core0 false else s

/-- RESET_PIN_RELEASE (R106). -/
def execResetPinRelease (s : State) : Out :=
  if s.aon.pstate = 4 then .next s else .next ((s.put F.SYS.RSTPIN.level 1).releaseReset).settle

/-- The memory that a power-on reset keeps: flash, option area and ledger. -/
def State.keepStored (s : State) : State :=
  { s with mem := tabDrop (fun a => decide (0x20000000 ≤ a ∧ a < 0x30000000) || decide (0x40000000 ≤ a)) s.mem }

/-- A power-on reset with a cause (R97, R107, R47): `present` and `band` are the I/O groups as they power up, `straps` the address straps,
`stage` how far an accepted life-cycle transition got before the power went (R135). -/
def State.powerOn (s : State) (cause : Nat) (vbat : Bool) (present band : BitVec 4) (straps : BitVec 2) (stage : Fin 3) : State :=
  let s := ((s.lcCut stage.val).flashAbort.cutLedger).keepStored
  let t : State := { State.reset with
    pending := s.pending
    mem := s.mem
    flash := { s.flash with op := none }
    ldg := { State.reset.ldg with tally := s.ldg.tally, remap := s.ldg.remap }
    logQueue := []
    fresh := s.fresh
    gcb := ⟨s.gcb.present, none⟩
    radio := { Radio.init with wake := s.radio.wake }
    gpio := { s.gpio with filt := [] }
    aon := { State.reset.aon with straps := straps.toNat, testHigh := s.aon.testHigh } }
  let t := ((t.loadOptions).latchLc).raiseFloors
  let t := foldState (fun ch s => s.activateReset ch) (numsFrom 8 0) t
  let t := t.putB F.PWR.PATH.vbat_ok vbat
  let t := (t.put F.PWR.IOGRP.present present.toNat).put F.PWR.IOGRP.band (band &&& present).toNat
  let t := t.setReg R.SYS.RST_CAUSE (BitVec.ofNat 32 cause)
  let t := t.logReset cause 0
  (t.setCore .core0 Core.init).startRom .core0 false

/-- POWER_ON_RESET: VMAIN crosses its threshold (R98). -/
def execPowerOnReset (vbat : Bool) (present band : BitVec 4) (straps : BitVec 2) (stage : Fin 3) (s : State) : Out :=
  .next (s.powerOn 0x01 vbat present band straps stage).settle

/-- SHIP_WAKE: SHIPWK_N held long enough in SHIP (R54). -/
def execShipWake (vbat : Bool) (present band : BitVec 4) (straps : BitVec 2) (s : State) : Out :=
  if s.aon.pstate = 4 then .next (s.powerOn 0x02 vbat present band straps 0).settle else .next s

/-- TEST_PIN_CHANGE: TEST rising holds the Y880 in reset, falling releases it (R46): the hold is a system reset that does not end (log 59).
In SHIP nothing is powered and only the level changes (R54). -/
def execTestPinChange (high : Bool) (s : State) : Out :=
  if high = s.aon.testHigh then .next s
  else
    let s := { s with aon := { s.aon with testHigh := high } }
    if s.aon.pstate = 4 then .next s
    else if high then .next (s.cutLedger.systemClear.settle)
    else .next (s.startRom .core0 false).settle

/-- A write of SYS.RST_REQ (R98): kind 0 is reserved and resets nothing. -/
def sysWrite (x : Wr) (s : State) : State :=
  if x.a = R.SYS.RST_REQ then
    if F.SYS.RST_REQ.key.get x.v ≠ 0x5253 then s.blockCause x 0x10
    else
      match F.SYS.RST_REQ.kind.get x.v with
      | 1 => s.systemReset 0x04
      | 2 => s.coreReset .core0 0x05
      | 3 => s.coreReset .core1 0x05
      | _ => s
  else s.storeNew x

end Sys2Proof.Machine
end

