-- ==== Sys2Proof/Machine/Mgmt.lean ====
section
/-!
DEFINITION. The management port's commands (R528 to R531), mailbox and alerts (R532, R533), controller mode (R535 to R537), and the
MGP page. What the management controller reads and writes over the bus is MgmtPort.lean's.
-/
namespace Sys2Proof.Machine
open Sys2Proof

/-- AON ticks in a second. -/
def aonSecond : Nat := 32768

/-- The management port serves: in every power state but SHIP, while VDDIO_S is present (R534). -/
def State.mgpServes (s : State) : Bool := decide (s.aon.pstate ≠ 4) && s.on (F.PWR.IOGRP.present.bit 1)

/-! ### Authorised commands -/

/-- CHAL (R528). -/
def State.mgpChal (s : State) : List Byte :=
  s.regBytes R.MGP.MNONCE 2 ++ s.regBytes R.MGP.MSEQ 1 ++ bytesLE 4 s.mgp.chalTime

/-- The MAC that CMD needs (R528). -/
def State.mgpMac (s : State) : List Byte := aesCmac (s.regBytes R.MGP.MKEY 4) (s.mgpChal ++ bytesLE 4 s.mgp.cmd)

/-- Fields of RESULT (window 2; MGP.CMDSTAT). -/
def resCode : Fld := ⟨R.MGP.CMDSTAT, 7, 0⟩
def resCmd : Fld := ⟨R.MGP.CMDSTAT, 15, 8⟩
def resBusy : Fld := ⟨R.MGP.CMDSTAT, 16, 16⟩
def resFails : Fld := ⟨R.MGP.CMDSTAT, 31, 24⟩

/-- The back-off after `n` failures, in AON ticks (R529). -/
def goBackoff (n : Nat) : Nat := if n < 4 then 0 else aonSecond * min 1024 (2 ^ (n - 3))

/-- An AUTH result: counted, its events, and the back-off (R529, R533). -/
def State.goAuth (s : State) : State :=
  let s := ((s.inc resFails).irq pageMGP 4).put (F.MGP.ALERT.alert.bit 7) 1
  { s with mgp := { s.mgp with backoff := if s.get resFails < 4 then s.mgp.backoff else goBackoff (s.get resFails) } }

/-- A GO ends with a code of R529: `late` tells an order of 5 or later. -/
def State.goEnd (s : State) (cmd code : Nat) (late : Bool) : State :=
  let s := { s with mgp := { s.mgp with run := none, chalTime := s.aon.time % 2 ^ 32 } }
  let s := s.setReg R.MGP.MSEQ (s.reg R.MGP.MSEQ + 1)
  let s := (((s.put resCode code).put resCmd cmd).put resBusy 0).irq pageMGP 2
  if code = rcAUTH then s.goAuth
  else if late then s.put resFails 0
  else s

/-- A command code with an argument in range (R529). -/
def goKnown (w : Nat) : Bool :=
  let c := w % 256
  let a := w / 256
  if c = 4 then decide (1 ≤ a ∧ a ≤ 3600) else decide ((c = 1 ∨ c = 2 ∨ c = 3 ∨ c = 5) ∧ a = 0)

/-- A GO where no command runs (R529, orders 2 to 4); past them the port computes the MAC, with the key as it stands now. -/
def State.mgpGo (s : State) : State :=
  let w := s.mgp.cmd
  let c := w % 256
  if !goKnown w then s.goEnd c rcRANGE false
  else if 0 < s.mgp.backoff then s.goEnd c rcLOCKED false
  else if !s.on F.MGP.STAT.key_loaded then s.goEnd c rcABSENT false
  else { s.put resBusy 1 with mgp := { s.mgp with run := some (w, decide (c = 5 ∨ s.mgp.mac = s.mgpMac)) } }

/-- The running command, where its code is `c`: refused for its MAC (order 5), or judged and done by `act`, which gives the code of order
6 or 7 and the effect after RESULT is written. -/
def State.goRun (s : State) (c : Nat) (act : Nat → Nat × (State → State)) : State :=
  match s.mgp.run with
  | some (w, ok) =>
    if w % 256 = c then
      if ok then (act (w / 256)).2 (s.goEnd c (act (w / 256)).1 true) else s.goEnd c rcAUTH true
    else s
  | none => s

/-- SYS_RESET (R529). -/
def execSysReset (s : State) : Out := .next (s.goRun 1 fun _ => (rcOK, fun s => s.resetMany [⟨0x0D, none⟩])).settle

/-- RSTPIN_MASK (R105): the pin is masked, the held reset released. -/
def State.pinMask (s : State) : State :=
  let s := s.put F.SYS.RSTPIN.masked 1
  (s.log 0x02 2 (s.get F.SYS.RSTPIN.glitch_cnt)).releaseReset

def execRstpinMask (s : State) : Out :=
  .next (s.goRun 2 fun _ => if s.on F.SYS.RSTPIN.stuck then (rcOK, State.pinMask) else (rcSTATE, id)).settle

/-- RETIRE (R127, R529). -/
def execRetire (s : State) : Out :=
  .next (s.goRun 3 fun _ =>
    if s.get F.LC.STATE.state = 5 then (rcSTATE, id)
    else if s.lcBusy || s.on F.LC.ADV_STAT.busy then (rcBUSY, id)
    else (rcOK, fun s => s.lcAccept 5 lcMGMT)).settle

/-- OPEN (R529). -/
def execOpen (s : State) : Out :=
  .next (s.goRun 4 fun a => (rcOK, fun s => { s with mgp := { s.mgp with session := aonSecond * a } })).settle

/-- The session ends (R530). -/
def State.sessionEnd (s : State) : State := { s with mgp := { s.mgp with session := 0 } }

/-- CLOSE (R529, R530). -/
def execClose (s : State) : Out := .next (s.goRun 5 fun _ => (rcOK, State.sessionEnd)).settle

/-- MGP_SESSION_EXPIRE (R530): the session ends where its last tick of AON time is due. -/
def execMgpSessionExpire (s : State) : Out := .next (if s.mgp.session ≤ 1 then s.sessionEnd else s)

/-- MGP_BACKOFF_END (R529): likewise. -/
def execMgpBackoffEnd (s : State) : Out := .next (if s.mgp.backoff ≤ 1 then { s with mgp := { s.mgp with backoff := 0 } } else s)

/-- MGP_TIMEOUT (R520): a transaction is abandoned, with nothing of it applied. -/
def execMgpTimeout (s : State) : Out := .next (if s.mgpServes then s.inc F.MGP.CNT.timeouts else s)

/-! ### Controller mode -/

/-- A controller transfer ends with a code (R537). -/
def State.mcEnd (s : State) (code : Nat) : State :=
  let s := { s with mgp := { s.mgp with mc := none } }
  ((s.put F.MGP.MC_RES.code code).put F.MGP.MC_RES.busy 0).irq pageMGP 3

/-- What the port sends of a transfer before the bytes it receives, address bytes included (R535). -/
def State.mcOut (s : State) (w : Nat) : List Byte :=
  let c := BitVec.ofNat 32 w
  let addr := F.MGP.MC_CMD.addr.get c
  let wlen := F.MGP.MC_CMD.wlen.get c
  let reads := decide (F.MGP.MC_CMD.rlen.get c ≠ 0)
  (if decide (wlen = 0) && reads then [] else BitVec.ofNat 8 (2 * addr) :: (s.regBytes R.MGP.MC_TX 8).take wlen) ++
    (if reads then [BitVec.ofNat 8 (2 * addr + 1)] else [])

/-- The bytes of a transfer on the bus, address bytes included (R525, R535). -/
def State.mcBytes (s : State) (w : Nat) (got : List Byte) : List Byte :=
  s.mcOut w ++ (if F.MGP.MC_CMD.rlen.get (BitVec.ofNat 32 w) = 0 then [] else got)

/-- The transfer starts on a free bus; the answer is what the port sends, with the PEC of a write-only transfer (R535). -/
def State.mcStart (s : State) (w : Nat) : State :=
  let c := BitVec.ofNat 32 w
  let pec := s.on F.MGP.MC_CFG.pec && decide (F.MGP.MC_CMD.rlen.get c = 0 ∧ F.MGP.MC_CMD.wlen.get c ≠ 0)
  s.answer (s.mcOut w ++ (if pec then [BitVec.ofNat 8 (crc8 (s.mcOut w))] else [])) 0

/-- A go (R535, R537); `free` tells that the bus is free. -/
def State.mcGo (s : State) (w : Nat) (free : Bool) : State :=
  if 32 < F.MGP.MC_CMD.wlen.get (BitVec.ofNat 32 w) ∨ 32 < F.MGP.MC_CMD.rlen.get (BitVec.ofNat 32 w) then s.put F.MGP.MC_RES.code rcRANGE
  else if s.mgp.mc.isSome then s.put F.MGP.MC_RES.code rcSTATE
  else
    let s := { s with mgp := { s.mgp with mc := some (free, w) } }
    s.setReg R.MGP.MC_RES (F.MGP.MC_RES.busy.put 1 (BitVec.ofNat 32 (s.get F.MGP.MC_RES.code)))

/-- MC_BUS_FREE (R535). -/
def execMcBusFree (s : State) : Out :=
  match s.mgp.mc with
  | some (false, w) => .next ({ s with mgp := { s.mgp with mc := some (true, w) } }.mcStart w)
  | _ => .next s

/-- MC_RETRY (R536): arbitration is lost; the transfer is tried again, or ends with BUSY. -/
def execMcRetry (s : State) : Out :=
  match s.mgp.mc with
  | some (true, _) =>
    let s := s.inc F.MGP.MC_RES.arb_lost
    if s.get F.MGP.MC_CFG.retries < s.get F.MGP.MC_RES.arb_lost then .next (s.mcEnd rcBUSY).settle else .next s
  | _ => .next s

/-- Bytes received go to MC_RX. -/
def State.mcTake (s : State) (got : List Byte) : State :=
  foldState (fun (e : Nat × Byte) s => s.put ⟨R.MGP.MC_RX + 4 * (e.1 / 4), 8 * (e.1 % 4) + 7, 8 * (e.1 % 4)⟩ e.2.toNat)
    ((numsFrom got.length 0).zip got) s

/-- MC_DONE (R537). -/
def State.mcDone (s : State) (e : McEnd) : State :=
  match s.mgp.mc, e with
  | some (true, _), .absent n => (s.put F.MGP.MC_RES.wdone n.val).mcEnd rcABSENT
  | some (true, _), .nack n => (s.put F.MGP.MC_RES.wdone n.val).mcEnd rcABORTED
  | some (_, w), .timeout n got =>
    let got := got.take (F.MGP.MC_CMD.rlen.get (BitVec.ofNat 32 w))
    (((s.mcTake got).put F.MGP.MC_RES.wdone n.val).put F.MGP.MC_RES.rdone got.length).mcEnd rcTIMEOUT
  | some (true, w), .complete got pec =>
    let c := BitVec.ofNat 32 w
    let rlen := F.MGP.MC_CMD.rlen.get c
    if got.length ≠ rlen then s
    else
      let s := ((s.mcTake got).put F.MGP.MC_RES.wdone (F.MGP.MC_CMD.wlen.get c)).put F.MGP.MC_RES.rdone rlen
      let bad := s.on F.MGP.MC_CFG.pec && decide (rlen ≠ 0) && decide (crc8 (s.mcBytes w got) ≠ pec.toNat)
      s.mcEnd (if bad then rcCRC else rcOK)
  | _, _ => s

def execMcDone (e : McEnd) (s : State) : Out := .next (s.mcDone e).settle

/-! ### The MGP page -/

/-- A write to the MGP page's own registers; `free` tells that the bus is free for a go. -/
def mgpWriteBus (x : Wr) (free : Bool) (s : State) : State :=
  if R.MGP.MKEY ≤ x.a ∧ x.a < R.MGP.MKEY + 16 then
    let s := s.setReg x.a x.act
    if x.a = R.MGP.MKEY + 12 then s.put F.MGP.STAT.key_loaded 1 else s
  else if x.a = R.MGP.ALERT_FW then (if x.on F.MGP.ALERT_FW.raise then s.put (F.MGP.ALERT.alert.bit 6) 1 else s)
  else if x.a = R.MGP.MBIN_CTL then
    if x.on F.MGP.MBIN_CTL.take then (s.put F.MGP.MBIN_CTL.full 0).put F.MGP.MBIN_CTL.len 0 else s
  else if x.a = R.MGP.MBOUT_CTL then
    if x.on F.MGP.MBOUT_CTL.post && s.on F.MGP.MBOUT_CTL.post then s
    else
      let n := F.MGP.MBOUT_CTL.len.get x.new
      let s := s.storeNew ((if n = 0 ∨ 64 < n then x.keep F.MGP.MBOUT_CTL.len else x).keep F.MGP.MBOUT_CTL.post)
      if x.on F.MGP.MBOUT_CTL.post then s.put F.MGP.MBOUT_CTL.post 1 else s
  else if x.a = R.MGP.MC_CFG then
    let y := if F.MGP.MC_CFG.timeout_ms.get x.new = 0 then x.with F.MGP.MC_CFG.timeout_ms 1 else x
    if F.MGP.MC_CFG.speed.get x.new = 3 then (s.storeNew (y.keep F.MGP.MC_CFG.speed)).blockCause x 0x10 else s.storeNew y
  else if x.a = R.MGP.MC_CMD then
    let s := s.storeNew x
    if x.on F.MGP.MC_CMD.go then s.mcGo x.v.toNat free else s
  else if x.a = R.MGP.CNTCLR then (if x.on F.MGP.CNTCLR.clr then s.setReg R.MGP.CNT 0 else s)
  else s.storeNew x

/-- A write to the MGP page: a go waits until the bus is seen free (MC_BUS_FREE), unless the command says that it is. -/
def mgpWrite (x : Wr) (s : State) : State := mgpWriteBus x false s

/-- MGP registers that a read computes; the key reads 0. -/
def mgpRead (a : Nat) (s : State) : Word :=
  if R.MGP.MKEY ≤ a ∧ a < R.MGP.MKEY + 16 then 0
  else if a = R.MGP.STAT then
    F.MGP.STAT.mc_busy.put (b2n s.mgp.mc.isSome) (F.MGP.STAT.session.put (b2n (decide (0 < s.mgp.session))) (s.reg a))
  else if a = R.MGP.TADDR then BitVec.ofNat 32 (0x58 + s.aon.straps)
  else if a = R.MGP.SESSION then BitVec.ofNat 32 ((s.mgp.session + aonSecond - 1) / aonSecond)
  else s.reg a

end Sys2Proof.Machine
end

