-- ==== Sys2Proof/Machine/Periph.lean ====
section
/-!
DEFINITION. GPIO (R64 to R66) and the ADC (R67 to R69, R579).
-/
namespace Sys2Proof.Machine
open Sys2Proof

/-- GPIO_EDGE: the board puts a level on pin `n` (R65). The pin keeps it; GPIO sees it while PD13 is on and CK06 runs, at once or, with
FILT, when it has held for 3 ticks of CK27. -/
def execGpioEdge (n : Fin 12) (level : Bool) (s : State) : Out :=
  let ext := if level then s.gpio.ext ||| 2 ^ n.val else s.gpio.ext &&& (0xFFF ^^^ 2 ^ n.val)
  let s := { s with gpio := { s.gpio with ext := ext } }
  .next (if s.gpioSees then s.gpioSample1 n else s).settle

/-- What a write stores in the GPIO page's own registers (R66). -/
def gpioStore (x : Wr) (s : State) : State :=
  if x.a = R.GPIO.SET then s.put F.GPIO.OUT.out (s.get F.GPIO.OUT.out ||| x.bits F.GPIO.SET.set)
  else if x.a = R.GPIO.CLR then s.put F.GPIO.OUT.out (s.get F.GPIO.OUT.out &&& (0xFFF ^^^ x.bits F.GPIO.CLR.clr))
  else if x.a = R.GPIO.PULL then
    let two (n : Nat) : Fld := ⟨x.a, 2 * n + 1, 2 * n⟩
    let bad := (numsFrom 12 0).filter fun n => decide ((two n).get x.new = 3)
    let s := s.storeNew (bad.foldl (fun x n => x.keep (two n)) x)
    if bad.isEmpty then s else s.blockCause x 0x10
  else s.storeNew x

/-- A write to the GPIO page's own registers: the pins follow (R64 to R66). -/
def gpioWrite (x : Wr) (s : State) : State := (gpioStore x s).gpioSample

/-! ### ADC -/

/-- Start the scan of the SCAN channels. -/
def State.adcScan (s : State) (delayed : Bool) : State :=
  let chs := (numsFrom 4 0).filter fun k => (s.get F.ADC.SCAN.channels).testBit k
  { s.put F.ADC.STAT.busy 1 with adc := { s.adc with todo := chs, goWait := false, delayed := delayed } }

/-- Start calibration, or let it wait for the conversion in progress (R68, R579). -/
def State.adcCal (s : State) : State :=
  if s.on F.ADC.STAT.calibrating then s
  else if s.on F.ADC.STAT.busy && !s.adc.todo.isEmpty then { s with adc := { s.adc with calWait := true } }
  else s.put F.ADC.STAT.calibrating 1

/-- A go (R67, R68). The first go after a power-up of PD13 calibrates by itself only while no calibration has completed since (cal_valid 0),
and a go that comes while another waits for calibration is refused as one that comes while busy (DESIGN CHOICE, log 70: R68 says neither). -/
def State.adcGo (s : State) (x : Wr) : State :=
  let ch := s.get F.ADC.SCAN.channels
  if s.on F.ADC.STAT.busy || s.adc.goWait || !s.on F.ADC.CTRL.en || decide (ch = 0) ||
      decide (ch &&& (15 ^^^ s.get F.GPIO.ANA.ana) ≠ 0) then s.blockCause x 0x11
  else if s.on F.ADC.STAT.calibrating then { s with adc := { s.adc with goWait := true } }
  else if !s.on F.ADC.STAT.cal_valid then { s.put F.ADC.STAT.calibrating 1 with adc := { s.adc with goWait := true } }
  else s.adcScan false

/-- ADC_CAL_DONE: calibration ends with an offset and a gain (R68); a waiting go, or the rest of a scan, goes on delayed (R579). -/
def execAdcCalDone (offset : BitVec 8) (gain : BitVec 16) (s : State) : Out :=
  if s.on F.ADC.STAT.calibrating then
    let s := ((s.put F.ADC.STAT.calibrating 0).put F.ADC.STAT.cal_valid 1).irq pageADC 2
    let s := (s.put F.ADC.CAL.offset offset.toNat).put F.ADC.CAL.gain gain.toNat
    .next (if s.adc.goWait then s.adcScan true else { s with adc := { s.adc with delayed := true } }).settle
  else .next s

/-- A conversion's code: round(4,096 × V / V_DDA), at most 4,095 (R67). -/
def adcCode (v vdda : Nat) : Nat := if vdda = 0 then 4095 else min 4095 ((2 * 4096 * v + vdda) / (2 * vdda))

/-- The mean of codes, rounded to nearest. -/
def meanOf (l : List Nat) : Nat := if l.isEmpty then 0 else (2 * l.foldl (· + ·) 0 + l.length) / (2 * l.length)

/-- Offset and gain applied: gain first, then offset, limited to 12 bits (log 56). -/
def State.adcCorrect (s : State) (code : Nat) : Nat :=
  let off := (BitVec.ofNat 8 (s.get F.ADC.CAL.offset)).toInt
  min 4095 (((code * s.get F.ADC.CAL.gain + 16384) / 32768 : Nat) + off).toNat

/-- ADC_RESULT: the voltages of a channel's 2^avg conversions, in units of which V_DDA is `vdda`, make its result (R67, R69, R579). -/
def State.adcResult (s : State) (volts : List Nat) (vdda : Nat) : State :=
  match s.adc.todo with
  | [] => s
  | k :: ks =>
    if s.on F.ADC.STAT.calibrating || decide (volts.length ≠ 2 ^ s.get F.ADC.CTRL.avg) then s
    else
      let v := s.adcCorrect (meanOf (volts.map fun x => adcCode x vdda))
      let unread := s.on (F.ADC.RESULT.valid.idx 4 k)
      let w := v + 2 ^ 16 + 2 ^ 17 * b2n s.adc.delayed + 2 ^ 18 * b2n (unread || s.on (F.ADC.RESULT.overrun.idx 4 k))
      let s := s.setReg (R.ADC.RESULT + 4 * k) (BitVec.ofNat 32 w)
      let s := if unread then s.irq pageADC 3 else s
      let s := if v < s.get F.ADC.THR.lo ∨ s.get F.ADC.THR.hi < v then s.irq pageADC 1 else s
      let s := if s.adc.calWait then s.put F.ADC.STAT.calibrating 1 else s
      { s with adc := { s.adc with todo := ks, calWait := false } }

def execAdcResult (volts : List (BitVec 32)) (vdda : BitVec 32) (s : State) : Out :=
  .next (s.adcResult (volts.map (·.toNat)) vdda.toNat).settle

/-- SCAN_DONE: the scan has converted its last channel (R67). -/
def execScanDone (s : State) : Out :=
  if s.on F.ADC.STAT.busy && s.adc.todo.isEmpty then
    let s := s.irq pageADC 0
    .next (if s.on F.ADC.CTRL.cont then s.adcScan false else s.put F.ADC.STAT.busy 0).settle
  else .next s

/-- A read of RESULTk clears valid and overrun (R69). -/
def State.adcReadResult (s : State) (k : Nat) : Word × State :=
  (s.reg (R.ADC.RESULT + 4 * k), (s.put (F.ADC.RESULT.valid.idx 4 k) 0).put (F.ADC.RESULT.overrun.idx 4 k) 0)

/-- A write to the ADC page's own registers. -/
def adcWrite (x : Wr) (s : State) : State :=
  if x.a = R.ADC.START then (if x.on F.ADC.START.go then s.adcGo x else s)
  else if x.a = R.ADC.CTRL then
    let s := if 5 ≤ F.ADC.CTRL.avg.get x.new then (s.storeNew (x.keep F.ADC.CTRL.avg)).blockCause x 0x10 else s.storeNew x
    if x.on F.ADC.CTRL.cal then s.adcCal else s
  else s.storeNew x

end Sys2Proof.Machine
end

