-- ==== Sys2Proof/Machine/SnapPage.lean ====
section
/-!
DEFINITION. The SNAP and TRC pages (ch. 22; R96): the software trigger, the log of Glasshouse firmware, the energy meter, software trace
records and the trace clear.
-/
namespace Sys2Proof.Machine
open Sys2Proof

/-- The core bit of a trace record of an initiator's own: core 1, or 0 for any other. -/
def iniTraceCore : Ini → Nat
  | .core1 => 1
  | _ => 0

/-- A write to the SNAP page's own registers (R96, R538, R547, R548). -/
def snapWrite (x : Wr) (s : State) : State :=
  if x.a = R.SNAP.TRIG then (if x.on F.SNAP.TRIG.fire then s.trig 0 else s)
  else if x.a = R.SNAP.TRIG_EN then
    s.storeNew (if 12 ≤ F.SNAP.TRIG_EN.gpio_sel.get x.new then x.keep F.SNAP.TRIG_EN.gpio_sel else x)
  else if x.a = R.SNAP.LOG_CTRL then
    s.storeNew (if 768 ≤ F.SNAP.LOG_CTRL.hold_slot.get x.new then x.keep F.SNAP.LOG_CTRL.hold_slot else x)
  else if x.a = R.SNAP.LOG_WR1 then s.log 0x0F (s.get F.SNAP.LOG_WR0.code) x.act.toNat
  else if x.a = R.SNAP.EM_CFG then
    let s := s.storeNew (if F.SNAP.EM_CFG.src.get x.new = 3 then x.keep F.SNAP.EM_CFG.src else x)
    if x.on F.SNAP.EM_CFG.clr then { s with aon := { s.aon with emCount := 0 } } else s
  else s.storeNew x

/-- A read of EM_LO latches the high bits (R96). -/
def State.emLo (s : State) : Word × State :=
  (BitVec.ofNat 32 s.aon.emCount, { s with aon := { s.aon with emLatch := s.aon.emCount / 2 ^ 32 % 65536 } })

/-- SNAP registers that a read computes. -/
def snapRead (a : Nat) (s : State) : Word :=
  if a = R.SNAP.EM_LO then BitVec.ofNat 32 s.aon.emCount
  else if a = R.SNAP.EM_HI then BitVec.ofNat 32 s.aon.emLatch
  else if a = R.SNAP.LOG_STAT then F.SNAP.LOG_STAT.queued.put s.logQueue.length (s.reg a)
  else s.reg a

/-- A write to the TRC page's own registers (R549). -/
def trcWrite (x : Wr) (s : State) : State :=
  if x.a = R.TRC.CTRL then
    let s := s.storeNew x
    if x.on F.TRC.CTRL.clr then s.put F.TRC.STAT.clearing 1 else s
  else if x.a = R.TRC.SWREC then s.trace 0x30 (iniTraceCore x.ini) x.w x.act.toNat (x.act.toNat / 65536)
  else s.storeNew x

end Sys2Proof.Machine
end

