-- ==== Sys2Proof/Machine/Timers.lean ====
section
/-!
DEFINITION. The TMR page: watchdogs (R226 to R228) and general timers (R229, R230).
-/
namespace Sys2Proof.Machine
open Sys2Proof

/-- A core counts its watchdog: powered, not stopped by WFI, not halted (R226). -/
def Core.counts (k : Core) : Bool := k.powered && k.started && !k.wfi && !k.halted

/-- Watchdog `k` (0, 1: core; 2: system) counts now (R226). -/
def State.wdogCounts (s : State) (k : Nat) : Bool :=
  s.on (F.TMR.WD_CTRL.en.idx 16 k) &&
    (if k = 0 then s.core0.counts else if k = 1 then s.core1.counts else s.core0.counts || s.core1.counts)

/-- Reload a watchdog from LOAD and clear its warning (R227, R228). -/
def State.wdogReload (s : State) (k : Nat) : State :=
  (s.put (F.TMR.WD_STAT.count.idx 16 k) (s.get (F.TMR.WD_LOAD.reload.idx 16 k))).put (F.TMR.WD_STAT.warned.idx 16 k) 0

/-- The watchdog's warning (R227). -/
def State.wdogWarn (s : State) (k : Nat) : State :=
  (((s.put (F.TMR.WD_STAT.warned.idx 16 k) 1).put (F.TMR.WD_STAT.count.idx 16 k) (16 * s.get (F.TMR.WD_CTRL.grace.idx 16 k))).irq
    pageTMR k).trig 9

/-- The next zero of a watchdog is a warning: grace is not 0 and it has not warned (R227). -/
def State.wdogWarns (s : State) (k : Nat) : Bool :=
  s.on (F.TMR.WD_CTRL.grace.idx 16 k) && !s.on (F.TMR.WD_STAT.warned.idx 16 k)

/-- The reset source of watchdog `k` (R227). -/
def wdogSource (k : Nat) : RstSrc :=
  if k = 0 then ⟨0x07, some .core0⟩ else if k = 1 then ⟨0x07, some .core1⟩ else ⟨0x06, none⟩

/-- The watchdogs of `ks` expire in one cycle (R227, R99): a core watchdog reloads and stays enabled. -/
def State.wdogExpire (s : State) (ks : List Nat) : State :=
  let s := foldState (fun k s => if k < 2 then s.wdogReload k else s) ks s
  s.resetMany (ks.map wdogSource)

/-- Watchdog `k` counts and is at its last tick. -/
def State.wdogDue (s : State) (k : Nat) : Bool := s.wdogCounts k && decide (s.get (F.TMR.WD_STAT.count.idx 16 k) ≤ 1)

/-- WDOG_WARN: watchdog `k` reaches 0 with grace non-zero; nothing where it does not, or would expire. -/
def execWdogWarn (k : Fin 3) (s : State) : Out :=
  if s.wdogDue k && s.wdogWarns k then .next (s.wdogWarn k).settle else .next s

/-- WDOG_EXPIRE: the named watchdogs reach 0 with no grace left, in one cycle. -/
def execWdogExpire (w0 w1 sw : Bool) (s : State) : Out :=
  let due := [(0, w0), (1, w1), (2, sw)].filter fun e => e.2 && s.wdogDue e.1 && !s.wdogWarns e.1
  if due.isEmpty then .next s else .next (s.wdogExpire (due.map (·.1))).settle

/-- A general timer's COUNT reaches 0 (R229): event and count; without periodic it stops, with it LOAD comes at the next tick. -/
def State.gtExpire (s : State) (k : Nat) : State :=
  let s := (s.irq pageTMR (8 + k)).inc (F.TMR.GT_STAT.expiries.idx 16 k)
  let s := s.setReg (R.TMR.GT_COUNT + 16 * k) 0
  if s.on (F.TMR.GT_CTRL.periodic.idx 16 k) then s else s.put (F.TMR.GT_CTRL.en.idx 16 k) 0

/-- A general timer counts now: enabled, and CK06 runs or its source is CK01 (R229). -/
def State.gtCounts (s : State) (k : Nat) : Bool :=
  s.on (F.TMR.GT_CTRL.en.idx 16 k) && (s.on (F.TMR.GT_CTRL.src.idx 16 k) || s.ck06)

/-- GT_EXPIRE: timer `k` reaches 0 from its last tick. -/
def execGtExpire (k : Fin 4) (s : State) : Out :=
  if s.gtCounts k && decide (s.reg (R.TMR.GT_COUNT + 16 * k) = 1) then .next (s.gtExpire k).settle else .next s

/-- A write to the TMR page's own registers (ch. 9). -/
def tmrWrite (x : Wr) (s : State) : State :=
  if x.off < 0x130 then
    let k := (x.off - 0x100) / 16
    let r := (x.off - 0x100) % 16
    if r = 0 then
      let s' := s.storeNew x
      if x.new.getLsbD 0 && !x.old.getLsbD 0 then s'.wdogReload k else s'
    else if r = 4 then
      s.storeNew (if F.TMR.WD_LOAD.reload.get x.new < 16 then x.with F.TMR.WD_LOAD.reload 16 else x)
    else if r = 8 then
      if !s.on (F.TMR.WD_CTRL.en.idx 16 k) then s
      else if x.bits F.TMR.WD_FEED.key = 0x5744 then s.wdogReload k
      else (s.blockCause x 0x10).inc (F.TMR.WD_STAT.bad_feeds.idx 16 k)
    else s
  else
    let k := (x.off - 0x140) / 16
    let r := (x.off - 0x140) % 16
    if r = 0 then
      let x := if x.old.getLsbD 0 then x.keep F.TMR.GT_CTRL.src else x
      let s := s.storeNew x
      if x.new.getLsbD 0 && !x.old.getLsbD 0 then s.setReg (R.TMR.GT_COUNT + 16 * k) (s.reg (R.TMR.GT_LOAD + 16 * k)) else s
    else if r = 4 then s.storeNew (if x.new = 0 then { x with new := 1 } else x)
    else if r = 12 then (if x.on F.TMR.GT_STAT.clr then s.put (F.TMR.GT_STAT.expiries.idx 16 k) 0 else s)
    else s.storeNew x

/-- TMR registers that a read computes: running of each watchdog and timer. -/
def tmrRead (a : Nat) (s : State) : Word :=
  let off := a % 0x1000
  if off < 0x130 ∧ (off - 0x100) % 16 = 12 then
    s.reg a ||| BitVec.ofNat 32 (2 ^ 25 * b2n (s.wdogCounts ((off - 0x100) / 16)))
  else if 0x140 ≤ off ∧ (off - 0x140) % 16 = 12 then s.reg a ||| BitVec.ofNat 32 (b2n (s.gtCounts ((off - 0x140) / 16)))
  else s.reg a

end Sys2Proof.Machine
end

