-- ==== Sys2Proof/Machine/Pages.lean ====
section
/-!
DEFINITION. Register pages as a whole (ch. 2): what a read of each register returns and does, and what a write does, page by page
behind the rules of PageRules.lean. Every command that writes a register goes through `State.pageWrite`.
-/
namespace Sys2Proof.Machine
open Sys2Proof

/-! ### Computed registers of PWR, OPT and PRB -/

/-- The management port is active: a controller transfer runs or waits. A target transaction is one command. -/
def State.mgpActive (s : State) : Bool := s.mgp.mc.isSome

/-- Clock domains that R72 ties to conditions of the state, by number; `free` gives those that only pins drive (CK18, CK21, CK22, CK23)
and the Cloche's burst (CK26), at the bit of their number. -/
def State.clkRuns (s : State) (free : Nat) (n : Nat) : Bool :=
  let live := decide (s.aon.pstate ≠ 4)
  match n with
  | 1 | 27 => live
  | 2 => live && (!s.on F.PWR.XO.lfxo_ok || s.on F.PWR.XO.lf_src)
  | 3 => s.ck03
  | 4 => s.ck04
  | 5 => decide (s.get F.PWR.XO.users ≠ 0)
  | 6 => s.ck06
  | 7 => s.ck06 && s.pdOn 2 && !s.core0.wfi
  | 8 => s.ck06 && s.pdOn 3 && !s.core1.wfi
  | 9 => s.ck06 && s.pdOn 7 && decide (s.aon.pstate = 0)
  | 10 => s.ck06 && s.pdOn 8 && (s.ldg.cmd.isSome || !s.ldg.posted.isEmpty)
  | 11 => s.ck06 && s.pdOn 9
  | 12 => s.ck06 && s.pdOn 10
  | 13 | 14 => s.ck06 && s.pdOn 11
  | 15 => s.pdOn 11 && s.on F.ETH.CTRL.en
  | 16 => s.pdOn 11 && s.on (F.ETH.CTRL.en.idx 0x1000 1)
  | 17 => s.ck06 && s.mdio.isSome
  | 18 | 21 | 23 => free.testBit n
  | 19 => s.pdOn 1
  | 20 => s.ck06 && s.pdOn 12 && decide (2 ≤ s.get F.GCB.STAT.state)
  | 22 => s.mgpActive || free.testBit n
  | 24 => s.ck06 && s.pdOn 13 && s.on F.TRC.CTRL.en
  | 25 => s.ck06 && (s.on F.ADC.STAT.busy || s.on F.ADC.STAT.calibrating)
  | _ => false

/-- PWR.CLKRUN (R72): CK26 runs with any of CK03 to CK25, and in bursts of its own. -/
def State.clkRun (s : State) (free : Nat) : Nat :=
  let m := (numsFrom 27 1).foldl (fun m n => if s.clkRuns free n then m + 2 ^ (n - 1) else m) 0
  let any := decide (bitsOf m 24 2 ≠ 0) || s.mgpActive || free.testBit 26
  m + 2 ^ 25 * b2n any

/-- PWR registers that a read computes (R72, R92, ch. 3). The buck runs in PFM in DOZE (R84), even with BUCK.mode at forced PWM, which then
governs RUN alone (DESIGN CHOICE, log 69: R84's table and the field's description do not say which yields); in RUN it runs in PWM where that
is forced, and as the load has it (`free`) in automatic mode. -/
def pwrRead (free : Nat) (a : Nat) (s : State) : Word :=
  if a = R.PWR.STAT then BitVec.ofNat 32 (b2n s.pdWait)
  else if a = R.PWR.CLKRUN then BitVec.ofNat 32 (s.clkRun free)
  else if a = R.PWR.BUCK then
    let pfm := s.buckRuns && (decide (s.aon.pstate = 1) || (!s.on F.PWR.BUCK.mode && free.testBit 0))
    F.PWR.BUCK.pfm.put (b2n pfm) (s.reg a)
  else if a = R.PWR.HFRC then F.PWR.HFRC.coarse.put Config.hfrcTrim.toNat (s.reg a)
  else s.reg a

/-- PRB registers that a read computes (ch. 6). -/
def prbRead (a : Nat) (s : State) : Word :=
  if a = R.PRB.STAT then
    BitVec.ofNat 32 (b2n s.prb.attached + 2 * b2n s.core0.halted + 4 * b2n s.core1.halted + 16 * s.probeLevel)
  else s.reg a

/-- A write to the PRB page's own registers. -/
def prbWrite (x : Wr) (s : State) : State :=
  if x.a = R.PRB.CNTCLR then (if x.on F.PRB.CNTCLR.clr then s.setReg R.PRB.CNT 0 else s) else s.storeNew x

/-! ### Reads -/

/-- AON registers as a snapshot captures them. -/
def aonRead (a : Nat) (s : State) : Word :=
  if a = R.AON.TIME_LO then BitVec.ofNat 32 s.aon.time
  else if a = R.AON.TIME_HI then BitVec.ofNat 32 (s.aon.time / 2 ^ 32)
  else s.reg a

/-- The block's own part of the register at `a` (header CTRL and STAT included). -/
def blockRead (free : Nat) (a : Nat) (s : State) : Word :=
  match pageOf a with
  | 1 => pwrRead free a s
  | 2 => aonRead a s
  | 3 => lcRead a s
  | 4 => if a = R.OPT.HFRC_TRIM then BitVec.ofNat 32 Config.hfrcTrim.toNat else s.reg a
  | 5 => flcRead a s
  | 6 => ldgRead a s
  | 7 => smpuRead a s
  | 8 | 9 => cpuRead a s
  | 11 => intcRead a s
  | 13 => entRead a s
  | 14 => cryRead a s
  | 15 => keyRead a s
  | 16 => trlPageRead a s
  | 17 => ringRead a s
  | 19 => rdltRead a s
  | 20 | 21 => ethRead a s
  | 22 => rlpRead a s
  | 23 => gcbRead a s
  | 24 => hlkRead a s
  | 25 => mgpRead a s
  | 28 => tmrRead a s
  | 29 => snapRead a s
  | 31 => prbRead a s
  | _ => s.reg a

/-- The value of a register, with nothing that a read does: what snapshots and window 1 copy. -/
def State.regValue (s : State) (free : Nat) (a : Nat) : Word :=
  let p := pageOf a
  match s.readHeader p (a % 0x1000) with
  | some v => v
  | none => if a % 0x1000 = R.HDR.STAT then blockRead free a s ||| s.statMirror p else blockRead free a s

/-- A read that has reached its register, with what it does (R69, R93, R96, R331). `off` is the offset of a core's load. -/
def State.regRead (s : State) (ini : Ini) (w : World) (off : Option Nat) (a : Nat) : State × ReadRes :=
  if a = R.ENT.DATA then s.entData ini w off
  else if a = R.AON.TIME_LO then let (v, s) := s.timeLo ini; (s, .val v)
  else if a = R.AON.TIME_HI then (s, .val (s.timeHi ini))
  else if a = R.SNAP.EM_LO then let (v, s) := s.emLo; (s, .val v)
  else if R.ADC.RESULT ≤ a ∧ a < R.ADC.RESULT + 16 then
    let (v, s) := s.adcReadResult ((a + 8) % 16 / 4)
    (s, .val v)
  else if a = R.PWR.CLKRUN ∨ a = R.PWR.BUCK then
    let (n, s) := s.draw
    (s, .val (s.regValue (Config.freeNat n) a))
  else (s, .val (s.regValue 0 a))

/-- A read access to a register page (R580). -/
def State.pageRead (s : State) (ini : Ini) (w : World) (off : Option Nat) (size a : Nat) : State × ReadRes :=
  match s.pageJudge ini w false size a with
  | .busErr sub s => (s, .err sub)
  | .hole s => (s, .val 0)
  | .reg _ => s.regRead ini w off a

/-! ### Writes -/

/-- What the block behind page `x.p` does with a write to a register of its own. `bad` tells that a counter of the ledger fails its hidden
code, which LC meets. -/
def blockWrite (x : Wr) (f : EngineFate) (s : State) : State :=
  match x.p with
  | 0 => sysWrite x s
  | 1 => pwrWrite x s
  | 2 => aonWrite x s
  | 3 => lcWrite x f s
  | 5 => flcWrite x s
  | 6 => ldgWrite x s
  | 7 => smpuWrite x s
  | 8 | 9 => cpuWrite x s
  | 10 => colWrite x s
  | 11 => intcWrite x s
  | 12 => cloWrite x s
  | 13 => entWrite x s
  | 14 => cryWrite x s
  | 15 => keyWrite x s
  | 16 => trlWrite x s
  | 17 => ringWrite x s
  | 18 => rdlWrite x s
  | 19 => rdltWrite x s
  | 20 | 21 => ethWrite x s
  | 22 => rlpWrite x s
  | 23 => gcbWrite x s
  | 24 => hlkWrite x s
  | 25 => mgpWrite x s
  | 26 => gpioWrite x s
  | 27 => adcWrite x s
  | 28 => tmrWrite x s
  | 29 => snapWrite x s
  | 30 => trcWrite x s
  | 31 => prbWrite x s
  | _ => s.storeNew x

/-- A write that has reached its register (R580 step 5): `act` is what the block does with its own registers. -/
def State.regWrite (s : State) (r : RegInfo) (ini : Ini) (w : World) (a : Nat) (v : Word) (act : Wr → State → State) : State :=
  let p := pageOf a
  let off := a % 0x1000
  if (findReg (pageRegs p) off).isSome then
    let (s, x) := s.fieldWrite r ini w a v
    act x s
  else if off = R.HDR.OWNER then s.writeOwner ini w a v
  else if off = R.HDR.LOCK then s.writeLock ini w a v
  else if off = R.HDR.FAULT then s.writeFault a v
  else
    let (s, x) := s.fieldWrite r ini w a v
    s.writeHeader x

/-- A write access to a register page (R580) with a given action of the block, and the bus sub-cause it ends with (0: none). -/
def State.pageWriteBy (s : State) (ini : Ini) (w : World) (size a : Nat) (v : Word) (act : Wr → State → State) : State × Nat :=
  match s.pageJudge ini w true size a with
  | .busErr sub s => (s, sub)
  | .hole s => (s, 0)
  | .reg r => (s.regWrite r ini w a v act, 0)

/-- A write access to a register page (R580). -/
def State.pageWrite (s : State) (ini : Ini) (w : World) (size a : Nat) (v : Word) (f : EngineFate) : State × Nat :=
  s.pageWriteBy ini w size a v fun x s => blockWrite x f s

/-- The world for which an initiator's access counts: a core's own, the probe port's by its level (R23, R123); a DMA initiator acts for
the Field as far as a page's ownership goes, which R20 refuses anyway. -/
def State.iniWorld (s : State) : Ini → World
  | .core0 => s.core0.world
  | .core1 => s.core1.world
  | .probe => s.probeWorld
  | _ => .field

/-- A command that writes the register at `a`: the write, the answer to its sender, and what follows at once. One to a domain that is powering
up waits, and its sender presents it again (R82). -/
def State.writeCmd (s : State) (ini : Ini) (size a : Nat) (v : Word) (act : Wr → State → State) : Out :=
  if s.risingAt a then .next s
  else
    let (s, e) := s.pageWriteBy ini (s.iniWorld ini) size a v act
    .next (s.answer [] e).settle

/-- A command that writes a register of the page as a 32-bit access. -/
def State.writeReg (s : State) (ini : Ini) (a : Nat) (v : Word) : Out := s.writeCmd ini 4 a v fun x s => blockWrite x .clean s

/-- A command that reads the register at `a`; one of a domain that is powering up waits (R82). -/
def State.readReg (s : State) (ini : Ini) (a : Nat) : Out :=
  if s.risingAt a then .next s
  else
  match s.pageRead ini (s.iniWorld ini) none 4 a with
  | (s, .val v) => .next (s.answer (bytesLE 4 v.toNat) 0).settle
  | (s, .err e) => .next (s.answer [] e).settle
  | (s, .stall) => .next (s.answer [] 0).settle

end Sys2Proof.Machine
end

