-- ==== Sys2Proof/Machine/Memory.lean ====
section
/-!
DEFINITION. The memory instructions (R157, R161, R165 to R167, R189 to R195, R215) and LDCAPX (R174, R175). Each carries what the physical
storage makes of its access (log 9).
-/
namespace Sys2Proof.Machine
open Sys2Proof

/-- What a data access needs: a write, a capability access. -/
structure Need where
  write : Bool
  cap : Bool
  deriving DecidableEq, Repr

/-- The permissions that a data access lacks (R157 step 5, R190). -/
def CapReg.lacks (v : CapReg) (n : Need) : Bool :=
  !v.perm (if n.write then permSTORE else permLOAD) || (n.cap && !v.perm (if n.write then permSTORECAP else permLOADCAP))

/-- The first check of the core's own, before the system MPU's (R157 steps 1 to 8), that a data access of `size` bytes at offset `o` through
`v` fails. -/
def State.ownFault (s : State) (c : CoreId) (v : CapReg) (o size : Nat) (n : Need) : Option Flt :=
  let a := capAddr v o
  match s.useCause (s.worldOf c) v with
  | some k => some (fltCap k o a)
  | none =>
    if v.lacks n then some (fltCap capPERM o a)
    else if v.length < o + size then some (fltBounds bndDATA o a)
    else if a % size ≠ 0 then some (fltMisaligned o a)
    else if isDevice a && (!v.perm permDEVICE || n.cap) then some (fltCap capDEVICE o a)
    else if n.write && n.cap && !hasTags a then some (fltCap capNO_TAGMEM o a)
    else none

/-- The fault of a data access at offset `o` that the system MPU refuses (R157 step 9, R269). -/
def State.mpuFault (s : State) (c : CoreId) (o a : Nat) (wr : Bool) : Option Flt :=
  (s.mpuJudge (coreNum c) (s.worldOf c) (if wr then .write else .read) a).map fun e =>
    { cls := 7, sub := e.1, tval := o, taddr := a, region := e.2, write := wr }

/-- The first check of R157 that a data access fails. -/
def State.accessFault (s : State) (c : CoreId) (v : CapReg) (o size : Nat) (n : Need) : Option Flt :=
  (s.ownFault c v o size n).orElse fun _ => s.mpuFault c o (capAddr v o) n.write

/-- A precise bus error of a core's access, which its target has recorded. -/
def State.busFault (s : State) (c : CoreId) (sub o a : Nat) : State := (s.raiseAt c vecSync (fltBus sub o a)).settle

/-- A core's read of a register page over the fabric, with the beats of R268. -/
def State.corePageRead (s : State) (c : CoreId) (o a size : Nat) (g : Integ) : State × ReadRes :=
  if s.risingAt a then (s, .stall)
  else if g = .reqBeat then (s.integrity F.SMPU.INTEG.beat a, .err busINTEG)
  else
    let (s, r) := s.pageRead (coreIni c) (s.worldOf c) (some o) size a
    if g = .respBeat then (s.integrity F.SMPU.INTEG.beat a, .err busINTEG) else (s, r)

/-- A core's read of `size` bytes at `a`: a value, a bus error, or a stall (R82, R284, R332). -/
def State.coreRead (s : State) (c : CoreId) (o a size : Nat) (g : Integ) : State × Except (Option Nat) Nat :=
  if regionOf a = .pages then
    match s.corePageRead c o a size g with
    | (s, .val v) => (s, .ok v.toNat)
    | (s, .err e) => (s, .error (some e))
    | (s, .stall) => (s, .error none)
  else if s.readStalls a then (s, .error none)
  else
    match s.memRead (coreIni c) (s.worldOf c) a size g with
    | (s, .ok v) => (s, .ok v)
    | (s, .error e) => (s, .error (some e))

/-- A load of `size` bytes through `cs` at rs + imm13: the checks, the access, and what `fin` makes of the value. A stalled load
of word `word` is presented again. -/
def State.load (s : State) (c : CoreId) (word : Nat) (rs : Fin 32) (cs : Fin 8) (imm : BitVec 13) (size : Nat) (cap : Bool) (g : Integ)
    (fin : State → Nat → Nat → Nat → State) : State :=
  let k := s.core c
  let v := k.crd cs
  let o := (k.offset rs imm).toNat
  let a := capAddr v o
  match s.accessFault c v o size ⟨false, cap⟩ with
  | some f => s.raise c f
  | none =>
    match s.coreRead c o a size g with
    | (s, .ok d) => (fin s o a d).settle
    | (s, .error (some e)) => s.busFault c e o a
    | (s, .error none) => (s.stall c word).settle

/-- A load into a general register. -/
def State.loadW (s : State) (c : CoreId) (op : Nat) (rt rs : Fin 32) (cs : Fin 8) (imm : BitVec 13) (size : Nat) (g : Integ)
    (ext : Nat → Word) : State :=
  s.execMem c (wordM op rt rs cs imm) fun s =>
    s.load c (wordM op rt rs cs imm) rs cs imm size false g fun s _ _ d => s.finish c rt (ext d)

def execLb (c : CoreId) (rt rs : Fin 32) (cs : Fin 8) (imm : BitVec 13) (g : Integ) (s : State) : Out :=
  .next (s.loadW c 0x10 rt rs cs imm 1 g (sext 8))
def execLbu (c : CoreId) (rt rs : Fin 32) (cs : Fin 8) (imm : BitVec 13) (g : Integ) (s : State) : Out :=
  .next (s.loadW c 0x13 rt rs cs imm 1 g (BitVec.ofNat 32))
def execLh (c : CoreId) (rt rs : Fin 32) (cs : Fin 8) (imm : BitVec 13) (g : Integ) (s : State) : Out :=
  .next (s.loadW c 0x11 rt rs cs imm 2 g (sext 16))
def execLhu (c : CoreId) (rt rs : Fin 32) (cs : Fin 8) (imm : BitVec 13) (g : Integ) (s : State) : Out :=
  .next (s.loadW c 0x14 rt rs cs imm 2 g (BitVec.ofNat 32))
def execLw (c : CoreId) (rt rs : Fin 32) (cs : Fin 8) (imm : BitVec 13) (g : Integ) (s : State) : Out :=
  .next (s.loadW c 0x12 rt rs cs imm 4 g (BitVec.ofNat 32))

/-- A capability as it arrives from a granule in a core (R165, R167): the fault GLASS, or the value and the count of a stale copy. -/
def State.arrive (s : State) (c : CoreId) (v : CapReg) : Except Nat (CapReg × State) :=
  if v.tag && !s.stale v && decide (s.worldOf c = .field) && decide (v.otype = 0) && v.perm permGLASS then .error capGLASS
  else .ok (s.moveCap c v)

/-- LDC (R161, R165, R167, R190): the 128 bits with the granule's tag. -/
def execLdc (c : CoreId) (rt rs : Fin 32) (cs : Fin 8) (imm : BitVec 13) (g : Integ) (s : State) : Out :=
  let word := wordM 0x15 rt rs cs imm
  .next (s.execMem c word fun s => s.withCaps c word [rt] fun s =>
    s.load c word rs cs imm 16 true g fun s o a d =>
      match s.arrive c ⟨BitVec.ofNat 128 d, hasTags a && s.tag (a / 16)⟩ with
      | .error k => s.raise c (fltCap k o a)
      | .ok (v, s) => s.finishCap c (capOf rt) v)

/-- LRW (R191 to R193): as LW; a further LRW replaces the reservation, and an address outside SRAM sets none. -/
def execLrw (c : CoreId) (rt rs : Fin 32) (cs : Fin 8) (imm : BitVec 13) (g : Integ) (s : State) : Out :=
  let word := wordM 0x16 rt rs cs imm
  .next (s.execMem c word fun s => s.load c word rs cs imm 4 false g fun s _ a d =>
    (s.modCore c fun k => { k with resv := if hasTags a then some (a / 16) else none }).finish c rt (BitVec.ofNat 32 d))

/-- A store to a register page: precise, with the beats of R268. The pc moves on before the page acts, so that a reset which the write
performs stands; a refused store leaves it at the store. -/
def State.corePageWrite (s : State) (c : CoreId) (o a size : Nat) (d : Word) (g : Integ) : State :=
  let pc := (s.core c).pc
  if g = .reqBeat then (s.integrity F.SMPU.INTEG.beat a).busFault c busINTEG o a
  else
    let w := s.worldOf c
    let (s, e) := (s.modCore c Core.next).pageWrite (coreIni c) w size a d (.ofInteg g)
    let back (s : State) : State := s.modCore c fun k => { k with pc := pc }
    if e ≠ 0 then (back s).busFault c e o a
    else if g = .respBeat then (back (s.integrity F.SMPU.INTEG.beat a)).busFault c busINTEG o a
    else s

/-- A store that has passed its checks, outside the register pages: posted to a memory region, where a bus error becomes imprecise,
and precise elsewhere (R215). -/
def State.coreStore (s : State) (c : CoreId) (o a size v : Nat) (g : Integ) : State :=
  let w := s.worldOf c
  match s.memWrite (coreIni c) w a size v g with
  | (s, none) => s.modCore c Core.next
  | (s, some e) =>
    if isMemory a then s.modCore c fun k => { k.next with posted := k.posted ++ [⟨w, e, a⟩] }
    else s.busFault c e o a

/-- A data store of the low `size` bytes of rt (R189); one to a domain that is powering up stalls (R82). -/
def State.storeW (s : State) (c : CoreId) (op : Nat) (rt rs : Fin 32) (cs : Fin 8) (imm : BitVec 13) (size : Nat) (g : Integ) : State :=
  s.execMem c (wordM op rt rs cs imm) fun s =>
    let k := s.core c
    let v := k.crd cs
    let o := (k.offset rs imm).toNat
    let a := capAddr v o
    match s.accessFault c v o size ⟨true, false⟩ with
    | some f => s.raise c f
    | none =>
      if s.risingAt a then (s.stall c (wordM op rt rs cs imm)).settle
      else if regionOf a = .pages then (s.corePageWrite c o a size (k.rd rt) g).settle
      else (s.coreStore c o a size ((k.rd rt).toNat % 2 ^ (8 * size)) g).settle

def execSb (c : CoreId) (rt rs : Fin 32) (cs : Fin 8) (imm : BitVec 13) (g : Integ) (s : State) : Out :=
  .next (s.storeW c 0x18 rt rs cs imm 1 g)
def execSh (c : CoreId) (rt rs : Fin 32) (cs : Fin 8) (imm : BitVec 13) (g : Integ) (s : State) : Out :=
  .next (s.storeW c 0x19 rt rs cs imm 2 g)
def execSw (c : CoreId) (rt rs : Fin 32) (cs : Fin 8) (imm : BitVec 13) (g : Integ) (s : State) : Out :=
  .next (s.storeW c 0x1A rt rs cs imm 4 g)

/-- The capability store that has passed its checks: the bits are stored, and the tag of the granule is that of the copy (R161, R167). -/
def State.storeCap (s : State) (c : CoreId) (o a : Nat) (v : CapReg) (g : Integ) : State :=
  let (v, s) := s.moveCap c v
  let lands := s.domainReady (addrDomain a) && (((s.core c).line? a).isSome || decide (g ≠ .reqBeat))
  let s := s.coreStore c o a 16 v.bits.toNat g
  if lands && v.tag then s.setTag (a / 16) true else s

/-- STC (R161, R166, R167, R190): the core's own checks, LOCAL among them, come before the system MPU's (R269). -/
def execStc (c : CoreId) (rt rs : Fin 32) (cs : Fin 8) (imm : BitVec 13) (g : Integ) (s : State) : Out :=
  let word := wordM 0x1B rt rs cs imm
  .next (s.execMem c word fun s => s.withCaps c word [rt] fun s =>
    let k := s.core c
    let au := k.crd cs
    let v := k.crd (capOf rt)
    let o := (k.offset rs imm).toNat
    let a := capAddr au o
    match s.ownFault c au o 16 ⟨true, true⟩ with
    | some f => s.raise c f
    | none =>
      if v.tag && !s.stale v && !v.perm permGLOBAL && au.perm permGLOBAL then s.raise c (fltCap capLOCAL o a)
      else
        match s.mpuFault c o a true with
        | some f => s.raise c f
        | none => if s.risingAt a then (s.stall c word).settle else (s.storeCap c o a v g).settle)

/-- An SCW ends with its result code in rt; it always ends the reservation (R191). -/
def State.scwEnd (s : State) (c : CoreId) (rt : Fin 32) (code : Word) : State :=
  (s.modCore c fun k => { k with resv := none }).finish c rt code

/-- SCW (R191 to R194): the store only while this core holds a reservation for the granule. -/
def execScw (c : CoreId) (rt rs : Fin 32) (cs : Fin 8) (imm : BitVec 13) (g : Integ) (s : State) : Out :=
  let word := wordM 0x1C rt rs cs imm
  .next (s.execMem c word fun s =>
    let k := s.core c
    let v := k.crd cs
    let o := (k.offset rs imm).toNat
    let a := capAddr v o
    match s.accessFault c v o 4 ⟨true, false⟩ with
    | some f => s.raise c f
    | none =>
      if s.risingAt a then (s.stall c word).settle
      else if hasTags a && decide (k.resv = some (a / 16)) then
        match s.memWrite (coreIni c) (s.worldOf c) a 4 (k.rd rt).toNat g with
        | (s, none) => (s.scwEnd c rt 0).settle
        | (s, some e) => s.busFault c e o a
      else s.scwEnd c rt 1)

/-- The running world's SRAM, as a table walk sees it (R175). -/
def walkSram (w : World) (a : Nat) : Bool :=
  decide (regionOf a = .sramF) || (decide (w = .glass) && decide (regionOf a = .sramG))

/-- The read of a table walk (R174, R175): the cause it ends with, none while it stalls, or the capability that it finds. -/
def State.walk (s : State) (c : CoreId) (a : Nat) (g : Integ) : State × Except (Option Nat) CapReg :=
  let w := s.worldOf c
  if isDevice a then (s, .error (some capWALK_DEVICE))
  else if !walkSram w a then (s, .error (some capWALK_BUS))
  else
    match s.mpuJudge (coreNum c) w .read a with
    | some (sub, n) => (s.mpuRecord (coreNum c) sub n w false false a, .error (some capWALK_BUS))
    | none =>
      if s.risingAt a then (s, .error none)
      else
        match s.memRead (coreIni c) w a 16 g with
        | (s, .error _) => (s, .error (some capWALK_BUS))
        | (s, .ok d) => if s.tag (a / 16) then (s, .ok ⟨BitVec.ofNat 128 d, true⟩) else (s, .error (some capTAG))

/-- LDCAPX (R174, R175). -/
def execLdcapx (c : CoreId) (cd ws : Fin 32) (g : Integ) (s : State) : Out :=
  let word := wordQ 0x30 cd ws 0 0 0x07
  .next (s.execMem c word fun s =>
    s.withCaps c word [cd] fun s =>
      let k := s.core c
      let i := (k.rd ws).toNat
      if 65536 ≤ i ∨ k.bank.ctabCount.toNat ≤ i then s.raise c (fltBounds bndTABLE i 0)
      else
        let a := (k.bank.ctabBase.toNat + 16 * i) % 2 ^ 32
        match s.walk c a g with
        | (s, .error none) => (s.stall c word).settle
        | (s, .error (some e)) => s.raise c (fltCap e word a)
        | (s, .ok v) =>
          match s.arrive c v with
          | .error e => s.raise c (fltCap e word a)
          | .ok (v, s) => (s.finishCap c (capOf cd) v).settle)

end Sys2Proof.Machine
end

