-- ==== Sys2Proof/Machine/Flags.lean ====
section
/-!
DEFINITION. The results of the integer instructions (R186, R187) and the conditions of the branches (R196). The Xestov core has
no flags: comparisons write 1 or 0, and branches compare registers.
-/
namespace Sys2Proof.Machine
open Sys2Proof

def aluAdd (x y : Word) : Word := x + y
def aluSub (x y : Word) : Word := x - y
def aluAnd (x y : Word) : Word := x &&& y
def aluOr (x y : Word) : Word := x ||| y
def aluXor (x y : Word) : Word := x ^^^ y
/-- Shifts take rs2[4:0] (R186). -/
def aluSll (x y : Word) : Word := x <<< (y.toNat % 32)
def aluSrl (x y : Word) : Word := x >>> (y.toNat % 32)
def aluSra (x y : Word) : Word := x.sshiftRight (y.toNat % 32)
def aluSlt (x y : Word) : Word := if x.slt y then 1 else 0
def aluSltu (x y : Word) : Word := if x.ult y then 1 else 0
def aluMul (x y : Word) : Word := x * y
/-- The high half of the 64-bit product of two extended operands (R186). -/
def aluHigh (x y : BitVec 64) : Word := ((x * y) >>> 32).setWidth 32
def aluMulh (x y : Word) : Word := aluHigh (x.signExtend 64) (y.signExtend 64)
def aluMulhu (x y : Word) : Word := aluHigh (x.setWidth 64) (y.setWidth 64)
def aluMulhsu (x y : Word) : Word := aluHigh (x.signExtend 64) (y.setWidth 64)
/-- Quotients: 0 for a zero divisor; 0x8000_0000 by -1 is 0x8000_0000 (R187). -/
def aluDiv (x y : Word) : Word := if y = 0 then 0 else if x = 0x80000000 ∧ y = 0xFFFFFFFF then 0x80000000 else x.sdiv y
def aluDivu (x y : Word) : Word := if y = 0 then 0 else x / y
/-- Remainders: rs1 for a zero divisor; 0 for 0x8000_0000 by -1 (R187). -/
def aluRem (x y : Word) : Word := if y = 0 then x else if x = 0x80000000 ∧ y = 0xFFFFFFFF then 0 else x.srem y
def aluRemu (x y : Word) : Word := if y = 0 then x else x % y

def condEq (x y : Word) : Bool := x == y
def condNe (x y : Word) : Bool := x != y
def condLt (x y : Word) : Bool := x.slt y
def condGe (x y : Word) : Bool := !x.slt y
def condLtu (x y : Word) : Bool := x.ult y
def condGeu (x y : Word) : Bool := !x.ult y

end Sys2Proof.Machine
end

