-- ==== Sys2Proof/Machine/Transfer.lean ====
section
/-!
DEFINITION. Control transfer (R196 to R199), the branch predictor (R583), and the check instructions (R203).
-/
namespace Sys2Proof.Machine
open Sys2Proof

/-- R198: a target is checked against a PCC by step 6 of R157 with s = 4, then for alignment. -/
def targetFault (pcc : CapReg) (t : Word) : Option Flt :=
  if pcc.length < t.toNat + 4 then some (fltBounds bndFETCH t.toNat (capAddr pcc t.toNat))
  else if t.toNat % 4 ≠ 0 then some (fltMisaligned t.toNat (capAddr pcc t.toNat))
  else none

/-- The predictor entry of a branch: bits [9:2] of its address (R583). -/
def Core.predIndex (k : Core) : Nat := bitsOf (k.bank.pcc.base + k.pc.toNat) 9 2

/-- A resolved branch moves its counter one step toward its outcome (R583). -/
def Core.train (k : Core) (taken : Bool) : Core :=
  let v := tabGet 1 k.pred k.predIndex
  { k with pred := tabSet 1 k.predIndex (if taken then min 3 (v + 1) else v - 1) k.pred }

/-- A conditional branch (R196, R198). -/
def State.branch (s : State) (c : CoreId) (rs1 rs2 : Fin 32) (imm : BitVec 16) (cond : Word → Word → Bool) : State :=
  s.execOn c fun s =>
    let k := s.core c
    if cond (k.rd rs1) (k.rd rs2) then
      let t := k.pc + 4 * imm.signExtend 32
      match targetFault k.bank.pcc t with
      | some f => s.raise c f
      | none => s.setCore c { k.train true with pc := t }
    else s.setCore c (k.train false).next

def execBeq (c : CoreId) (rs1 rs2 : Fin 32) (imm : BitVec 16) (s : State) : Out := .next (s.branch c rs1 rs2 imm condEq)
def execBne (c : CoreId) (rs1 rs2 : Fin 32) (imm : BitVec 16) (s : State) : Out := .next (s.branch c rs1 rs2 imm condNe)
def execBlt (c : CoreId) (rs1 rs2 : Fin 32) (imm : BitVec 16) (s : State) : Out := .next (s.branch c rs1 rs2 imm condLt)
def execBge (c : CoreId) (rs1 rs2 : Fin 32) (imm : BitVec 16) (s : State) : Out := .next (s.branch c rs1 rs2 imm condGe)
def execBltu (c : CoreId) (rs1 rs2 : Fin 32) (imm : BitVec 16) (s : State) : Out := .next (s.branch c rs1 rs2 imm condLtu)
def execBgeu (c : CoreId) (rs1 rs2 : Fin 32) (imm : BitVec 16) (s : State) : Out := .next (s.branch c rs1 rs2 imm condGeu)

/-- A jump within PCC: the link is written after the target is read (R197, R198). -/
def State.jump (s : State) (c : CoreId) (rd : Fin 32) (t : Word) : State :=
  let k := s.core c
  match targetFault k.bank.pcc t with
  | some f => s.raise c f
  | none => s.setCore c { k.wr rd (k.pc + 4) with pc := t }

def execJal (c : CoreId) (rd : Fin 32) (imm : BitVec 21) (s : State) : Out :=
  .next (s.execOn c fun s => s.jump c rd ((s.core c).pc + 4 * imm.signExtend 32))
def execJalr (c : CoreId) (rd rs1 : Fin 32) (imm : BitVec 16) (s : State) : Out :=
  .next (s.execOn c fun s => s.jump c rd ((s.core c).rd rs1 + imm.signExtend 32))

/-- CJALR's and TRET's check of a new PCC: steps 1 to 5 of R157, needing EXEC, then the target (R199, R213). -/
def State.newPccFault (s : State) (c : CoreId) (v : CapReg) (t : Word) (word : Nat) : Option Flt :=
  match s.useCause (s.worldOf c) v with
  | some k => some (fltCap k word 0)
  | none => if !v.perm permEXEC then some (fltCap capPERM word 0) else targetFault v t

/-- CJALR (R199). -/
def execCjalr (c : CoreId) (rd rs1 : Fin 32) (cs cd : Fin 8) (lc : Bool) (imm : BitVec 9) (s : State) : Out :=
  .next (s.execOn c fun s =>
    let word := wordCJ 0x2A rd rs1 cs cd lc imm
    if !lc && decide (cd ≠ 0) then s.illegal c word
    else
      let k := s.core c
      let v := k.crd cs
      let t := k.rd rs1 + 4 * imm.signExtend 32
      match s.newPccFault c v t word with
      | some f => s.raise c f
      | none =>
        let old := k.bank.pcc
        let k := k.wr rd (k.pc + 4)
        let k := if lc then k.cwr cd old else k
        s.setCore c { k.setBank { k.bank with pcc := v } with pc := t })

/-- CHK and CHKI: cs by steps 1 to 4 of R157, then off + size within its length (R203). -/
def State.chk (s : State) (c : CoreId) (cs : Fin 8) (off size : Word) (word : Nat) : State :=
  let v := (s.core c).crd cs
  match s.useCause (s.worldOf c) v with
  | some k => s.capFault c k word
  | none =>
    if v.length < off.toNat + size.toNat then s.raise c (fltBounds bndCHK off.toNat (capAddr v off.toNat))
    else s.modCore c Core.next

def execChk (c : CoreId) (cs off size : Fin 32) (s : State) : Out :=
  .next (s.execOn c fun s =>
    let word := wordR 0x31 cs off size 0
    if isCap cs then s.chk c (capOf cs) ((s.core c).rd off) ((s.core c).rd size) word else s.illegal c word)
def execChki (c : CoreId) (cs off : Fin 32) (size : BitVec 16) (s : State) : Out :=
  .next (s.execOn c fun s =>
    let word := wordI 0x32 cs off size
    if isCap cs then s.chk c (capOf cs) ((s.core c).rd off) (size.setWidth 32) word else s.illegal c word)

/-- CHKR and CHKRI: lo ≤ idx < hi, unsigned (R203); TVAL is idx. -/
def State.chkr (s : State) (c : CoreId) (idx lo hi : Word) : State :=
  if lo.toNat ≤ idx.toNat ∧ idx.toNat < hi.toNat then s.modCore c Core.next
  else s.raise c (fltBounds bndCHKR idx.toNat 0)

def execChkr (c : CoreId) (idx lo hi : Fin 32) (s : State) : Out :=
  .next (s.execOn c fun s => s.chkr c ((s.core c).rd idx) ((s.core c).rd lo) ((s.core c).rd hi))
def execChkri (c : CoreId) (idx : Fin 32) (limit : BitVec 16) (s : State) : Out :=
  .next (s.execOn c fun s => s.chkr c ((s.core c).rd idx) 0 (limit.setWidth 32))

end Sys2Proof.Machine
end

