-- ==== Sys2Proof/Machine/System.lean ====
section
/-!
DEFINITION. The system instructions (R204 to R207, R213), the system registers (R153, R205, R582; ch. 9), and the words and fetches that
fault before an instruction (R158, R183).
-/
namespace Sys2Proof.Machine
open Sys2Proof

/-! ### System registers -/

/-- A system register as MFSR reads it (R153, R205); `none` for a number that none has. -/
def State.sysRead (s : State) (c : CoreId) (n : Nat) : Option Word :=
  let k := s.core c
  let b := k.bank
  match n with
  | 0x000 => some (BitVec.ofNat 32 (coreNum c + 0x0200))
  | 0x001 => some (BitVec.ofNat 32 (worldCode k.world))
  | 0x002 => some (BitVec.ofNat 32 k.mask)
  | 0x008 => some b.ctabBase
  | 0x009 => some b.ctabCount
  | 0x010 => some (BitVec.ofNat 32 s.aon.tstamp)
  | 0x020 => some b.tcause
  | 0x021 => some b.tpc
  | 0x022 => some b.tval
  | 0x023 => some b.taddr
  | 0x024 => some b.timpr
  | 0x025 => some b.timprAddr
  | 0x030 => some k.scause
  | 0x031 => some k.spc
  | 0x032 => some k.sval
  | _ => none

/-- A system register that MTSR writes: the core with the value; `none` for a number that is absent or RO (R205). Reserved bits stay 0. -/
def Core.sysWrite (k : Core) (n : Nat) (v : Word) : Option Core :=
  let b := k.bank
  match n with
  | 0x002 => some { k with mask := v.toNat % 16 }
  | 0x008 => some (k.setBank { b with ctabBase := v &&& 0xFFFFFFF0 })
  | 0x009 => some (k.setBank { b with ctabCount := v &&& 0x0000FFFF })
  | 0x020 => some (k.setBank { b with tcause := v &&& 0x00FFFFFF })
  | 0x021 => some (k.setBank { b with tpc := v })
  | 0x022 => some (k.setBank { b with tval := v })
  | _ => none

/-- MFSR. -/
def execMfsr (c : CoreId) (rd : Fin 32) (imm : BitVec 12) (s : State) : Out :=
  .next (s.execOn c fun s =>
    match s.sysRead c imm.toNat with
    | some v => s.finish c rd v
    | none => s.illegal c (wordS rd 0 imm 6))

/-- The Field may not raise its mask level above 13 (R207). -/
def State.maskRefused (s : State) (c : CoreId) (l : Nat) : Bool := decide (s.worldOf c = .field) && decide (13 < l)

/-- MTSR. -/
def execMtsr (c : CoreId) (rs1 : Fin 32) (imm : BitVec 12) (s : State) : Out :=
  .next (s.execOn c fun s =>
    let v := (s.core c).rd rs1
    let word := wordS 0 rs1 imm 7
    if decide (imm = 2) && s.maskRefused c (v.toNat % 16) then s.illegal c word
    else
      match (s.core c).sysWrite imm.toNat v with
      | some k => s.setCore c k.next
      | none => s.illegal c word)

/-- MASKX and MASKI: rd receives the old level. -/
def State.maskSet (s : State) (c : CoreId) (rd : Fin 32) (l word : Nat) : State :=
  if s.maskRefused c l then s.illegal c word
  else
    let k := s.core c
    s.setCore c { (k.wr rd (BitVec.ofNat 32 k.mask)).next with mask := l }

def execMaskx (c : CoreId) (rd rs1 : Fin 32) (s : State) : Out :=
  .next (s.execOn c fun s => s.maskSet c rd (((s.core c).rd rs1).toNat % 16) (wordS rd rs1 0 8))

def execMaski (c : CoreId) (rd : Fin 32) (imm : BitVec 12) (s : State) : Out :=
  .next (s.execOn c fun s =>
    if 16 ≤ imm.toNat then s.illegal c (wordS rd 0 imm 9) else s.maskSet c rd imm.toNat (wordS rd 0 imm 9))

/-! ### Waits and barriers -/

/-- WFI (R85, R192, R207): the clock stops; the core resumes at pc + 4. Core 1 lets a power-down of PD3 go on (R91). -/
def execWfi (c : CoreId) (s : State) : Out :=
  .next (s.execOn c fun s =>
    if s.worldOf c = .glass then s.illegal c (wordS 0 0 0 0)
    else (s.modCore c fun k => { k.next with wfi := true, resv := none }).seqKick)

def execFence (c : CoreId) (s : State) : Out := .next (s.execOn c fun s => (s.fence c).modCore c Core.next)

/-- FENCE.R (R204, R276): the channel's pending rules become its active rules. -/
def execFenceR (c : CoreId) (s : State) : Out :=
  .next (s.execOn c fun s => ((s.fence c).activate (coreNum c)).modCore c Core.next)

/-- FENCE.I (R204, R260): the instruction-cache lines of the running world's ways are discarded. -/
def execFenceI (c : CoreId) (s : State) : Out :=
  .next (s.execOn c fun s => (s.fence c).modCore c fun k => k.dropCode.next)

/-! ### Traps, gates -/

/-- TRAP (R204, R210): class SOFTWARE at level 14. -/
def execTrap (c : CoreId) (imm : BitVec 12) (s : State) : Out :=
  .next (s.execOn c fun s => (s.raiseAt c vecSoftware { cls := clsSOFTWARE, sub := 0, tval := imm.toNat, taddr := 0 }).settle)

/-- TRET (R213). -/
def execTret (c : CoreId) (s : State) : Out :=
  .next (s.execOn c fun s =>
    let word := wordS 0 0 0 5
    let k := s.core c
    let b := k.bank
    let l := bitsOf b.tcause.toNat 23 20
    if s.maskRefused c l then s.illegal c word
    else
      match s.newPccFault c b.epcc b.tpc word with
      | some f => s.raise c f
      | none => s.setCore c { k.setBank { b with pcc := b.epcc } with pc := b.tpc, mask := l })

/-- GATE (R206, R207): `cs` is the 5-bit field that names a capability register. -/
def execGate (c : CoreId) (rd cs : Fin 32) (s : State) : Out :=
  .next (s.execOn c fun s =>
    let word := wordS rd cs 0 0xA
    s.withCaps c word [cs] fun s =>
      if s.worldOf c = .glass then s.illegal c word
      else
        let v := (s.core c).crd (capOf cs)
        if !v.tag then s.capFault c capTAG word
        else if s.stale v then s.capFault c capREVOKED word
        else if v.otype ≠ 0xF0 then s.capFault c capOTYPE word
        else (s.colGate c rd v).settle)

/-- UNGATE (R207, R241, R243, R249). -/
def execUngate (c : CoreId) (rs1 : Fin 32) (s : State) : Out :=
  .next (s.execOn c fun s =>
    if s.worldOf c = .field then s.illegal c (wordS 0 rs1 0 0xB)
    else (s.colUngate c ((s.core c).rd rs1)).settle)

/-! ### Reserved words, fetches that fail -/

/-- RESERVED_OPCODE (R183): a word that is not reserved is another command's. -/
def execReservedOpcode (c : CoreId) (word : Word) (s : State) : Out :=
  .next (if reservedWord word.toNat then s.execOn c fun s => s.illegal c word.toNat else s)

/-- What can fail of the memory that a fetch reads, one of them as a free value tells (log 9): its check code or the codes of its beats in SRAM
(R253, R268), the error code or the sense paths in flash (R281, R282), the beats elsewhere. -/
def State.fetchFate (s : State) (c : CoreId) : Integ × State :=
  let (n, s) := s.draw
  let a := (s.core c).fetchAddr
  let fates : List Integ :=
    [.reqBeat, .respBeat] ++
      (match regionOf a with
      | .sramF | .sramG => if s.rowReady a && !s.servedByCache (coreIni c) a then [.sramCheck] else []
      | .flash => [.flashUncorrectable] ++ (if s.on F.FLC.CTRL.redund then [.flashMismatch] else [])
      | _ => [])
  (fates.getD (Config.freeNat n % fates.length) .reqBeat, s)

/-- A fetch that reads memory fails there: a precise bus error of sub-cause 0x04 (R215, R253, R268, R281, R282). -/
def State.fetchFails (s : State) (c : CoreId) : State :=
  let k := s.core c
  let a := k.fetchAddr
  let (g, s) := s.fetchFate c
  let s :=
    match g with
    | .sramCheck => s.integrity F.SMPU.INTEG.sram a
    | .flashUncorrectable | .flashMismatch => (s.flashSense a g).1
    | _ => s.integrity F.SMPU.INTEG.beat a
  s.raise c (fltBus busINTEG k.pc.toNat a)

/-- FETCH_FAULT (R158): the fetch at pc fails a check of R157 and faults. One that passes them, and that the instruction cache does not serve,
fails in the memory it reads (R215); one that the cache serves brings an instruction, another command. -/
def execFetchFault (c : CoreId) (s : State) : Out :=
  .next (match s.fetchCheck c (s.worldOf c) (s.core c).bank.pcc (s.core c).pc.toNat with
    | some _ => s.execOn c id
    | none =>
      if (s.core c).codeLine? (s.core c).fetchAddr then s
      else s.boundary c fun s => (s.eventTaken c).orElse fun _ => if s.fetchStalls c then none else some ((s.deferLines c).fetchFails c))

end Sys2Proof.Machine
end

