-- ==== Sys2Proof/Machine/Probe.lean ====
section
/-!
DEFINITION. The probe port (R143 to R149): its frames, its registers, memory accesses over channel 6, and halting, stepping and resuming
the cores; and the VDDIO groups (R50, R55, R57).
-/
namespace Sys2Proof.Machine
open Sys2Proof

/-! ### Frames (R144, R145) -/

/-- The port takes frames: PD13 is on and no parity failure has silenced it (R143, R145). -/
def State.prbListens (s : State) : Bool := s.pdOn 13 && !s.prb.deaf

/-- Nothing answers: the pull-up holds the line (R145). -/
def State.prbSilent (s : State) : State := s.answer [0xFF] 0

/-- Odd parity over op and reg holds (R144). -/
def prbParity (op : BitVec 2) (reg : BitVec 6) (par : Bool) : Bool :=
  let ones := (numsFrom 2 0).countP (fun k => op.getLsbD k) + (numsFrom 6 0).countP (fun k => reg.getLsbD k) + b2n par
  decide (ones % 2 = 1)

/-- A frame of valid parity is served: counted, and the port is attached (R145). -/
def State.prbServed (s : State) : State :=
  let s := s.inc F.PRB.CNT.frames
  if s.prb.attached then s else { s with prb := { s.prb with attached := true } }.irq pagePRB 0

/-- A frame: silence, the parity failure of R145, or what the port makes of it. -/
def State.prbFrame (s : State) (op : BitVec 2) (reg : BitVec 6) (par : Bool) (f : State → State) : State :=
  if !s.prbListens then s.prbSilent
  else if prbParity op reg par then (f s.prbServed).settle
  else { (s.inc F.PRB.CNT.parity) with prb := { s.prb with deaf := true } }.prbSilent

/-- The result of a frame: a code other than OK is kept in ERR; an AUTH is counted, and at level 0 or 1 reported to the Cloche as its
source 31 (R122, R147). -/
def State.prbCode (s : State) (code : Nat) : State :=
  let s := if code = rcOK then s else { s with prb := { s.prb with err := code + s.prb.err / 256 * 256 } }
  if code = rcAUTH then
    (s.inc F.PRB.CNT.refused).probeTamper
  else s

/-- The answer of a READ: the code, and the value with its CRC-8; value 0 with any code but OK (R144). -/
def State.prbReadEnd (s : State) (code v : Nat) : State :=
  let d := bytesLE 4 (if code = rcOK then v else 0)
  (s.prbCode code).answer ([BitVec.ofNat 8 code] ++ d ++ [BitVec.ofNat 8 (crc8 d)]) 0

/-- The answer of a WRITE. -/
def State.prbWriteEnd (s : State) (code : Nat) : State := (s.prbCode code).answer [BitVec.ofNat 8 code] 0

/-- The sub-cause of a failed access, in ERR. -/
def State.prbSub (s : State) (sub : Nat) : State := { s with prb := { s.prb with err := s.prb.err % 256 + 256 * sub } }

/-! ### Memory accesses (R122, R123, R147) -/

/-- The rights of the current level on a memory address (R122): Field SRAM, flash and the trace window at level 2, Glasshouse SRAM at
level 3; the ledger judges the port by its world (R296, R297). -/
def State.probeMayMem (s : State) (a : Nat) : Bool :=
  let l := s.probeLevel
  match regionOf a with
  | .sramF | .flash | .trace | .ledger => decide (2 ≤ l)
  | .sramG => decide (l = 3)
  | _ => false

/-- The rights of the current level on an access. -/
def State.probeMay (s : State) (wr : Bool) (a : Nat) : Bool := if regionOf a = .pages then s.probeMayPage wr a else s.probeMayMem a

/-- What the target of an access outside the rights records (R30, R123): its page, or the ledger, or the MPU's channel 6. -/
def State.probeRefused (s : State) (wr : Bool) (a : Nat) : State :=
  match regionOf a with
  | .pages => if wr then (s.pageWrite .probe .field 4 a 0 .clean).1.prbSub busPAGE else (s.pageRead .probe .field none 4 a).1.prbSub busPAGE
  | .ledger => s.ledgerRefused .probe .field wr a
  | _ =>
    match s.mpuJudge 6 .field (if wr then .write else .read) a with
    | some (sub, n) => s.mpuRecord 6 sub n .field wr false a
    | none => s

/-- A 32-bit read of channel 6: the word, the bus sub-cause it ended with (0: a refusal by the MPU), or a stall (R82, R284, R332). -/
def State.probeLoad (s : State) (a : Nat) (g : Integ) : State × ReadRes :=
  let w := s.probeWorld
  match s.mpuJudge 6 w .read a with
  | some (sub, n) => (s.mpuRecord 6 sub n w false false a, .err 0)
  | none =>
    if s.readStalls a then (s, .stall)
    else if regionOf a = .pages then
      if g = .reqBeat then (s.integrity F.SMPU.INTEG.beat a, .err busINTEG)
      else
        match s.pageRead .probe w none 4 a with
        | (s, .val v) => if g = .respBeat then (s.integrity F.SMPU.INTEG.beat a, .err busINTEG) else (s, .val v)
        | r => r
    else
      match s.memRead .probe w a 4 g with
      | (s, .ok v) => (s, .val (BitVec.ofNat 32 v))
      | (s, .error e) => (s, .err e)

/-- A 32-bit write of channel 6, with the sub-cause of its failure. -/
def State.probeStore (s : State) (a : Nat) (v : Word) (g : Integ) : State × Option Nat :=
  let w := s.probeWorld
  match s.mpuJudge 6 w .write a with
  | some (sub, n) => (s.mpuRecord 6 sub n w true false a, some 0)
  | none =>
    if regionOf a = .pages then
      if g = .reqBeat then (s.integrity F.SMPU.INTEG.beat a, some busINTEG)
      else
        let (s, e) := s.pageWrite .probe w 4 a v (.ofInteg g)
        if e ≠ 0 then (s, some e)
        else if g = .respBeat then (s.integrity F.SMPU.INTEG.beat a, some busINTEG)
        else (s, none)
    else s.memWrite .probe w a 4 v.toNat g

/-- A completed access: ADDR moves on with autoinc (R146). -/
def State.prbAdvance (s : State) : State :=
  if s.prb.autoinc then { s with prb := { s.prb with addr := (s.prb.addr + 4) % 2 ^ 32 } } else s

/-- The read at ADDR takes place; one that stalls runs on. -/
def State.prbLoad (s : State) (g : Integ) : State × ReadRes :=
  match s.probeLoad s.prb.addr g with
  | (s, .val v) => (s.prbAdvance, .val v)
  | (s, .err e) => (s.prbSub e, .err e)
  | (s, .stall) => ({ s with prb := { s.prb with run := some none } }, .stall)

/-- The posted write at ADDR takes place; its failure waits for the next frame that touches ADDR or DATA. -/
def State.prbStore (s : State) (v : Word) (g : Integ) : State :=
  match s.probeStore s.prb.addr v g with
  | (s, none) => s.prbAdvance
  | (s, some e) =>
    let s := s.prbSub e
    { s with prb := { s.prb with wfail := some e } }

/-- What stands in the way of a frame that touches ADDR or DATA: a running access (BUSY), or the reported failure of a posted write. -/
def State.prbHeld (s : State) : State × Nat :=
  if s.prb.run.isSome then (s, rcBUSY)
  else if s.prb.wfail.isSome then ({ s with prb := { s.prb with wfail := none } }, rcABORTED)
  else (s, rcOK)

/-- What a READ of DATA still has of an earlier one (R147): a running read, or the word or failure of one that ran past its frame. -/
def Prb.holds (p : Prb) : Bool := p.run.isSome || p.word.isSome || p.bad.isSome

/-- The result of a READ of DATA whose read began in an earlier frame. -/
def State.prbLateRead (s : State) : State :=
  if s.prb.run.isSome then s.prbReadEnd rcBUSY 0
  else
    match s.prb.word with
    | some v => { s with prb := { s.prb with word := none } }.prbReadEnd rcOK v
    | none => { s with prb := { s.prb with bad := none } }.prbReadEnd rcABORTED 0

/-- A READ of DATA (R145, R147): the word or failure of a read that ran past its frame, or a new access, which may run past this one. The
alignment and the level's rights on the access come first. -/
def State.prbDataRead (s : State) (late : Bool) (g : Integ) : State :=
  let a := if s.prb.holds then s.prb.last else s.prb.addr
  if a % 4 ≠ 0 then s.prbReadEnd rcRANGE 0
  else if !s.probeMay false a then (s.probeRefused false a).prbReadEnd rcAUTH 0
  else if s.prb.holds then s.prbLateRead
  else
    match s.prbHeld with
    | (s, 0) =>
      let s := { s with prb := { s.prb with last := a } }
      if late then { s with prb := { s.prb with run := some none } }.prbReadEnd rcBUSY 0
      else
        match s.prbLoad g with
        | (s, .val v) => s.prbReadEnd rcOK v.toNat
        | (s, .err _) => s.prbReadEnd rcABORTED 0
        | (s, .stall) => s.prbReadEnd rcBUSY 0
    | (s, c) => s.prbReadEnd c 0

/-- A WRITE of DATA (R147). -/
def State.prbDataWrite (s : State) (v : Word) (late : Bool) (g : Integ) : State :=
  if s.prb.addr % 4 ≠ 0 then s.prbWriteEnd rcRANGE
  else if !s.probeMay true s.prb.addr then (s.probeRefused true s.prb.addr).prbWriteEnd rcAUTH
  else
    match s.prbHeld with
    | (s, 0) =>
      let s := { s with prb := { s.prb with last := s.prb.addr } }
      (if late || s.risingAt s.prb.addr then { s with prb := { s.prb with run := some (some v) } } else s.prbStore v g).prbWriteEnd rcOK
    | (s, c) => s.prbWriteEnd c

/-- PRB_ACCESS_DONE: an access that ran past its frame completes, unless it still stalls. -/
def State.prbAccessDone (s : State) (g : Integ) : State :=
  match s.prb.run with
  | none => s
  | some (some v) =>
    if s.risingAt s.prb.addr then s else { s with prb := { s.prb with run := none } }.prbStore v g
  | some none =>
    match State.prbLoad { s with prb := { s.prb with run := none } } g with
    | (s, .val v) => { s with prb := { s.prb with word := some v.toNat } }
    | (s, .err e) => { s with prb := { s.prb with bad := some e } }
    | (s, .stall) => s

/-! ### Cores (R148, R149) -/

/-- The core that CSEL names. -/
def State.prbCore (s : State) : CoreId := if s.prb.csel then .core1 else .core0

/-- A write of CCTL (R148): the code, and the state after the action. -/
def State.prbControl (s : State) (v : Word) : State × Nat :=
  let c := s.prbCore
  let k := s.core c
  let act := bitsOf v.toNat 2 0
  if bitsOf v.toNat 31 16 ≠ 0x4843 ∨ (act ≠ 1 ∧ act ≠ 2 ∧ act ≠ 4) then (s, rcRANGE)
  else if s.probeLevel < 2 then (s, rcAUTH)
  else if act = 1 then
    if !k.powered then (s, rcSTATE)
    else if k.halted then (s, rcOK)
    else if s.haltsLater c ∨ k.stalled.isSome then (s.modCore c fun k => { k with haltPending := true }, rcOK)
    else (s.haltCore c, rcOK)
  else if !k.halted then (s, rcSTATE)
  else if act = 2 then (s.modCore c fun k => { k with stepping := true }, rcOK)
  else (s.modCore c fun k => { k with halted := false, haltPending := false, stepping := false }, rcOK)

/-- CSTAT of the core that CSEL names. -/
def State.prbCstat (s : State) : Nat :=
  let k := s.core s.prbCore
  b2n k.halted + 2 * b2n k.haltPending + 4 * worldCode k.world + 8 * b2n k.wfi + 16 * k.mask + 256 * b2n k.powered

/-- What RSEL names on a core (R146). -/
inductive RegSel where
  | gen (r : Fin 32)
  | cap (i : Fin 8)
  | pcc
  | tvec
  | epcc
  | pc
  | sys (n : Nat)
  deriving DecidableEq, Repr

/-- The register of RSEL[11:0]; `none` for a number that names none. -/
def rselReg (n : Nat) : Option RegSel :=
  if h : n < 32 then some (.gen ⟨n, h⟩)
  else if 0x100 ≤ n ∧ n < 0x108 then some (.cap (Fin.ofNat 8 (n - 0x100)))
  else if n = 0x108 then some .pcc
  else if n = 0x109 then some .tvec
  else if n = 0x10A then some .epcc
  else if n = 0x200 then some .pc
  else if 0x400 ≤ n ∧ n < 0x440 then some (.sys (n - 0x400))
  else none

/-- The bank of RSEL. -/
def State.prbBank (s : State) : World := if bitAt s.prb.rsel 14 then .glass else .field

/-- A bank of a core. -/
def Core.bankOf (k : Core) (w : World) : Bank := if w = .glass then k.glass else k.field

/-- Replace a bank of a core. -/
def Core.setBankOf (k : Core) (w : World) (b : Bank) : Core := if w = .glass then { k with glass := b } else { k with field := b }

/-- The capability register that a selection names in a bank. -/
def RegSel.capIn (r : RegSel) (b : Bank) : Option CapReg :=
  match r with
  | .cap i => some b.c[i]
  | .pcc => some b.pcc
  | .tvec => some b.tvec
  | .epcc => some b.epcc
  | _ => none

/-- A bank with another value in the selected capability register. -/
def RegSel.setCap (r : RegSel) (b : Bank) (v : CapReg) : Bank :=
  match r with
  | .cap i => { b with c := b.c.set i v }
  | .pcc => { b with pcc := v }
  | .tvec => { b with tvec := v }
  | .epcc => { b with epcc := v }
  | _ => b

/-- The selected register, or the selected word of it, in a bank; `none` for a number that no register has. -/
def State.prbRegRead (s : State) (c : CoreId) (r : RegSel) (w : World) (word : Nat) : Option Nat :=
  let k := s.core c
  match r with
  | .gen i => some (k.rd i).toNat
  | .pc => some k.pc.toNat
  | .sys n =>
    if n = 1 then some (worldCode k.world)
    else ((s.setCore c { k with world := w }).sysRead c n).map (·.toNat)
  | r => (r.capIn (k.bankOf w)).map fun v => v.bits.toNat / 2 ^ (32 * word) % 2 ^ 32

/-- Replace one 32-bit word of a capability; the tag clears (R149). -/
def CapReg.pokeWord (v : CapReg) (word : Nat) (x : Word) : CapReg :=
  let n := v.bits.toNat
  let lo := 32 * word
  ⟨BitVec.ofNat 128 (n - n / 2 ^ lo % 2 ^ 32 * 2 ^ lo + x.toNat * 2 ^ lo), false⟩

/-- A core with the selected register written; `none` for a number that no writable register has. -/
def Core.prbRegWrite (k : Core) (r : RegSel) (w : World) (word : Nat) (x : Word) : Option Core :=
  match r with
  | .gen i => some (k.wr i x)
  | .pc => some { k with pc := x }
  | .sys n => (Core.sysWrite { k with world := w } n x).map fun (j : Core) => { j with world := k.world }
  | r => (r.capIn (k.bankOf w)).map fun v => k.setBankOf w (r.setCap (k.bankOf w) (v.pokeWord word x))

/-- What refuses a register access of the level and the core (R145, R149). -/
def State.prbRegCode (s : State) : Nat :=
  if s.probeLevel < 2 ∨ (s.prbBank = .glass ∧ s.probeLevel < 3) then rcAUTH
  else if !(s.core s.prbCore).halted then rcSTATE
  else rcOK

/-- A READ of RDATA. -/
def State.prbRdataRead (s : State) : State :=
  let c := s.prbCore
  match (rselReg (s.prb.rsel % 2 ^ 12)).bind fun r => s.prbRegRead c r s.prbBank (bitsOf s.prb.rsel 13 12) with
  | none => s.prbReadEnd rcRANGE 0
  | some v => s.prbReadEnd s.prbRegCode v

/-- A WRITE of RDATA. -/
def State.prbRdataWrite (s : State) (x : Word) : State :=
  let c := s.prbCore
  match (rselReg (s.prb.rsel % 2 ^ 12)).bind fun r => (s.core c).prbRegWrite r s.prbBank (bitsOf s.prb.rsel 13 12) x with
  | none => s.prbWriteEnd rcRANGE
  | some k => (if s.prbRegCode = rcOK then s.setCore c k else s).prbWriteEnd s.prbRegCode

/-- A READ of RTAG. -/
def State.prbRtagRead (s : State) : State :=
  let v := (rselReg (s.prb.rsel % 2 ^ 12)).bind fun r => r.capIn ((s.core s.prbCore).bankOf s.prbBank)
  s.prbReadEnd s.prbRegCode (match v with | some v => b2n v.tag | none => 0)

/-! ### Registers (R146) -/

/-- The PID register. -/
def prbPID : Nat := 0x4B500201

/-- A READ of a register that levels 2 and 3 alone reach. -/
def State.prbOpenRead (s : State) (v : Nat) : State := s.prbReadEnd (if s.probeLevel < 2 then rcAUTH else rcOK) v

/-- A READ frame of register `n`; a write-only register reads 0. -/
def State.prbRead (s : State) (n : Nat) (late : Bool) (g : Integ) : State :=
  if n = 0x00 then s.prbReadEnd rcOK prbPID
  else if n = 0x01 then s.prbReadEnd rcOK (s.probeLevel + 8 * s.get F.LC.DBG_CTRL.granted)
  else if n = 0x02 then
    match s.prbHeld with
    | (s, c) => s.prbReadEnd c s.prb.addr
  else if n = 0x03 then s.prbDataRead late g
  else if n = 0x04 then s.prbReadEnd rcOK (b2n s.prb.autoinc)
  else if n = 0x05 then s.prbOpenRead (b2n s.prb.csel)
  else if n = 0x06 ∨ n = 0x0B then s.prbOpenRead 0
  else if n = 0x07 then s.prbOpenRead s.prbCstat
  else if n = 0x08 then s.prbOpenRead s.prb.rsel
  else if n = 0x09 then s.prbRdataRead
  else if n = 0x0A then s.prbRtagRead
  else if n = 0x0C then s.prbReadEnd rcOK s.prb.err
  else s.prbReadEnd rcRANGE 0

/-- A WRITE of RESET (R146): with its key, a system reset with cause PROBE. -/
def State.prbResetWrite (s : State) (v : Word) : State :=
  if bitsOf v.toNat 31 16 ≠ 0x5253 then s.prbWriteEnd rcRANGE
  else if s.probeLevel < 2 then s.prbWriteEnd rcAUTH
  else (s.prbWriteEnd rcOK).systemReset 0x0C

/-- A WRITE of a register that levels 2 and 3 alone reach. -/
def State.prbOpenWrite (s : State) (p : Prb) : State :=
  if s.probeLevel < 2 then s.prbWriteEnd rcAUTH else State.prbWriteEnd { s with prb := p } rcOK

/-- A WRITE frame of register `n` whose CRC-8 holds; a read-only register keeps its value. -/
def State.prbApply (s : State) (n : Nat) (v : Word) (late : Bool) (g : Integ) : State :=
  let x := v.toNat
  if n = 0x02 then
    match s.prbHeld with
    | (s, c) => (if c = rcOK then { s with prb := { s.prb with addr := x } } else s).prbWriteEnd c
  else if n = 0x03 then s.prbDataWrite v late g
  else if n = 0x04 then { s with prb := { s.prb with autoinc := bitAt x 0 } }.prbWriteEnd rcOK
  else if n = 0x05 then s.prbOpenWrite { s.prb with csel := bitAt x 0 }
  else if n = 0x06 then
    match s.prbControl v with
    | (s, c) => s.prbWriteEnd c
  else if n = 0x07 ∨ n = 0x0A then s.prbOpenWrite s.prb
  else if n = 0x08 then s.prbOpenWrite { s.prb with rsel := x % 2 ^ 15 }
  else if n = 0x09 then s.prbRdataWrite v
  else if n = 0x0B then s.prbResetWrite v
  else s.prbWriteEnd rcOK

/-- RANGE comes before CRC (R145): the encodings that a WRITE frame refuses whatever its CRC. -/
def State.prbWriteRange (s : State) (n : Nat) (v : Word) : Bool :=
  let act := bitsOf v.toNat 2 0
  decide (0x0C < n) ||
    (decide (n = 0x03) && decide (s.prb.addr % 4 ≠ 0)) ||
    (decide (n = 0x06) && (decide (bitsOf v.toNat 31 16 ≠ 0x4843) || decide (act ≠ 1 ∧ act ≠ 2 ∧ act ≠ 4))) ||
    (decide (n = 0x09) &&
      ((rselReg (s.prb.rsel % 2 ^ 12)).bind fun r => (s.core s.prbCore).prbRegWrite r s.prbBank 0 v).isNone) ||
    (decide (n = 0x0B) && decide (bitsOf v.toNat 31 16 ≠ 0x5253))

/-- A WRITE frame of register `n`. -/
def State.prbWrite (s : State) (n : Nat) (v : Word) (crc : Byte) (late : Bool) (g : Integ) : State :=
  if s.prbWriteRange n v then s.prbWriteEnd rcRANGE
  else if crc8 (bytesLE 4 v.toNat) ≠ crc.toNat then s.prbWriteEnd rcCRC
  else s.prbApply n v late g

/-- A READ frame of good parity of register `n`. -/
def State.prbReadFrame (s : State) (n : Nat) (late : Bool) (g : Integ) : State :=
  if s.prbListens then (s.prbServed.prbRead n late g).settle else s.prbSilent

/-- A WRITE frame of good parity and CRC-8. -/
def State.prbWriteFrame (s : State) (n : Nat) (v : Word) (late : Bool) (g : Integ) : State :=
  if s.prbListens then (s.prbServed.prbWrite n v (BitVec.ofNat 8 (crc8 (bytesLE 4 v.toNat))) late g).settle else s.prbSilent

/-! ### Commands -/

/-- PRB_LINE_RESET (R143): the port waits for a start bit; the frame in progress, if any, was no command. -/
def execPrbLineReset (s : State) : Out :=
  .next (if s.pdOn 13 then { s with prb := { s.prb with deaf := false, attached := false } }.settle else s)

/-- PRB_READ: a frame with op READ, or with a reserved op, which draws RANGE; op WRITE is another command's. -/
def execPrbRead (op : BitVec 2) (reg : BitVec 6) (par : Bool) (s : State) : Out :=
  .next (if op = 2 then s
    else s.prbFrame op reg par fun s => if op = 1 then s.prbRead reg.toNat false .ok else s.prbWriteEnd rcRANGE)

/-- PRB_WRITE: a frame with op WRITE, its value and its CRC-8. -/
def execPrbWrite (reg : BitVec 6) (par : Bool) (v : Word) (crc : Byte) (s : State) : Out :=
  .next (s.prbFrame 2 reg par fun s => s.prbWrite reg.toNat v crc false .ok)

/-- PRB_DATA_READ: `late` tells that the access does not complete before the result is due. -/
def execPrbDataRead (late : Bool) (g : Integ) (s : State) : Out := .next (s.prbReadFrame 0x03 late g)

/-- PRB_DATA_WRITE: `late` tells that the posted write runs past its frame. -/
def execPrbDataWrite (v : Word) (late : Bool) (g : Integ) (s : State) : Out := .next (s.prbWriteFrame 0x03 v late g)

def execPrbAccessDone (g : Integ) (s : State) : Out := .next (s.prbAccessDone g).settle

def execPrbHalt (s : State) : Out := .next (s.prbWriteFrame 0x06 0x48430001 false .ok)
def execPrbStep (s : State) : Out := .next (s.prbWriteFrame 0x06 0x48430002 false .ok)
def execPrbResume (s : State) : Out := .next (s.prbWriteFrame 0x06 0x48430004 false .ok)

/-- PRB_HALT_TAKEN (R148): a pending halt at the first Field boundary, which a stalled access keeps away (R185). -/
def execPrbHaltTaken (c : CoreId) (s : State) : Out :=
  .next (if (s.core c).haltDue && (s.core c).stalled.isNone then s.haltCore c else s)

def execPrbRdataRead (s : State) : Out := .next (s.prbReadFrame 0x09 false .ok)
def execPrbRdataWrite (v : Word) (s : State) : Out := .next (s.prbWriteFrame 0x09 v false .ok)

/-- PRB_RESET: the low half of the written word is not read. -/
def execPrbReset (low : BitVec 16) (s : State) : Out :=
  .next (s.prbWriteFrame 0x0B (BitVec.ofNat 32 (0x52530000 + low.toNat)) false .ok)

/-! ### VDDIO groups (R50, R55, R57) -/

/-- The bands of the groups: detected when a group appears, kept while it stays, 0 while it is absent (R55). -/
def groupBands (was now old det : Nat) : Nat := ((was &&& now &&& old) ||| (det &&& (now &&& (15 ^^^ was)))) % 16

/-- IOGRP_CHANGE: the groups that are present now, and the bands detected. A powered cartridge whose VDDIO_C goes is seen absent (R50). -/
def execIogrpChange (present band : BitVec 4) (r : CartReply) (g : Integ) (s : State) : Out :=
  let was := s.get F.PWR.IOGRP.present
  let b := groupBands was present.toNat (s.get F.PWR.IOGRP.band) band.toNat
  let s := (s.put F.PWR.IOGRP.present present.toNat).put F.PWR.IOGRP.band b
  let s := if !s.vddioC && decide (2 ≤ s.get F.GCB.STAT.state) then s.cartRemove r g else s
  .next s.gpioSample.seqKick.settle

end Sys2Proof.Machine
end

