-- ==== Sys2Proof/Machine/RegCmds.lean ====
section
/-!
DEFINITION. The commands that write or read one register of a register page. Each makes its access through `State.writeReg` or
`State.readReg` (ch. 2), where the page judges it and its block acts; a command fixes the register and the bits that name it, and its
sender gives the rest of the written word.
-/
namespace Sys2Proof.Machine
open Sys2Proof

/-- A LOCK word: a command and a key (R32). -/
def lockWord (cmd : Nat) (key : BitVec 16) : Word := BitVec.ofNat 32 (2 ^ 16 * cmd + key.toNat)

/-- An FLC command word with its key (R286). -/
def flcWord (op : Nat) : Word := BitVec.ofNat 32 (0x464C0000 + op)

/-- A counter engine command word (R310). -/
def cntWord (op : Nat) (n : BitVec 7) : Word := BitVec.ofNat 32 (2 ^ 8 * op + n.toNat)

/-- Bytes of an access. -/
def sizeBytes : Size → Nat
  | .byte => 1 | .half => 2 | .word => 4

/-- REGISTER_WRITE (R580): a write of any width to any address of the register pages. `f` is what the life-cycle block meets in the
ledger. -/
def execRegisterWrite (ini : Ini) (size : Size) (off : BitVec 17) (v : Word) (f : EngineFate) (s : State) : Out :=
  s.writeCmd ini (sizeBytes size) (0x40000000 + off.toNat) v fun x s => blockWrite x f s

/-! ### Pages: ownership, locks, faults (R24, R25, R32 to R34, R42) -/

def execOwnerWrite (ini : Ini) (p : Fin 32) (v : Word) (s : State) : Out := s.writeReg ini (R.HDR.OWNER + pageBase p) v
def execOwnerClrCnt (ini : Ini) (p : Fin 32) (v : Word) (s : State) : Out :=
  s.writeReg ini (R.HDR.OWNER + pageBase p) (F.HDR.OWNER.clr_cnt.put 1 v)
def execSoftLock (ini : Ini) (p : Fin 32) (key : BitVec 16) (s : State) : Out :=
  s.writeReg ini (R.HDR.LOCK + pageBase p) (lockWord 0x4C4B key)
def execUnlock (ini : Ini) (p : Fin 32) (key : BitVec 16) (s : State) : Out :=
  s.writeReg ini (R.HDR.LOCK + pageBase p) (lockWord 0x554C key)
def execHardLock (ini : Ini) (p : Fin 32) (key : BitVec 16) (s : State) : Out :=
  s.writeReg ini (R.HDR.LOCK + pageBase p) (lockWord 0x484C key)
def execFaultClear (ini : Ini) (p : Fin 32) (v : Word) (s : State) : Out :=
  s.writeReg ini (R.HDR.FAULT + pageBase p) (F.HDR.FAULT.valid.put 1 v)

/-! ### Supplies, clocks, sleep, the always-on domain (ch. 3 and 4) -/

def execForceVbatWrite (ini : Ini) (hold : Bool) (s : State) : Out := s.writeReg ini R.PWR.PATH (F.PWR.PATH.force_vbat.put (b2n hold) 0)
def execPathCntClr (ini : Ini) (v : Word) (s : State) : Out := s.writeReg ini R.PWR.PATH (F.PWR.PATH.clr.put 1 v)
def execBoostReq (ini : Ini) (v : Word) (s : State) : Out := s.writeReg ini R.PWR.BOOST v
def execBoostCntClr (ini : Ini) (v : Word) (s : State) : Out := s.writeReg ini R.PWR.BOOST (F.PWR.BOOST.clr.put 1 v)
def execDomainReqWrite (ini : Ini) (v : Word) (s : State) : Out := s.writeReg ini R.PWR.DOMAIN v
def execHoldRelease (ini : Ini) (v : Word) (s : State) : Out := s.writeReg ini R.PWR.HOLD v
def execSleepCntClr (ini : Ini) (v : Word) (s : State) : Out := s.writeReg ini R.PWR.SLEEP (F.PWR.SLEEP.clr.put 1 v)
def execOffaccClr (ini : Ini) (s : State) : Out := s.writeReg ini R.PWR.OFFACC (F.PWR.OFFACC.clr.put 1 0)
def execAonTimeRead (ini : Ini) (s : State) : Out := s.readReg ini R.AON.TIME_LO
def execAlarmArm (ini : Ini) (v : Word) (s : State) : Out := s.writeReg ini R.AON.ALARM_CTRL (F.AON.ALARM_CTRL.en.put 1 v)
def execEmClear (ini : Ini) (v : Word) (s : State) : Out := s.writeReg ini R.SNAP.EM_CFG (F.SNAP.EM_CFG.clr.put 1 v)
def execEmRead (ini : Ini) (s : State) : Out := s.readReg ini R.SNAP.EM_LO

/-! ### GPIO and ADC (R66 to R69) -/

def execGpioSet (ini : Ini) (v : Word) (s : State) : Out := s.writeReg ini R.GPIO.SET v
def execGpioClr (ini : Ini) (v : Word) (s : State) : Out := s.writeReg ini R.GPIO.CLR v
def execAdcGo (ini : Ini) (s : State) : Out := s.writeReg ini R.ADC.START (F.ADC.START.go.put 1 0)
def execAdcCal (ini : Ini) (v : Word) (s : State) : Out := s.writeReg ini R.ADC.CTRL (F.ADC.CTRL.cal.put 1 v)
def execAdcResultRead (ini : Ini) (k : Fin 4) (s : State) : Out := s.readReg ini (R.ADC.RESULT + 4 * k)

/-! ### Resets (R98), life cycle and debug (ch. 6) -/

def execSoftSys (ini : Ini) (s : State) : Out := s.writeReg ini R.SYS.RST_REQ 0x52530001
def execSoftCore (ini : Ini) (c : CoreId) (s : State) : Out := s.writeReg ini R.SYS.RST_REQ (BitVec.ofNat 32 (0x52530002 + coreNum c))
def execLcAdvanceToken (ini : Ini) (v : Word) (f : EngineFate) (s : State) : Out :=
  s.writeCmd ini 4 R.LC.ADVANCE v fun x s => blockWrite x f s
def execLcAdvancePlain (ini : Ini) (v : Word) (s : State) : Out := s.writeReg ini R.LC.ADVANCE v
def execLcStateClr (ini : Ini) (s : State) : Out := s.writeReg ini R.LC.ADV_STAT (F.LC.ADV_STAT.clr.put 1 0)
def execDbgReq (ini : Ini) (s : State) : Out := s.writeReg ini R.LC.DBG_CTRL (F.LC.DBG_CTRL.req.put 1 0)
def execDbgGo (ini : Ini) (f : EngineFate) (s : State) : Out :=
  s.writeCmd ini 4 R.LC.DBG_CTRL (F.LC.DBG_CTRL.go.put 1 0) fun x s => blockWrite x f s
def execDbgRevoke (ini : Ini) (s : State) : Out := s.writeReg ini R.LC.DBG_CTRL (F.LC.DBG_CTRL.revoke.put 1 0)
def execPrbCntClr (ini : Ini) (s : State) : Out := s.writeReg ini R.PRB.CNTCLR (F.PRB.CNTCLR.clr.put 1 0)

/-! ### Cores, interrupts, timers, Col (ch. 7, 9 and 10) -/

def execCpuCntClr (ini : Ini) (c : CoreId) (s : State) : Out :=
  s.writeReg ini (R.CPU.CNTCLR + 0x1000 * coreNum c) (F.CPU.CNTCLR.clr.put 1 0)
def execIntcSwSet (ini : Ini) (v : Word) (s : State) : Out := s.writeReg ini R.INTC.SW_SET v
def execIntcSwClr (ini : Ini) (v : Word) (s : State) : Out := s.writeReg ini R.INTC.SW_CLR v
def execIntcDeferClr (ini : Ini) (s : State) : Out := s.writeReg ini R.INTC.DEFER (F.INTC.DEFER.clr.put 1 0)
def execWdogEnable (ini : Ini) (k : Fin 3) (v : Word) (s : State) : Out :=
  s.writeReg ini (R.TMR.WD_CTRL + 16 * k) (F.TMR.WD_CTRL.en.put 1 v)
def execFeed (ini : Ini) (k : Fin 3) (v : Word) (s : State) : Out := s.writeReg ini (R.TMR.WD_FEED + 16 * k) v
def execGtEnable (ini : Ini) (k : Fin 4) (v : Word) (s : State) : Out := s.writeReg ini (R.TMR.GT_CTRL + 16 * k) (F.TMR.GT_CTRL.en.put 1 v)
def execGtStatClr (ini : Ini) (k : Fin 4) (s : State) : Out := s.writeReg ini (R.TMR.GT_STAT + 16 * k) (F.TMR.GT_STAT.clr.put 1 0)
def execColCntClr (ini : Ini) (s : State) : Out := s.writeReg ini R.COL.CNTCLR (F.COL.CNTCLR.clr.put 1 0)

/-! ### Memory system (ch. 11), flash controller (ch. 12), counter engine (ch. 13) -/

def execMemkeyLoad (ini : Ini) (s : State) : Out := s.writeReg ini R.SMPU.MEMKEY (F.SMPU.MEMKEY.load.put 1 0)
def execSmpuRegionWrite (ini : Ini) (ch : Fin 8) (n : Fin 16) (attr : Bool) (v : Word) (s : State) : Out :=
  s.writeReg ini (R.SMPU.RBASE + 128 * ch + 8 * n + 4 * b2n attr) v
def execSmpuSync (ini : Ini) (v : Word) (s : State) : Out := s.writeReg ini R.SMPU.SYNC v
def execSmpuCntClr (ini : Ini) (s : State) : Out := s.writeReg ini R.SMPU.CNTCLR (F.SMPU.CNTCLR.clr.put 1 0)
def execProg (ini : Ini) (s : State) : Out := s.writeReg ini R.FLC.CMD (flcWord flcPROG)
def execErase (ini : Ini) (s : State) : Out := s.writeReg ini R.FLC.CMD (flcWord flcERASE)
def execOptProg (ini : Ini) (s : State) : Out := s.writeReg ini R.FLC.CMD (flcWord flcOPT_PROG)
def execOptErase (ini : Ini) (s : State) : Out := s.writeReg ini R.FLC.CMD (flcWord flcOPT_ERASE)
def execFlcCntClr (ini : Ini) (s : State) : Out := s.writeReg ini R.FLC.CNTCLR (F.FLC.CNTCLR.clr.put 1 0)
def execCntRead (ini : Ini) (n : BitVec 7) (s : State) : Out := s.writeReg ini R.LDG.CNT_CMD (cntWord cntREAD n)
def execCntInc (ini : Ini) (n : BitVec 7) (s : State) : Out := s.writeReg ini R.LDG.CNT_CMD (cntWord cntINC n)
def execCntRaise (ini : Ini) (n : BitVec 7) (s : State) : Out := s.writeReg ini R.LDG.CNT_CMD (cntWord cntRAISE n)
def execLdgCntClr (ini : Ini) (s : State) : Out := s.writeReg ini R.LDG.CNTCLR (F.LDG.CNTCLR.clr.put 1 0)

/-! ### Entropy, cipher engine, keys (ch. 14), Cloche (ch. 15) -/

def execEntRestart (ini : Ini) (v : Word) (s : State) : Out := s.writeReg ini R.ENT.CTRL (F.ENT.CTRL.restart.put 1 v)
def execTestNow (ini : Ini) (v : Word) (s : State) : Out := s.writeReg ini R.ENT.CTRL (F.ENT.CTRL.test_now.put 1 v)
def execEntDataRead (ini : Ini) (s : State) : Out := s.readReg ini R.ENT.DATA
def execZeroise (ini : Ini) (s : State) : Out := s.writeReg ini R.KEY.CTRL (F.KEY.CTRL.zeroise.put 1 0)
def execCryCntClr (ini : Ini) (s : State) : Out := s.writeReg ini R.CRY.CNTCLR (F.CRY.CNTCLR.clr.put 1 0)
def execBistA (ini : Ini) (v : Word) (s : State) : Out := s.writeReg ini R.CLO.BIST_A v
def execBistB (ini : Ini) (v : Word) (s : State) : Out := s.writeReg ini R.CLO.BIST_B v
def execCloRespWrite (ini : Ini) (n : Fin 32) (v : Word) (s : State) : Out := s.writeReg ini (R.CLO.RESP + 4 * n) v
def execCloCntClr (ini : Ini) (s : State) : Out := s.writeReg ini R.CLO.CNTCLR (F.CLO.CNTCLR.clr.put 1 0)

/-! ### Trellis rings (ch. 16) -/

def execEnable (ini : Ini) (n : Fin 96) (s : State) : Out := s.writeReg ini (R.RING.CTL + 32 * n) 1
def execPause (ini : Ini) (n : Fin 96) (s : State) : Out := s.writeReg ini (R.RING.CTL + 32 * n) 2
def execResume (ini : Ini) (n : Fin 96) (s : State) : Out := s.writeReg ini (R.RING.CTL + 32 * n) 3
def execDisable (ini : Ini) (n : Fin 96) (s : State) : Out := s.writeReg ini (R.RING.CTL + 32 * n) 4
def execClrcnt (ini : Ini) (n : Fin 96) (s : State) : Out := s.writeReg ini (R.RING.CTL + 32 * n) 5
def execIdxWrite (ini : Ini) (n : Fin 96) (v : Word) (s : State) : Out := s.writeReg ini (R.RING.IDX + 32 * n) v
def execRingCfgWrite (ini : Ini) (n : Fin 96) (which : Fin 4) (v : Word) (s : State) : Out :=
  s.writeReg ini (R.RING.CFG + 32 * n + 4 * which) v
def execGstatAck (ini : Ini) (g : Fin 32) (s : State) : Out := s.writeReg ini (R.RING.GSTAT + 8 * g) (F.RING.GSTAT.active.put 1 0)
def execTrlCntClr (ini : Ini) (s : State) : Out := s.writeReg ini R.TRL.CNTCLR (F.TRL.CNTCLR.clr.put 1 0)

/-! ### Riddle (ch. 17), Ethernet and radio (ch. 18) -/

def execWrite (ini : Ini) (s : State) : Out := s.writeReg ini R.RDLT.CMD 1
def execRead (ini : Ini) (s : State) : Out := s.writeReg ini R.RDLT.CMD 2
def execRuleDisable (ini : Ini) (s : State) : Out := s.writeReg ini R.RDLT.CMD 3
def execDfltWrite (ini : Ini) (k : Fin 4) (v : Word) (s : State) : Out := s.writeReg ini (R.RDL.DFLT + 4 * k) v
def execRdlCntClr (ini : Ini) (s : State) : Out := s.writeReg ini R.RDL.CNTCLR (F.RDL.CNTCLR.clr.put 1 0)
def execSvCntClr (ini : Ini) (s : State) : Out := s.writeReg ini R.RLP.SV_CNTCLR (F.RLP.SV_CNTCLR.clr.put 1 0)
def execMdioCmd (ini : Ini) (v : Word) (s : State) : Out := s.writeReg ini R.ETH.MDIO_CMD v
def execEthCntClr (ini : Ini) (port : Fin 2) (s : State) : Out := s.writeReg ini (R.ETH.CNTCLR + 0x1000 * port) (F.ETH.CNTCLR.clr.put 1 0)
def execRlpCntClr (ini : Ini) (s : State) : Out := s.writeReg ini R.RLP.CNTCLR (F.RLP.CNTCLR.clr.put 1 0)

/-! ### Cartridge bus (ch. 19, 20), host link and management port (ch. 21) -/

def execGcbPwrOn (ini : Ini) (v : Word) (s : State) : Out := s.writeReg ini R.GCB.CTRL (F.GCB.CTRL.pwr.put 1 v)
def execGcbPwrOff (ini : Ini) (v : Word) (s : State) : Out := s.writeReg ini R.GCB.CTRL (F.GCB.CTRL.pwr.put 0 v)
def execGcbResume (ini : Ini) (v : Word) (s : State) : Out := s.writeReg ini R.GCB.CTRL (F.GCB.CTRL.resume.put 1 v)
def execOcClr (ini : Ini) (v : Word) (s : State) : Out := s.writeReg ini R.GCB.CTRL (F.GCB.CTRL.oc_clr.put 1 v)
def execGcbCntClr (ini : Ini) (s : State) : Out := s.writeReg ini R.GCB.CNTCLR (F.GCB.CNTCLR.clr.put 1 0)
def execDoorbell (ini : Ini) (s : State) : Out := s.writeReg ini R.HLK.DOORBELL (F.HLK.DOORBELL.ring.put 1 0)
def execHlkCntClr (ini : Ini) (s : State) : Out := s.writeReg ini R.HLK.CNTCLR (F.HLK.CNTCLR.clr.put 1 0)
def execMkeyLoad (ini : Ini) (v : Word) (s : State) : Out := s.writeReg ini (R.MGP.MKEY + 12) v
def execTake (ini : Ini) (s : State) : Out := s.writeReg ini R.MGP.MBIN_CTL (F.MGP.MBIN_CTL.take.put 1 0)
def execMboutPost (ini : Ini) (len : BitVec 8) (s : State) : Out := s.writeReg ini R.MGP.MBOUT_CTL (F.MGP.MBOUT_CTL.len.put len.toNat 1)
def execAlertFw (ini : Ini) (s : State) : Out := s.writeReg ini R.MGP.ALERT_FW (F.MGP.ALERT_FW.raise.put 1 0)
def execMgpCntClr (ini : Ini) (s : State) : Out := s.writeReg ini R.MGP.CNTCLR (F.MGP.CNTCLR.clr.put 1 0)

/-! ### Snapshots, monitors, logs, trace (ch. 22) -/

def execFire (ini : Ini) (s : State) : Out := s.writeReg ini R.SNAP.TRIG (F.SNAP.TRIG.fire.put 1 0)
def execSnapCfgWrite (ini : Ini) (p : Fin 32) (v : Word) (s : State) : Out := s.writeReg ini (R.HDR.SNAP_CFG + pageBase p) v
def execMonClear (ini : Ini) (p : Fin 32) (select : Bool) (v : Word) (s : State) : Out :=
  s.writeReg ini ((if select then R.HDR.MON_SEL else R.HDR.MON_CTRL) + pageBase p) (if select then v else F.HDR.MON_CTRL.clear.put 1 v)
def execLogWr1 (ini : Ini) (v : Word) (s : State) : Out := s.writeReg ini R.SNAP.LOG_WR1 v
def execSwrec (ini : Ini) (v : Word) (s : State) : Out := s.writeReg ini R.TRC.SWREC v
def execTrcClr (ini : Ini) (v : Word) (s : State) : Out := s.writeReg ini R.TRC.CTRL (F.TRC.CTRL.clr.put 1 v)

end Sys2Proof.Machine
end

