-- ==== Sys2Proof/Machine/Idle.lean ====
section
/-!
DEFINITION. The passage of time: what one tick of CK27 does while no command waits (log 1). While CK06 runs a tick is 1 µs and CK01 ticks
in 512 of 15,625 of them; otherwise CK27 is CK01 (R72).
-/
namespace Sys2Proof.Machine
open Sys2Proof

/-- A watchdog counts one CK01 tick; the result tells whether it expires (R226, R227). -/
def State.wdogTick (s : State) (k : Nat) : State × Bool :=
  if s.wdogCounts k then
    let f := F.TMR.WD_STAT.count.idx 16 k
    let n := s.get f - 1
    if n = 0 then (if s.wdogWarns k then (s.wdogWarn k, false) else (s.put f 0, true)) else (s.put f n, false)
  else (s, false)

/-- The three watchdogs; those that expire do so in one cycle. -/
def State.wdogTicks (s : State) : State :=
  match s.wdogTick 0 with
  | (s, e0) =>
    match s.wdogTick 1 with
    | (s, e1) =>
      match s.wdogTick 2 with
      | (s, e2) =>
        let due := ([(0, e0), (1, e1), (2, e2)].filter (·.2)).map (·.1)
        if due.isEmpty then s else s.wdogExpire due

/-- General timer `k` counts one tick of a source: 0 CK27, 1 CK01 (R229). At a count of 0 a periodic timer reloads. -/
def State.gtTick (src k : Nat) (s : State) : State :=
  if s.gtCounts k && decide (s.get (F.TMR.GT_CTRL.src.idx 16 k) = src) then
    let n := (s.reg (R.TMR.GT_COUNT + 16 * k)).toNat
    if n = 0 then s.setReg (R.TMR.GT_COUNT + 16 * k) (s.reg (R.TMR.GT_LOAD + 16 * k))
    else if n = 1 then s.gtExpire k
    else s.setReg (R.TMR.GT_COUNT + 16 * k) (BitVec.ofNat 32 (n - 1))
  else s

/-- The four general timers at a tick of a source. -/
def State.gtTicks (s : State) (src : Nat) : State := foldState (State.gtTick src) (numsFrom 4 0) s

/-- The holdoff after an abort (R246, R248). -/
def State.holdoffTick (s : State) : State :=
  match s.col.holdoff with
  | none => s
  | some n => if n ≤ 1 then s.holdoffExpire else { s with col := { s.col with holdoff := some (n - 1) } }

/-- Back-offs and the management session count down (R132, R529, R530). -/
def State.backoffTick (s : State) : State :=
  { s with
    lc := { s.lc with backoff := s.lc.backoff - 1 }
    mgp := { s.mgp with session := s.mgp.session - 1, backoff := s.mgp.backoff - 1 } }

/-- The oldest queued frame of the sieve comes of age (R422). -/
def State.sieveTick (s : State) : State := if s.sieveAged 0 && !s.sieve.aged then s.sieveAge else s

/-- The slot timer advances by a time in 1/64 of its ticks while it counts (R76, R450). -/
def State.slotTick (s : State) (sixtyfourths : Nat) : State :=
  let n := s.radio.acc + sixtyfourths
  { s with radio := { s.radio with acc := n % 64 } }.slotCount (n / 64)

/-- One tick of CK01. -/
def State.tickCk01 (s : State) : State :=
  let s := { s with aon := { s.aon with time := (s.aon.time + 1) % 2 ^ 48 } }
  ((s.alarmFire.wdogTicks.gtTicks 1).holdoffTick.backoffTick).sieveTick

/-- The Col's budget timer counts a microsecond of a stay whose core the probe has not halted (R244). -/
def State.budgetTick (s : State) : State :=
  let c := if s.get F.COL.STAT.occupant = 0 then CoreId.core0 else CoreId.core1
  if s.on F.COL.STAT.held && s.col.budgetRun && !(s.core c).halted then
    let s := s.inc F.COL.CUR.elapsed_us
    if s.col.limit ≤ 1 then s.budgetExpire else { s with col := { s.col with limit := s.col.limit - 1 } }
  else s

/-- The supply that feeds VMAIN is one that EM_CFG.src selects: 0 both, 1 VBAT, 2 VSYS (R96). -/
def State.meterSees (s : State) : Bool :=
  match s.get F.SNAP.EM_CFG.src with
  | 1 => decide (s.mainFrom = .vbat)
  | 2 => decide (s.mainFrom = .vsys)
  | _ => true

/-- The energy meter adds what the tick has drawn from the selected supply, a free value (R96). -/
def State.meterTick (s : State) : State :=
  if s.on F.SNAP.EM_CFG.run && s.meterSees then
    let (n, s) := s.draw
    { s with aon := { s.aon with emCount := (s.aon.emCount + Config.freeNat n) % 2 ^ 48 } }
  else s

/-- The fast timestamp counts a microsecond (R582). -/
def State.stampTick (s : State) : State :=
  if s.ck04 then { s with aon := { s.aon with tstamp := (s.aon.tstamp + 96) % 2 ^ 32 } } else s

/-- A CK01 tick is 15,625 / 512 µs: 1,000,000 µs hold 32,768 ticks. It is 15,625 / 64 ticks of the slot timer. -/
def tickPeriod : Nat := 15625

/-- A microsecond toward the next CK01 tick. -/
def State.accTick (s : State) : State :=
  let n := s.aon.tickAcc + 512
  if n < tickPeriod then { s with aon := { s.aon with tickAcc := n } }
  else { s with aon := { s.aon with tickAcc := n % tickPeriod } }.tickCk01

/-- The Cloche's 16 µs windows go on (R353, R355). -/
def State.winTick (s : State) : State :=
  { s with aon := { s.aon with win := (s.aon.win + 1) % 16, winSkip := s.aon.winSkip && decide (s.aon.win ≠ 15) } }

/-- One microsecond while CK06 runs. -/
def State.tickMicro (s : State) : State := (((s.fabricCycle.winTick.cloTick.stampTick.gtTicks 0).budgetTick.vcoreTick.gpioTick.trlTick.pollTick.entTick.serve).slotTick 512).accTick

/-- A tick of CK27, which stands still in SHIP alone. -/
def State.tick (s : State) : State :=
  if s.aon.pstate = 4 then s
  else (if s.ck06 then s.meterTick.tickMicro else (s.meterTick.slotTick tickPeriod).tickCk01).settle

end Sys2Proof.Machine
end

