-- ==== Sys2Proof/Machine/Integer.lean ====
section
/-!
DEFINITION. The integer instructions (R186 to R188): one meaning each over the shared forms `aluR` and `aluI`.
-/
namespace Sys2Proof.Machine
open Sys2Proof

/-- A register-register instruction: rd receives `f rs1 rs2`; both are read before rd is written (R187). -/
def State.aluR (s : State) (c : CoreId) (rd rs1 rs2 : Fin 32) (f : Word → Word → Word) : State :=
  s.execOn c fun s => s.modCore c fun k => (k.wr rd (f (k.rd rs1) (k.rd rs2))).next

/-- A register-immediate instruction: rd receives `f rs1 imm`. -/
def State.aluI (s : State) (c : CoreId) (rd rs1 : Fin 32) (imm : Word) (f : Word → Word → Word) : State :=
  s.execOn c fun s => s.modCore c fun k => (k.wr rd (f (k.rd rs1) imm)).next

def execAdd (c : CoreId) (rd rs1 rs2 : Fin 32) (s : State) : Out := .next (s.aluR c rd rs1 rs2 aluAdd)
def execSub (c : CoreId) (rd rs1 rs2 : Fin 32) (s : State) : Out := .next (s.aluR c rd rs1 rs2 aluSub)
def execAnd (c : CoreId) (rd rs1 rs2 : Fin 32) (s : State) : Out := .next (s.aluR c rd rs1 rs2 aluAnd)
def execOr (c : CoreId) (rd rs1 rs2 : Fin 32) (s : State) : Out := .next (s.aluR c rd rs1 rs2 aluOr)
def execXor (c : CoreId) (rd rs1 rs2 : Fin 32) (s : State) : Out := .next (s.aluR c rd rs1 rs2 aluXor)
def execSll (c : CoreId) (rd rs1 rs2 : Fin 32) (s : State) : Out := .next (s.aluR c rd rs1 rs2 aluSll)
def execSrl (c : CoreId) (rd rs1 rs2 : Fin 32) (s : State) : Out := .next (s.aluR c rd rs1 rs2 aluSrl)
def execSra (c : CoreId) (rd rs1 rs2 : Fin 32) (s : State) : Out := .next (s.aluR c rd rs1 rs2 aluSra)
def execSlt (c : CoreId) (rd rs1 rs2 : Fin 32) (s : State) : Out := .next (s.aluR c rd rs1 rs2 aluSlt)
def execSltu (c : CoreId) (rd rs1 rs2 : Fin 32) (s : State) : Out := .next (s.aluR c rd rs1 rs2 aluSltu)
def execMul (c : CoreId) (rd rs1 rs2 : Fin 32) (s : State) : Out := .next (s.aluR c rd rs1 rs2 aluMul)
def execMulh (c : CoreId) (rd rs1 rs2 : Fin 32) (s : State) : Out := .next (s.aluR c rd rs1 rs2 aluMulh)
def execMulhu (c : CoreId) (rd rs1 rs2 : Fin 32) (s : State) : Out := .next (s.aluR c rd rs1 rs2 aluMulhu)
def execMulhsu (c : CoreId) (rd rs1 rs2 : Fin 32) (s : State) : Out := .next (s.aluR c rd rs1 rs2 aluMulhsu)
def execDiv (c : CoreId) (rd rs1 rs2 : Fin 32) (s : State) : Out := .next (s.aluR c rd rs1 rs2 aluDiv)
def execDivu (c : CoreId) (rd rs1 rs2 : Fin 32) (s : State) : Out := .next (s.aluR c rd rs1 rs2 aluDivu)
def execRem (c : CoreId) (rd rs1 rs2 : Fin 32) (s : State) : Out := .next (s.aluR c rd rs1 rs2 aluRem)
def execRemu (c : CoreId) (rd rs1 rs2 : Fin 32) (s : State) : Out := .next (s.aluR c rd rs1 rs2 aluRemu)

def execAddi (c : CoreId) (rd rs1 : Fin 32) (imm : BitVec 16) (s : State) : Out := .next (s.aluI c rd rs1 (imm.signExtend 32) aluAdd)
def execAndi (c : CoreId) (rd rs1 : Fin 32) (imm : BitVec 16) (s : State) : Out := .next (s.aluI c rd rs1 (imm.setWidth 32) aluAnd)
def execOri (c : CoreId) (rd rs1 : Fin 32) (imm : BitVec 16) (s : State) : Out := .next (s.aluI c rd rs1 (imm.setWidth 32) aluOr)
def execXori (c : CoreId) (rd rs1 : Fin 32) (imm : BitVec 16) (s : State) : Out := .next (s.aluI c rd rs1 (imm.setWidth 32) aluXor)
def execSlti (c : CoreId) (rd rs1 : Fin 32) (imm : BitVec 16) (s : State) : Out := .next (s.aluI c rd rs1 (imm.signExtend 32) aluSlt)
def execSltiu (c : CoreId) (rd rs1 : Fin 32) (imm : BitVec 16) (s : State) : Out := .next (s.aluI c rd rs1 (imm.signExtend 32) aluSltu)

/-- A SHIFTI form: imm16[15:7] (`hi`) must be 0, else the illegal opcode fault (R183, R186). -/
def State.shiftI (s : State) (c : CoreId) (rd rs1 : Fin 32) (hi : BitVec 9) (kind : Nat) (sh : BitVec 5) (f : Word → Word → Word) : State :=
  s.execOn c fun s =>
    if hi ≠ 0 then s.illegal c (wordI 0x08 rd rs1 (BitVec.ofNat 16 (hi.toNat * 128 + kind * 32 + sh.toNat)))
    else s.modCore c fun k => (k.wr rd (f (k.rd rs1) (sh.setWidth 32))).next

def execSlli (c : CoreId) (rd rs1 : Fin 32) (hi : BitVec 9) (sh : BitVec 5) (s : State) : Out := .next (s.shiftI c rd rs1 hi 0 sh aluSll)
def execSrli (c : CoreId) (rd rs1 : Fin 32) (hi : BitVec 9) (sh : BitVec 5) (s : State) : Out := .next (s.shiftI c rd rs1 hi 1 sh aluSrl)
def execSrai (c : CoreId) (rd rs1 : Fin 32) (hi : BitVec 9) (sh : BitVec 5) (s : State) : Out := .next (s.shiftI c rd rs1 hi 2 sh aluSra)

/-- MOVHI (LUI in R186's table): imm16 shifted left by 16. -/
def execMovhi (c : CoreId) (rd : Fin 32) (imm : BitVec 16) (s : State) : Out :=
  .next (s.execOn c fun s => s.finish c rd (imm.setWidth 32 <<< 16))

/-- CSEL: rs1 if rs3 is not 0, else rs2; the predictor is neither consulted nor trained (R188, R583). -/
def execCsel (c : CoreId) (rd rs1 rs2 rs3 : Fin 32) (s : State) : Out :=
  .next (s.execOn c fun s => s.modCore c fun k => (k.wr rd (if k.rd rs3 ≠ 0 then k.rd rs1 else k.rd rs2)).next)

end Sys2Proof.Machine
end

