-- ==== Sys2Proof/Machine/MgmtPort.lean ====
section
/-!
DEFINITION. The management port as a target on its bus: windows, pointer and PEC (R519 to R527), the mailbox and the alert window (R532,
R533).
-/
namespace Sys2Proof.Machine
open Sys2Proof

/-- The bytes of data that one transaction takes (R521). -/
def mgpLimit : Nat := 32

/-- The address byte of a write; a read's is one more (R47). -/
def State.mgpAddrW (s : State) : Nat := 2 * (0x58 + s.aon.straps)

/-- PEC is enabled (R525). -/
def State.mgpPec (s : State) : Bool := s.on F.MGP.CFG.pec

/-- A window of the directory. -/
def mgpWindow (w : Nat) : Bool := decide (w ≤ 4 ∨ (0x20 ≤ w ∧ w < 0x40))

/-- The world for which a page window counts (R527). -/
def State.mgpWorld (s : State) : World := if 0 < s.mgp.session then .glass else .field

/-! ### Reads -/

/-- Window 0 (R523 to R525; DIR0 to DIR5). -/
def State.mgpWin0 (s : State) (o : Nat) : Word :=
  match o with
  | 0x00 => 0x4D470102
  | 0x04 => BitVec.ofNat 32 (0x58 + s.aon.straps)
  | 0x08 => BitVec.ofNat 32 s.mgp.lastWr
  | 0x0C => BitVec.ofNat 32 s.mgp.lastRd
  | 0x10 => s.reg R.MGP.CFG
  | 0x14 => BitVec.ofNat 32 (s.aon.pstate + 8 * b2n (decide (0 < s.mgp.session)) + 16 * b2n (s.on F.MGP.STAT.key_loaded) +
      256 * s.get F.LC.STATE.state)
  | 0x20 => 0x01010100
  | 0x24 => 0x00010201
  | 0x28 => 0x01010302
  | 0x2C => 0x01010403
  | 0x30 => 0x01010504
  | 0x34 => 0x00200620
  | _ => 0

/-- The registers that window 1 copies, from +0x00 on. -/
def mgpCopies : List Nat :=
  [R.SYS.RST_CAUSE, R.SYS.RST_HIST, R.SYS.RSTPIN, R.SYS.BOOT_STAT, R.SYS.SEC_VER, R.SYS.LOCKUP, R.LC.STATE, R.PWR.PATH, R.PWR.VBAT,
    R.PWR.IOGRP, R.PWR.WAKE_CAUSE, R.PWR.DOMAIN, R.CLO.ALARM, R.CLO.LASTDET, R.CLO.TEMP, R.COL.STAT]

/-- Window 1 with the port's own latches (R526). -/
def State.mgpWin1 (s : State) (o : Nat) : State × Word :=
  if o = 0x40 then ({ s with mgp := { s.mgp with timeHi := s.aon.time / 2 ^ 32 } }, BitVec.ofNat 32 s.aon.time)
  else if o = 0x44 then (s, BitVec.ofNat 32 s.mgp.timeHi)
  else if o = 0x48 then ({ s with mgp := { s.mgp with emHi := s.aon.emCount / 2 ^ 32 % 65536 } }, BitVec.ofNat 32 s.aon.emCount)
  else if o = 0x4C then (s, BitVec.ofNat 32 s.mgp.emHi)
  else (s, match mgpCopies[o / 4]? with | some a => s.regValue 0 a | none => 0)

/-- Window 2 (R528, R529): the MAC and GO read as 0. -/
def State.mgpWin2 (s : State) (o : Nat) : Word :=
  if o < 0x10 then BitVec.ofNat 32 (natLE ((s.mgpChal.drop o).take 4))
  else if o = 0x10 then BitVec.ofNat 32 s.mgp.cmd
  else if o = 0x28 then s.reg R.MGP.CMDSTAT
  else if o = 0x2C then mgpRead R.MGP.SESSION s
  else 0

/-- Window 3 (R532). -/
def State.mgpWin3 (s : State) (o : Nat) : Word :=
  if o < 0x40 then s.reg (R.MGP.MBIN + o)
  else if o = 0x40 then BitVec.ofNat 32 (s.get F.MGP.MBIN_CTL.len)
  else if o = 0x44 then BitVec.ofNat 32 (s.get F.MGP.MBIN_CTL.full)
  else if 0x80 ≤ o ∧ o < 0xC0 then s.reg (R.MGP.MBOUT + (o - 0x80))
  else if o = 0xC0 then BitVec.ofNat 32 (s.get F.MGP.MBOUT_CTL.post + 256 * s.get F.MGP.MBOUT_CTL.len)
  else 0

/-- Window 4 (R533): CLR reads as ALERT. -/
def State.mgpWin4 (s : State) (o : Nat) : Word :=
  if o = 0 ∨ o = 4 then BitVec.ofNat 32 (s.get F.MGP.ALERT.alert)
  else if o = 8 then BitVec.ofNat 32 (s.get F.MGP.ALERT.en)
  else 0

/-- Record the code of a read of window `w` in LASTRD. -/
def State.mgpRdCode (s : State) (w code : Nat) : State := { s with mgp := { s.mgp with lastRd := code + 256 * w } }

/-- A page word that the port does not ask for (R527). -/
def State.pageRefused (s : State) (w code : Nat) : State × Word := ((s.inc F.MGP.CNT.refused).mgpRdCode w code, 0)

/-- A word of page window `w` (R527). -/
def State.mgpPage (s : State) (w o : Nat) : State × Word :=
  let p := w - 0x20
  if 0xCC ≤ o then (s, 0)
  else if !(decide (pageDomain p = 0) || s.pdOn (pageDomain p)) then s.pageRefused w rcABSENT
  else if !s.mayRead p s.mgpWorld then s.pageRefused w rcAUTH
  else (s, s.regValue 0 (pageBase p + o))

/-- The word at offset `o` of window `w` as the port fetches it (R524). -/
def State.mgpWord (s : State) (w o : Nat) : State × Word :=
  match w with
  | 0 => (s, s.mgpWin0 o)
  | 1 => s.mgpWin1 o
  | 2 => (s, s.mgpWin2 o)
  | 3 => (s, s.mgpWin3 o)
  | 4 => (s, s.mgpWin4 o)
  | _ => if mgpWindow w then s.mgpPage w o else (s, 0)

/-- `n` bytes from the current position (R523, R524); `word` is the word in hand, of which a read begins inside. -/
def State.mgpBytes : Nat → Option Word → State → State × List Byte
  | 0, _, s => (s, [])
  | n + 1, word, s =>
    let w := s.mgp.window
    let p := s.mgp.pointer
    let (s, v) := match word with
      | some v => if p % 4 = 0 then s.mgpWord w p else (s, v)
      | none => s.mgpWord w (p / 4 * 4)
    let b : Byte := if mgpWindow w then BitVec.ofNat 8 (v.toNat / 2 ^ (8 * (p % 4))) else 0xFF
    let s := { s with mgp := { s.mgp with pointer := (p + 1) % 256 } }
    let (s, bs) := State.mgpBytes n (some v) s
    (s, b :: bs)

/-- The bytes before the repeated start set the position (R522). -/
def State.mgpPosition (s : State) (pos : List Byte) : State :=
  match pos with
  | [] => s
  | [w] => { s with mgp := { s.mgp with window := w.toNat, pointer := 0 } }
  | w :: p :: _ => { s with mgp := { s.mgp with window := w.toNat, pointer := p.toNat } }

/-- The data bytes that PEC lets a read send: the count byte, 32 where it is absent or 0, at most 32 (R522). -/
def mgpCount (pos : List Byte) : Nat :=
  match pos[2]? with
  | some n => if n = 0 then mgpLimit else min n.toNat mgpLimit
  | none => mgpLimit

/-- A read of `k` bytes after the position bytes `pos` (R522 to R527). -/
def State.mgpReadBytes (s : State) (pos : List Byte) (k : Nat) : State × List Byte :=
  let s := s.mgpPosition pos
  let w := s.mgp.window
  let n := if s.mgpPec then min k (mgpCount pos) else k
  let s := if mgpWindow w then s.mgpRdCode w rcOK else (s.mgpRdCode w rcRANGE).inc F.MGP.CNT.bad_window
  let (s, bs) := State.mgpBytes n none s
  let head := if pos.isEmpty then [] else BitVec.ofNat 8 s.mgpAddrW :: pos
  let pec := BitVec.ofNat 8 (crc8 (head ++ BitVec.ofNat 8 (s.mgpAddrW + 1) :: bs))
  (s, bs ++ (if n < k then pec :: List.replicate (k - n - 1) 0xFF else []))

/-- MGP_READ: position bytes (window, pointer, count) and the number of bytes that the controller clocks out; an address match is wake
event 2 (R534). -/
def execMgpRead (pos : List Byte) (k : Nat) (s : State) : Out :=
  if s.mgpServes then
    let s := s.wakeEvent 4
    let (s, bs) := s.mgpReadBytes (pos.take 3) k
    .next (s.answer bs 0).settle
  else .next s

/-! ### Writes -/

/-- A writable byte of a window (R523). -/
def mgpWritable (w o : Nat) : Bool :=
  match w with
  | 0 => decide (0x10 ≤ o ∧ o < 0x14)
  | 2 => decide (0x10 ≤ o ∧ o < 0x28)
  | 3 => decide (o < 0x44 ∨ (0xC4 ≤ o ∧ o < 0xC8))
  | 4 => decide (4 ≤ o ∧ o < 12)
  | _ => false

/-- A byte of IN, which is written by bytes. -/
def mgpByteWise (w o : Nat) : Bool := decide (w = 3 ∧ o < 0x40)

/-- The offsets that `n` bytes from pointer `p` fall on (R523). -/
def mgpOffsets (p n : Nat) : List Nat := (numsFrom n p).map (· % 256)

/-- Every byte falls on a writable offset, and every word of a register is written whole (R523). -/
def mgpBounds (w p n : Nat) : Bool :=
  let os := mgpOffsets p n
  os.all fun o => mgpWritable w o && (mgpByteWise w o || (numsFrom 4 (o / 4 * 4)).all fun k => os.contains k)

/-- The word that data bytes leave at offset `o` of a write from pointer `p`. -/
def mgpDataWord (p : Nat) (data : List Byte) (o : Nat) : Nat := natLE ((data.drop ((o + 256 - p) % 256)).take 4)

/-- The mailbox and command rules (R529, R532): the code of a write that they refuse, OK otherwise. -/
def State.mgpRules (s : State) (w p : Nat) (data : List Byte) : Nat :=
  let os := mgpOffsets p data.length
  if w = 3 ∧ os.any (fun o => decide (o < 0x44)) ∧ s.on F.MGP.MBIN_CTL.full then rcBUSY
  else if w = 3 ∧ os.contains 0x40 ∧ (mgpDataWord p data 0x40 % 256 = 0 ∨ 64 < mgpDataWord p data 0x40 % 256) then rcRANGE
  else if w = 2 ∧ os.contains 0x24 ∧ s.mgp.run.isSome then rcBUSY
  else rcOK

/-- The code of a write (R523): `pecOk` tells that its PEC is right. -/
def State.mgpJudge (s : State) (w p : Nat) (data : List Byte) (pecOk : Bool) : Nat :=
  if !pecOk then rcCRC
  else if !mgpWindow w then rcRANGE
  else if !mgpBounds w p data.length then rcBOUNDS
  else s.mgpRules w p data

/-- A message is posted for firmware (R532). -/
def State.inPost (s : State) (len : Nat) : State := ((s.put F.MGP.MBIN_CTL.full 1).put F.MGP.MBIN_CTL.len len).irq pageMGP 0

/-- OUT is emptied (R532): nothing where it is empty. -/
def State.outAck (s : State) : State :=
  if s.on F.MGP.MBOUT_CTL.post then (s.put F.MGP.MBOUT_CTL.post 0).irq pageMGP 1 else s

/-- A register word of a window is written. -/
def State.mgpStore (s : State) (w o v : Nat) : State :=
  if w = 0 then s.put F.MGP.CFG.pec (v % 2)
  else if w = 2 then
    if o = 0x10 then { s with mgp := { s.mgp with cmd := v } }
    else if o = 0x24 then s.mgpGo
    else { s with mgp := { s.mgp with mac := s.mgp.mac.take (o - 0x14) ++ bytesLE 4 v ++ s.mgp.mac.drop (o - 0x10) } }
  else if w = 3 then (if o = 0x40 then s.inPost (v % 256) else s.outAck)
  else if o = 4 then s.put F.MGP.ALERT.alert (s.get F.MGP.ALERT.alert &&& (0xFF ^^^ v % 256))
  else s.put F.MGP.ALERT.en (v % 256 ||| 1)

/-- The bytes are applied in pointer order (R523): IN byte by byte, every other register when its last byte comes. -/
def State.mgpApply (s : State) (w p : Nat) (data : List Byte) : State :=
  foldState (fun (e : Nat × Byte) s =>
      if mgpByteWise w e.1 then s.put ⟨R.MGP.MBIN + e.1 / 4 * 4, 8 * (e.1 % 4) + 7, 8 * (e.1 % 4)⟩ e.2.toNat
      else if e.1 % 4 = 3 then s.mgpStore w (e.1 - 3) (mgpDataWord p data (e.1 - 3))
      else s)
    ((mgpOffsets p data.length).zip data) s

/-- A write transaction that ends with P (R521, R523): window, pointer, data and PEC as they came; bytes beyond the limit are not taken. -/
def State.mgpWriteBytes (s : State) (bytes : List Byte) : State :=
  let all := bytes.take (2 + mgpLimit + b2n s.mgpPec)
  let pecced := s.mgpPec && decide (2 ≤ all.length)
  let body := if pecced then all.take (all.length - 1) else all
  let pecOk := !pecced || decide (BitVec.ofNat 8 (crc8 (BitVec.ofNat 8 s.mgpAddrW :: body)) = (all.drop (all.length - 1)).headD 0)
  match body with
  | [] => s
  | w :: rest =>
    let w := w.toNat
    let p := (rest.headD 0).toNat
    let data := rest.drop 1
    let code := s.mgpJudge w p data pecOk
    let after := (p + data.length) % 256
    let s := { s with mgp := { s.mgp with window := w, pointer := after, lastWr := code + 256 * w + 65536 * after } }
    if code = rcCRC then s.inc F.MGP.CNT.pec_err
    else if code = rcRANGE ∧ !mgpWindow w then s.inc F.MGP.CNT.bad_window
    else if code = rcOK then s.mgpApply w p data
    else s

/-- MGP_WRITE: the bytes after the address. -/
def execMgpWrite (bytes : List Byte) (s : State) : Out :=
  if s.mgpServes then .next ((s.wakeEvent 4).mgpWriteBytes bytes).settle else .next s

/-- A write of the word `v` at offset `o` of window `w` as one transaction, with its PEC where it is enabled. -/
def State.mgpWordWrite (s : State) (w o : Byte) (v : Word) : State :=
  let body := w :: o :: bytesLE 4 v.toNat
  s.mgpWriteBytes (if s.mgpPec then body ++ [BitVec.ofNat 8 (crc8 (BitVec.ofNat 8 s.mgpAddrW :: body))] else body)

/-- IN_POST: a management write of the word `v` to window 3 IN_POST (R532). -/
def execInPost (v : Word) (s : State) : Out :=
  if s.mgpServes then .next ((s.wakeEvent 4).mgpWordWrite 3 0x40 v).settle else .next s

/-- OUT_ACK: a management write to window 3 OUT_ACK (R532). -/
def execOutAck (v : Word) (s : State) : Out :=
  if s.mgpServes then .next ((s.wakeEvent 4).mgpWordWrite 3 0xC4 v).settle else .next s

/-- ALERT_CLR (R533): a write of CLR by the management controller (`ini` none), or of MGP.ALERT by an initiator. -/
def execAlertClr (ini : Option Ini) (v : Word) (s : State) : Out :=
  match ini with
  | some i => s.writeReg i R.MGP.ALERT v
  | none => if s.mgpServes then .next ((s.wakeEvent 4).mgpWordWrite 4 4 v).settle else .next s

/-- A transfer that `s` does not have under way starts in `t`. -/
def State.mcStarted (s t : State) : State :=
  match s.mgp.mc, t.mgp.mc with
  | none, some (true, w) => t.mcStart w
  | _, _ => t

/-- MC_GO: a write of MGP.MC_CMD; `free` tells that the bus is free (R535). The answer of one that starts a transfer is what the port sends. -/
def execMcGo (ini : Ini) (v : Word) (free : Bool) (s : State) : Out :=
  match s.writeCmd ini 4 R.MGP.MC_CMD v fun x s => mgpWriteBus x free s with
  | .next t => .next (s.mcStarted t)
  | r => r

end Sys2Proof.Machine
end

