-- ==== Sys2Proof/Machine/Observe.lean ====
section
/-!
DEFINITION. Snapshots, monitors, the event log and the trace buffer at work (ch. 22): the firing of the common trigger with what each
page captures, monitor samples, the logger and the trace writer.
-/
namespace Sys2Proof.Machine
open Sys2Proof

/-! ### Snapshots -/

/-- Registers in a row that fill snapshot registers from 0 on. -/
def snapRow (as : List Nat) : List (Nat × Nat) := (numsFrom as.length 0).zip as

/-- The STAT register of page `p`. -/
def statAddr (p : Nat) : Nat := pageBase p + R.HDR.STAT

/-- What page `p` captures: snapshot register and the register it copies (the chapters' snapshot tables). The SNAP page and the ring
registers of RING are apart. -/
def snapRegs (p : Nat) : List (Nat × Nat) :=
  match p with
  | 0 => snapRow [R.SYS.RST_CAUSE, R.SYS.RSTPIN, R.SYS.BOOT_STAT]
  | 1 => snapRow [R.PWR.DOMAIN, R.PWR.CLKRUN, R.PWR.PATH, R.PWR.VBAT, R.PWR.BOOST]
  | 2 => snapRow [R.AON.TIME_LO, R.AON.TIME_HI, R.AON.ALARM_CTRL]
  | 3 => snapRow [R.LC.STATE, R.LC.ADV_STAT, R.LC.FAILS, R.LC.DBG_CTRL]
  | 5 => snapRow [R.FLC.STAT, R.FLC.RESULT, R.FLC.ECC, R.FLC.REDUND]
  | 6 => snapRow [R.LDG.STAT, R.LDG.CNT_RES, R.LDG.WEAR, R.LDG.SPARE, R.LDG.LOGPOS]
  | 7 => snapRow ([R.SMPU.PEND, R.SMPU.SYNC_DONE, R.SMPU.INTEG, R.SMPU.COH] ++ (numsFrom 8 0).map fun k => R.SMPU.MFAULT + 4 * k)
  | 8 => snapRow [R.CPU.RUN, R.CPU.CAPCNT, R.CPU.STALE, R.CPU.SWEEP]
  | 9 => snapRow ([R.CPU.RUN, R.CPU.CAPCNT, R.CPU.STALE, R.CPU.SWEEP].map (· + 0x1000))
  | 10 => snapRow [statAddr 10, R.COL.CUR, R.COL.WILT, R.COL.CNT0, R.COL.CNT1]
  | 11 => snapRow [R.INTC.CORE0_STAT, R.INTC.CORE1_STAT, R.INTC.PEND, R.INTC.PEND + 4, R.INTC.PEND + 8, R.INTC.PEND + 12, R.INTC.DEFER]
  | 12 => snapRow [R.CLO.ALARM, R.CLO.LASTDET, R.CLO.TWFAIL_A, R.CLO.TWFAIL_B, R.CLO.TEMP]
  | 13 => snapRow [statAddr 13, R.ENT.REQCNT, R.ENT.HEALTH, R.ENT.CHAIN]
  | 14 => snapRow [statAddr 14, R.CRY.CPN_STAT, R.CRY.CPN_CNT, R.CRY.JOBCNT]
  | 15 => snapRow [statAddr 15]
  | 16 => snapRow [R.TRL.HALTED, R.TRL.HALTED + 4, R.TRL.HALTED + 8, R.TRL.DEFCNT, R.TRL.DCACHE]
  | 18 => snapRow [R.RDL.LOSS, R.RDL.LOSS + 16, R.RDL.LOSS + 32, R.RDL.PFAIL, R.RDL.PFAIL + 16, R.RDL.PFAIL + 32]
  | 19 => snapRow [R.RDLT.EN, R.RDLT.EN + 4, R.RDLT.EN + 8, R.RDLT.EN + 12]
  | 20 => snapRow [R.ETH.STAT, R.ETH.RXCNT, R.ETH.TXCNT, R.ETH.RXERR, R.ETH.ERR2]
  | 21 => snapRow ([R.ETH.STAT, R.ETH.RXCNT, R.ETH.TXCNT, R.ETH.RXERR, R.ETH.ERR2].map (· + 0x1000))
  | 22 => snapRow [R.RLP.STAT, R.RLP.ST_NOW, R.RLP.BCN_TIME, R.RLP.TX_STAT, R.RLP.TXCNT, R.RLP.RXERR] ++
      [(12, R.RLP.SV_QSTAT), (13, R.RLP.SV_CNT0), (14, R.RLP.SV_CNT1)]
  | 23 => snapRow [R.GCB.STAT, R.GCB.RESP, R.GCB.STOP_AT, R.GCB.CNT0, R.GCB.CNT1]
  | 24 => snapRow [R.HLK.LASTWR, R.HLK.LASTRD, R.HLK.CNT0, R.HLK.CNT1, R.HLK.CNT2]
  | 25 => snapRow [R.MGP.STAT, R.MGP.CMDSTAT, R.MGP.ALERT, R.MGP.MC_RES, R.MGP.CNT]
  | 26 => snapRow [R.GPIO.IN, R.GPIO.OUT, R.GPIO.DIR, pageBase 26 + R.HDR.IRQ_RAW]
  | 27 => snapRow (R.ADC.STAT :: (numsFrom 4 0).map fun k => R.ADC.RESULT + 4 * k)
  | 28 => snapRow ((numsFrom 3 0).map (fun k => R.TMR.WD_STAT + 16 * k) ++ (numsFrom 4 0).map fun k => R.TMR.GT_COUNT + 16 * k)
  | 30 => snapRow [R.TRC.STAT, R.TRC.WPTR, R.TRC.LOST]
  | 31 => snapRow [R.PRB.STAT, R.PRB.CNT]
  | _ => []

/-- What the SNAP page captures (ch. 22): the energy meter, the time base, the fast timestamp, the source bits, and the first four values
of its previous capture. -/
def State.snapOwn (s : State) (src : Nat) : List Word :=
  let old (k : Nat) : Word := s.reg (pageBase pageSNAP + R.HDR.SNAP + 4 * k)
  [BitVec.ofNat 32 s.aon.emCount, BitVec.ofNat 32 (s.aon.emCount / 2 ^ 32 % 65536), BitVec.ofNat 32 s.aon.time,
    BitVec.ofNat 32 (s.aon.time / 2 ^ 32), BitVec.ofNat 32 s.stampNow, BitVec.ofNat 32 src, old 0, old 1, old 2, old 3]

/-- What the RING page captures: IDX of the rings that SNAPSEL names (ch. 16); of a number that no ring has the spec states none. -/
def State.snapRings (s : State) (free : Nat) : List Word :=
  (numsFrom 16 0).map fun k =>
    let n := bitsOf (s.reg (R.RING.SNAPSEL + 4 * (k / 4))).toNat (8 * (k % 4) + 7) (8 * (k % 4))
    if n < 96 then s.regValue 0 (R.RING.IDX + 32 * n) else Config.freeWord (free + k)

/-- The values that page `p` captures, by snapshot register. -/
def State.snapValues (s : State) (src free p : Nat) : List (Nat × Word) :=
  if p = pageSNAP then (numsFrom 16 0).zip (s.snapOwn src)
  else if p = pageRING then (numsFrom 16 0).zip (s.snapRings free)
  else (snapRegs p).map fun e => (e.1, s.regValue (Config.freeNat free) e.2)

/-- Page `p` captures now: enabled, not held, its domain on, and reached by a clock (R539). -/
def State.snapTakes (s : State) (p : Nat) : Bool :=
  s.on (F.HDR.SNAP_CFG.en.onPage p) && !s.on (F.HDR.SNAP_CFG.held.onPage p) &&
    (decide (pageDomain p = 0) || s.pdOn (pageDomain p)) && (s.ck06 || decide (pageDomain p ≤ 1))

/-- The skew of a capture: 0xFF while CK06 stands, otherwise a number of cycles up to 254 that the spec leaves open (R539). -/
def State.snapSkew (s : State) (free p : Nat) : Nat := if s.ck06 then Config.freeNat (free + 32 + p) % 255 else 0xFF

/-- Page `p` captures the values it had at the trigger, in `t` (R539, R540). -/
def State.capture (t : State) (src free : Nat) (p : Nat) (s : State) : State :=
  if t.snapTakes p then
    let b := pageBase p
    let s := foldState (fun (e : Nat × Word) s => s.setReg (b + R.HDR.SNAP + 4 * e.1) e.2) (t.snapValues src free p) s
    let s := s.setReg (b + R.HDR.SNAP_SEQ) (BitVec.ofNat 32 (t.get F.SNAP.TRIG_STAT.seq + 2 ^ 16 * t.snapSkew free p))
    if t.on (F.HDR.SNAP_CFG.hold.onPage p) then s.put (F.HDR.SNAP_CFG.held.onPage p) 1 else s
  else s

/-- One firing for the sources `src` (R538, R539, R541). -/
def State.fire (s : State) (src : Nat) : State :=
  let s := s.put F.SNAP.TRIG_STAT.seq (s.get F.SNAP.TRIG_STAT.seq + 1)
  let free := s.fresh
  let s := { s with fresh := s.fresh + 64, aon := { s.aon with snapGap := true } }
  let s := foldState (s.capture src free) (numsFrom 32 0) s
  (s.irq pageSNAP 0).trace 0x31 0 .field (s.get F.SNAP.TRIG_STAT.seq) src

/-- SNAP_FIRING: the events that wait fire once, outside t_SNAPGAP (R538, R541). -/
def State.snapFiring (s : State) : State :=
  if s.aon.snapEvents ≠ 0 ∧ !s.aon.snapGap then
    ({ s with aon := { s.aon with snapEvents := 0 } }).fire s.aon.snapEvents
  else s

def execSnapFiring (s : State) : Out := .next s.snapFiring.settle

/-- SNAP_MERGED_FIRE: t_SNAPGAP ends; events merged in it fire once (R541). -/
def State.snapMergedFire (s : State) : State :=
  if !s.aon.snapGap then s
  else
    let src := s.aon.snapMerged
    let s := { s with aon := { s.aon with snapGap := false, snapMerged := 0 } }
    if src = 0 then s else (s.put F.SNAP.TRIG_STAT.pending 0).fire src

def execSnapMergedFire (s : State) : Out := .next s.snapMergedFire.settle

/-! ### Monitors -/

/-- The bin of sample `v` (R542): `sh` the bin shift, `base` the bin base. -/
def monBin (sh base v : Nat) : Nat :=
  let l := base * 2 ^ sh
  if v < l + 2 ^ sh then 0 else if l + 15 * 2 ^ sh ≤ v then 15 else (v - l) / 2 ^ sh

/-- Add to a monitor's counter, which saturates; page `p` then sets its MON_SAT bit (R543). -/
def State.monAdd (s : State) (p a v : Nat) : State :=
  let old := (s.reg a).toNat
  let new := satAdd 0xFFFFFFFF old v
  let s := s.setReg a (BitVec.ofNat 32 new)
  if new = 0xFFFFFFFF ∧ old ≠ new then (s.put (F.SNAP.MON_SAT.sat.bit p) 1).irq pageSNAP 1 else s

/-- A sample of page `p`'s monitor (R542). -/
def State.monSample (s : State) (p v : Nat) : State :=
  let b := pageBase p
  if (decide (pageDomain p = 0) || s.pdOn (pageDomain p)) && s.on (F.HDR.MON_CTRL.run.onPage p) then
    let k := monBin (s.get (F.HDR.MON_SEL.bin_shift.onPage p)) (s.get (F.HDR.MON_CTRL.bin_base.onPage p)) v
    let s := s.setReg (b + R.HDR.MON_MIN) (BitVec.ofNat 32 (min v (s.reg (b + R.HDR.MON_MIN)).toNat))
    let s := s.setReg (b + R.HDR.MON_MAX) (BitVec.ofNat 32 (max v (s.reg (b + R.HDR.MON_MAX)).toNat))
    ((s.monAdd p (b + R.HDR.MON_BIN + 4 * k) 1).monAdd p (b + R.HDR.MON_COUNT) 1).monAdd p (b + R.HDR.MON_SUM) v
  else s

/-- MON_SAMPLE: the monitor of page `p` takes sample `v` of the quantity that MON_SEL names. -/
def execMonSample (p : Fin 32) (v : Word) (s : State) : Out := .next (s.monSample p v.toNat).settle

/-! ### Event log -/

/-- The entry of a slot (R545): `loss` tells that entries were lost since the previous one. -/
def logBody (e : LogEntry) (loss : Bool) : List Byte :=
  bytesLE 6 e.time ++ bytesLE 1 (e.kind % 128 + 128 * b2n loss) ++ bytesLE 1 e.code ++ bytesLE 4 e.detail

/-- The commit word of a slot (R315, R545). -/
def logCommit (seq : Nat) : List Byte := bytesLE 2 seq ++ bytesLE 2 0x4C47

/-- The 16 bytes of a slot. -/
def logBytes (e : LogEntry) (loss : Bool) (seq : Nat) : List Byte := logBody e loss ++ logCommit seq

/-- LOG_WRITE: the oldest entry goes to its slot, or is discarded at the slot that firmware holds; the log position
moves on (R546, R547, R315, R317 to R319). `p` tells of each of the slot's writes (R311). Reset responses of the Cloche may have waited for it (R364). -/
def State.logWrite (s : State) (p : Pulse) : State :=
  match s.logQueue with
  | [] => s
  | e :: es =>
    if s.pdOn 8 && s.ldg.ready then
      let slot := s.ldg.logSlot
      let a := 0x3001D000 + 16 * slot
      let s := { s with logQueue := es, ldg := { s.ldg with logSlot := (slot + 1) % 768 } }
      State.cloLogged <|
      if s.on F.SNAP.LOG_CTRL.hold && decide (s.get F.SNAP.LOG_CTRL.hold_slot = slot) then
        ({ (s.inc F.SNAP.LOG_STAT.lost) with logLoss := true }).irq pageSNAP 2
      else
        let ws := recordWrites a (logBody e s.logLoss) (logCommit s.ldg.logSeq)
        let s := { s with logLoss := false, ldg := { s.ldg with logSeq := (s.ldg.logSeq + 1) % 65536 } }
        (s.hwWrites ws (List.replicate 3 p)).1
    else s

def execLogWrite (passes : Fin 5) (verified : Bool) (s : State) : Out :=
  .next ((s.logWrite ⟨passes, verified⟩).seqKick).settle

/-! ### Trace -/

/-- The 16 bytes of a trace record (R549). -/
def traceBytes (r : TraceRec) : List Byte :=
  bytesLE 1 r.type ++ bytesLE 1 (r.core % 2 + 2 * (r.world % 2)) ++ bytesLE 2 r.arg ++ bytesLE 4 r.stamp ++ bytesLE 6 r.time ++
    bytesLE 2 r.arg2

/-- The address of trace record `i`. -/
def traceAddr (i : Nat) : Nat := 0x60000000 + 16 * i

/-- A record is written at WPTR, or counted as lost where mode 1 would overwrite record 0 after a wrap (R551). -/
def State.traceStore (s : State) (r : TraceRec) : State :=
  let i := s.get F.TRC.WPTR.next
  if s.on F.TRC.CTRL.mode && decide (i = 0) && decide (s.byte (traceAddr 0) ≠ 0) then
    (((s.put F.TRC.STAT.full 1).irq pageTRC 0).inc F.TRC.LOST.count).irq pageTRC 1
  else
    let s := (s.setBytes (traceAddr i) (traceBytes r)).put F.TRC.WPTR.next (i + 1)
    if i = 511 ∧ !s.on F.TRC.CTRL.mode then s.inc F.TRC.WPTR.wraps else s

/-- TRACE_RECORD_WRITE: the oldest record leaves the FIFO and is written; records dropped before are reported by one LOST record as soon
as there is room (R550). -/
def State.traceWrite (s : State) : State :=
  match s.trcFifo with
  | [] => s
  | r :: rs =>
    if s.ck06 && s.pdOn 13 && s.on F.TRC.CTRL.en && !s.on F.TRC.STAT.clearing then
      let s := { s with trcFifo := rs }.traceStore r
      if s.trcLost = 0 then s
      else { s with trcFifo := s.trcFifo ++ [⟨0x03, 0, 0, s.trcLost, 0, s.stampNow, s.aon.time⟩], trcLost := 0 }
    else s

def execTraceRecordWrite (s : State) : Out := .next s.traceWrite.settle

/-- TRC_CLR_DONE (R549): WPTR, LOST, full and every type byte are 0. -/
def State.traceClear (s : State) : State :=
  if s.on F.TRC.STAT.clearing then
    let s := ((s.setReg R.TRC.WPTR 0).setReg R.TRC.LOST 0).setReg R.TRC.STAT 0
    { s with trcLost := 0, mem := tabDrop (fun a => decide (0x60000000 ≤ a ∧ a < 0x60002000 ∧ a % 16 = 0)) s.mem }
  else s

def execTrcClrDone (s : State) : Out := .next s.traceClear

end Sys2Proof.Machine
end

