-- ==== Sys2Proof/Machine/Watch.lean ====
section
/-!
DEFINITION. The Cloche's detections as commands (R357, R359, R362, R369): their first action fires the common trigger, which every page
captures before anything else changes (R362 step 1, R539).
-/
namespace Sys2Proof.Machine
open Sys2Proof

/-- CLOCHE_DETECT: what sources measure in one CK26 cycle; sources 16 to 22 watch continuously in RUN and DOZE only (R357). -/
def execClocheDetect (ds : List Det) (s : State) : Out :=
  .next (s.cloHandle State.snapFiring (ds.filter fun d => decide (s.aon.pstate ≤ 1 ∨ d.src.val < 16 ∨ 22 < d.src.val))).settle

/-- CLOCHE_BURST: sources 16 to 22 are evaluated in HIBERNATE and SENTRY WATCH, once in each second at the drawn offset (R357), the temperature
with them (R358). -/
def execClocheBurst (reading : BitVec 16) (ds : List Det) (s : State) : Out :=
  if (s.aon.pstate = 2 ∨ s.aon.pstate = 3) ∧ s.burstDue = true then
    let s := { s with cloSecond := s.aon.time / 32768 + 1 }
    .next ((s.tempSample reading).cloHandle State.snapFiring (ds.filter fun d => decide (16 ≤ d.src.val ∧ d.src.val ≤ 22))).settle
  else .next s

/-- BIST_DONE: a test of a twin ends (R369). -/
def execBistDone (n : Fin 32) (twinB detected : Bool) (s : State) : Out :=
  .next (s.bistDone State.snapFiring n twinB detected).settle

end Sys2Proof.Machine
end

