-- ==== Sys2Proof/Machine/Dispatch.lean ====
section
/-!
DEFINITION. The dispatch: one arm per command, each one call of that command's meaning.
-/
namespace Sys2Proof.Machine
open Sys2Proof

def exec (i : Instr) (s : State) : Host.Outcome State Fault Refusal :=
  match i with
  | .registerWrite ini size off v bad => Sys2Proof.Machine.execRegisterWrite ini size off v bad s
  | .ownerWrite ini p v => Sys2Proof.Machine.execOwnerWrite ini p v s
  | .ownerClrCnt ini p v => Sys2Proof.Machine.execOwnerClrCnt ini p v s
  | .softLock ini p key => Sys2Proof.Machine.execSoftLock ini p key s
  | .unlock ini p key => Sys2Proof.Machine.execUnlock ini p key s
  | .hardLock ini p key => Sys2Proof.Machine.execHardLock ini p key s
  | .faultClear ini p v => Sys2Proof.Machine.execFaultClear ini p v s
  | .vsysRise => Sys2Proof.Machine.execVsysRise s
  | .vsysGained => Sys2Proof.Machine.execVsysGained s
  | .vsysLost => Sys2Proof.Machine.execVsysLost s
  | .forceVbatWrite ini hold => Sys2Proof.Machine.execForceVbatWrite ini hold s
  | .pathCntClr ini v => Sys2Proof.Machine.execPathCntClr ini v s
  | .shipWake vbat present band straps => Sys2Proof.Machine.execShipWake vbat present band straps s
  | .vbatSample mv => Sys2Proof.Machine.execVbatSample mv s
  | .iogrpChange present band r g => Sys2Proof.Machine.execIogrpChange present band r g s
  | .gcbOvercurrent r g => Sys2Proof.Machine.execGcbOvercurrent r g s
  | .gpioSet ini v => Sys2Proof.Machine.execGpioSet ini v s
  | .gpioClr ini v => Sys2Proof.Machine.execGpioClr ini v s
  | .gpioEdge n level => Sys2Proof.Machine.execGpioEdge n level s
  | .adcGo ini => Sys2Proof.Machine.execAdcGo ini s
  | .adcCal ini v => Sys2Proof.Machine.execAdcCal ini v s
  | .adcCalDone offset gain => Sys2Proof.Machine.execAdcCalDone offset gain s
  | .adcResult volts vdda => Sys2Proof.Machine.execAdcResult volts vdda s
  | .scanDone => Sys2Proof.Machine.execScanDone s
  | .adcResultRead ini k => Sys2Proof.Machine.execAdcResultRead ini k s
  | .hfrcCalCount miss slow => Sys2Proof.Machine.execHfrcCalCount miss slow s
  | .hfxoStable => Sys2Proof.Machine.execHfxoStable s
  | .pllLock => Sys2Proof.Machine.execPllLock s
  | .lfxoStable => Sys2Proof.Machine.execLfxoStable s
  | .boostReq ini v => Sys2Proof.Machine.execBoostReq ini v s
  | .boostSwitch => Sys2Proof.Machine.execBoostSwitch s
  | .boostCntClr ini v => Sys2Proof.Machine.execBoostCntClr ini v s
  | .domainReqWrite ini v => Sys2Proof.Machine.execDomainReqWrite ini v s
  | .domainPowerUp => Sys2Proof.Machine.execDomainPowerUp s
  | .domainPowerDown => Sys2Proof.Machine.execDomainPowerDown s
  | .pdWaitEnd => Sys2Proof.Machine.execPdWaitEnd s
  | .holdRelease ini v => Sys2Proof.Machine.execHoldRelease ini v s
  | .sleepCntClr ini v => Sys2Proof.Machine.execSleepCntClr ini v s
  | .offaccClr ini => Sys2Proof.Machine.execOffaccClr ini s
  | .sleepEntry => Sys2Proof.Machine.execSleepEntry s
  | .wakeEvent events => Sys2Proof.Machine.execWakeEvent events s
  | .dozeWake => Sys2Proof.Machine.execDozeWake s
  | .hibernateWake => Sys2Proof.Machine.execHibernateWake s
  | .aonTimeRead ini => Sys2Proof.Machine.execAonTimeRead ini s
  | .alarmFire => Sys2Proof.Machine.execAlarmFire s
  | .alarmArm ini v => Sys2Proof.Machine.execAlarmArm ini v s
  | .emClear ini v => Sys2Proof.Machine.execEmClear ini v s
  | .emRead ini => Sys2Proof.Machine.execEmRead ini s
  | .powerOnReset vbat present band straps stage => Sys2Proof.Machine.execPowerOnReset vbat present band straps stage s
  | .systemReset srcs => Sys2Proof.Machine.execSystemReset srcs s
  | .coreReset srcs => Sys2Proof.Machine.execCoreReset srcs s
  | .resetPinGlitch => Sys2Proof.Machine.execResetPinGlitch s
  | .pinReset => Sys2Proof.Machine.execPinReset s
  | .resetPinStuck => Sys2Proof.Machine.execResetPinStuck s
  | .resetPinRelease => Sys2Proof.Machine.execResetPinRelease s
  | .softSys ini => Sys2Proof.Machine.execSoftSys ini s
  | .softCore ini c => Sys2Proof.Machine.execSoftCore ini c s
  | .coldBoot fails seed ledgerBad => Sys2Proof.Machine.execColdBoot fails seed ledgerBad s
  | .warmResume => Sys2Proof.Machine.execWarmResume s
  | .core1Start => Sys2Proof.Machine.execCore1Start s
  | .coreRestart c => Sys2Proof.Machine.execCoreRestart c s
  | .lcAdvanceToken ini v bad => Sys2Proof.Machine.execLcAdvanceToken ini v bad s
  | .lcAdvancePlain ini v => Sys2Proof.Machine.execLcAdvancePlain ini v s
  | .lcTransition => Sys2Proof.Machine.execLcTransition s
  | .lcBackoffEnd => Sys2Proof.Machine.execLcBackoffEnd s
  | .lcStateClr ini => Sys2Proof.Machine.execLcStateClr ini s
  | .dbgReq ini => Sys2Proof.Machine.execDbgReq ini s
  | .dbgGo ini bad => Sys2Proof.Machine.execDbgGo ini bad s
  | .dbgRevoke ini => Sys2Proof.Machine.execDbgRevoke ini s
  | .prbLineReset => Sys2Proof.Machine.execPrbLineReset s
  | .prbRead op reg par => Sys2Proof.Machine.execPrbRead op reg par s
  | .prbWrite reg par v crc => Sys2Proof.Machine.execPrbWrite reg par v crc s
  | .prbDataRead late g => Sys2Proof.Machine.execPrbDataRead late g s
  | .prbDataWrite v late g => Sys2Proof.Machine.execPrbDataWrite v late g s
  | .prbAccessDone g => Sys2Proof.Machine.execPrbAccessDone g s
  | .prbHalt => Sys2Proof.Machine.execPrbHalt s
  | .prbHaltTaken c => Sys2Proof.Machine.execPrbHaltTaken c s
  | .prbStep => Sys2Proof.Machine.execPrbStep s
  | .prbResume => Sys2Proof.Machine.execPrbResume s
  | .prbRdataRead => Sys2Proof.Machine.execPrbRdataRead s
  | .prbRdataWrite v => Sys2Proof.Machine.execPrbRdataWrite v s
  | .prbReset low => Sys2Proof.Machine.execPrbReset low s
  | .prbCntClr ini => Sys2Proof.Machine.execPrbCntClr ini s
  | .add c rd rs1 rs2 => Sys2Proof.Machine.execAdd c rd rs1 rs2 s
  | .sub c rd rs1 rs2 => Sys2Proof.Machine.execSub c rd rs1 rs2 s
  | .and c rd rs1 rs2 => Sys2Proof.Machine.execAnd c rd rs1 rs2 s
  | .or c rd rs1 rs2 => Sys2Proof.Machine.execOr c rd rs1 rs2 s
  | .xor c rd rs1 rs2 => Sys2Proof.Machine.execXor c rd rs1 rs2 s
  | .sll c rd rs1 rs2 => Sys2Proof.Machine.execSll c rd rs1 rs2 s
  | .srl c rd rs1 rs2 => Sys2Proof.Machine.execSrl c rd rs1 rs2 s
  | .sra c rd rs1 rs2 => Sys2Proof.Machine.execSra c rd rs1 rs2 s
  | .slt c rd rs1 rs2 => Sys2Proof.Machine.execSlt c rd rs1 rs2 s
  | .sltu c rd rs1 rs2 => Sys2Proof.Machine.execSltu c rd rs1 rs2 s
  | .mul c rd rs1 rs2 => Sys2Proof.Machine.execMul c rd rs1 rs2 s
  | .mulh c rd rs1 rs2 => Sys2Proof.Machine.execMulh c rd rs1 rs2 s
  | .mulhu c rd rs1 rs2 => Sys2Proof.Machine.execMulhu c rd rs1 rs2 s
  | .mulhsu c rd rs1 rs2 => Sys2Proof.Machine.execMulhsu c rd rs1 rs2 s
  | .div c rd rs1 rs2 => Sys2Proof.Machine.execDiv c rd rs1 rs2 s
  | .divu c rd rs1 rs2 => Sys2Proof.Machine.execDivu c rd rs1 rs2 s
  | .rem c rd rs1 rs2 => Sys2Proof.Machine.execRem c rd rs1 rs2 s
  | .remu c rd rs1 rs2 => Sys2Proof.Machine.execRemu c rd rs1 rs2 s
  | .addi c rd rs1 imm => Sys2Proof.Machine.execAddi c rd rs1 imm s
  | .andi c rd rs1 imm => Sys2Proof.Machine.execAndi c rd rs1 imm s
  | .ori c rd rs1 imm => Sys2Proof.Machine.execOri c rd rs1 imm s
  | .xori c rd rs1 imm => Sys2Proof.Machine.execXori c rd rs1 imm s
  | .slti c rd rs1 imm => Sys2Proof.Machine.execSlti c rd rs1 imm s
  | .sltiu c rd rs1 imm => Sys2Proof.Machine.execSltiu c rd rs1 imm s
  | .slli c rd rs1 hi sh => Sys2Proof.Machine.execSlli c rd rs1 hi sh s
  | .srli c rd rs1 hi sh => Sys2Proof.Machine.execSrli c rd rs1 hi sh s
  | .srai c rd rs1 hi sh => Sys2Proof.Machine.execSrai c rd rs1 hi sh s
  | .movhi c rd imm => Sys2Proof.Machine.execMovhi c rd imm s
  | .csel c rd rs1 rs2 rs3 => Sys2Proof.Machine.execCsel c rd rs1 rs2 rs3 s
  | .lb c rt rs cs imm g => Sys2Proof.Machine.execLb c rt rs cs imm g s
  | .lbu c rt rs cs imm g => Sys2Proof.Machine.execLbu c rt rs cs imm g s
  | .lh c rt rs cs imm g => Sys2Proof.Machine.execLh c rt rs cs imm g s
  | .lhu c rt rs cs imm g => Sys2Proof.Machine.execLhu c rt rs cs imm g s
  | .lw c rt rs cs imm g => Sys2Proof.Machine.execLw c rt rs cs imm g s
  | .ldc c rt rs cs imm g => Sys2Proof.Machine.execLdc c rt rs cs imm g s
  | .lrw c rt rs cs imm g => Sys2Proof.Machine.execLrw c rt rs cs imm g s
  | .sb c rt rs cs imm g => Sys2Proof.Machine.execSb c rt rs cs imm g s
  | .sh c rt rs cs imm g => Sys2Proof.Machine.execSh c rt rs cs imm g s
  | .sw c rt rs cs imm g => Sys2Proof.Machine.execSw c rt rs cs imm g s
  | .stc c rt rs cs imm g => Sys2Proof.Machine.execStc c rt rs cs imm g s
  | .scw c rt rs cs imm g => Sys2Proof.Machine.execScw c rt rs cs imm g s
  | .beq c rs1 rs2 imm => Sys2Proof.Machine.execBeq c rs1 rs2 imm s
  | .bne c rs1 rs2 imm => Sys2Proof.Machine.execBne c rs1 rs2 imm s
  | .blt c rs1 rs2 imm => Sys2Proof.Machine.execBlt c rs1 rs2 imm s
  | .bge c rs1 rs2 imm => Sys2Proof.Machine.execBge c rs1 rs2 imm s
  | .bltu c rs1 rs2 imm => Sys2Proof.Machine.execBltu c rs1 rs2 imm s
  | .bgeu c rs1 rs2 imm => Sys2Proof.Machine.execBgeu c rs1 rs2 imm s
  | .jal c rd imm => Sys2Proof.Machine.execJal c rd imm s
  | .jalr c rd rs1 imm => Sys2Proof.Machine.execJalr c rd rs1 imm s
  | .cjalr c rd rs1 cs cd lc imm => Sys2Proof.Machine.execCjalr c rd rs1 cs cd lc imm s
  | .cmove c cd cs => Sys2Proof.Machine.execCmove c cd cs s
  | .cclrt c cd cs => Sys2Proof.Machine.execCclrt c cd cs s
  | .cbound c cd cs off len => Sys2Proof.Machine.execCbound c cd cs off len s
  | .candp c cd cs mask => Sys2Proof.Machine.execCandp c cd cs mask s
  | .cseal c cd cs ca type => Sys2Proof.Machine.execCseal c cd cs ca type s
  | .cunseal c cd cs ca => Sys2Proof.Machine.execCunseal c cd cs ca s
  | .cepoch c cd cs idx => Sys2Proof.Machine.execCepoch c cd cs idx s
  | .ldcapx c cd ws g => Sys2Proof.Machine.execLdcapx c cd ws g s
  | .cget c wd cs sel => Sys2Proof.Machine.execCget c wd cs sel s
  | .ebump c wd ws => Sys2Proof.Machine.execEbump c wd ws s
  | .esweep c wd ws => Sys2Proof.Machine.execEsweep c wd ws s
  | .sweepDone => Sys2Proof.Machine.execSweepDone s
  | .cpuCntClr ini c => Sys2Proof.Machine.execCpuCntClr ini c s
  | .chk c cs off size => Sys2Proof.Machine.execChk c cs off size s
  | .chki c cs off size => Sys2Proof.Machine.execChki c cs off size s
  | .chkr c idx lo hi => Sys2Proof.Machine.execChkr c idx lo hi s
  | .chkri c idx limit => Sys2Proof.Machine.execChkri c idx limit s
  | .wfi c => Sys2Proof.Machine.execWfi c s
  | .fence c => Sys2Proof.Machine.execFence c s
  | .fenceR c => Sys2Proof.Machine.execFenceR c s
  | .fenceI c => Sys2Proof.Machine.execFenceI c s
  | .trap c imm => Sys2Proof.Machine.execTrap c imm s
  | .tret c => Sys2Proof.Machine.execTret c s
  | .mfsr c rd imm => Sys2Proof.Machine.execMfsr c rd imm s
  | .mtsr c rs1 imm => Sys2Proof.Machine.execMtsr c rs1 imm s
  | .maskx c rd rs1 => Sys2Proof.Machine.execMaskx c rd rs1 s
  | .maski c rd imm => Sys2Proof.Machine.execMaski c rd imm s
  | .gate c rd cs => Sys2Proof.Machine.execGate c rd cs s
  | .ungate c rs1 => Sys2Proof.Machine.execUngate c rs1 s
  | .interruptEntry c => Sys2Proof.Machine.execInterruptEntry c s
  | .impreciseBusError c => Sys2Proof.Machine.execImpreciseBusError c s
  | .postedStoreError c => Sys2Proof.Machine.execPostedStoreError c s
  | .severeEvent c => Sys2Proof.Machine.execSevereEvent c s
  | .intcSwSet ini v => Sys2Proof.Machine.execIntcSwSet ini v s
  | .intcSwClr ini v => Sys2Proof.Machine.execIntcSwClr ini v s
  | .intcDeferClr ini => Sys2Proof.Machine.execIntcDeferClr ini s
  | .wdogEnable ini k v => Sys2Proof.Machine.execWdogEnable ini k v s
  | .wdogWarn k => Sys2Proof.Machine.execWdogWarn k s
  | .wdogExpire w0 w1 sw => Sys2Proof.Machine.execWdogExpire w0 w1 sw s
  | .feed ini k v => Sys2Proof.Machine.execFeed ini k v s
  | .gtEnable ini k v => Sys2Proof.Machine.execGtEnable ini k v s
  | .gtExpire k => Sys2Proof.Machine.execGtExpire k s
  | .gtStatClr ini k => Sys2Proof.Machine.execGtStatClr ini k s
  | .colBudgetExpire => Sys2Proof.Machine.execColBudgetExpire s
  | .colHoldoffExpire => Sys2Proof.Machine.execColHoldoffExpire s
  | .colCntClr ini => Sys2Proof.Machine.execColCntClr ini s
  | .memkeyLoad ini => Sys2Proof.Machine.execMemkeyLoad ini s
  | .cohRetry request => Sys2Proof.Machine.execCohRetry request s
  | .smpuRegionWrite ini ch n attr v => Sys2Proof.Machine.execSmpuRegionWrite ini ch n attr v s
  | .smpuSync ini v => Sys2Proof.Machine.execSmpuSync ini v s
  | .syncDone n => Sys2Proof.Machine.execSyncDone n s
  | .smpuCntClr ini => Sys2Proof.Machine.execSmpuCntClr ini s
  | .prog ini => Sys2Proof.Machine.execProg ini s
  | .erase ini => Sys2Proof.Machine.execErase ini s
  | .optProg ini => Sys2Proof.Machine.execOptProg ini s
  | .optErase ini => Sys2Proof.Machine.execOptErase ini s
  | .flashOpDone pulses verified => Sys2Proof.Machine.execFlashOpDone pulses verified s
  | .flcCntClr ini => Sys2Proof.Machine.execFlcCntClr ini s
  | .ledgerWriteDone passes verified => Sys2Proof.Machine.execLedgerWriteDone passes verified s
  | .cntRead ini n => Sys2Proof.Machine.execCntRead ini n s
  | .cntInc ini n => Sys2Proof.Machine.execCntInc ini n s
  | .cntRaise ini n => Sys2Proof.Machine.execCntRaise ini n s
  | .cntDone bad passes verified => Sys2Proof.Machine.execCntDone bad passes verified s
  | .logScan => Sys2Proof.Machine.execLogScan s
  | .ldgCntClr ini => Sys2Proof.Machine.execLdgCntClr ini s
  | .healthTestFail k rct apt => Sys2Proof.Machine.execHealthTestFail k rct apt s
  | .entRestart ini v => Sys2Proof.Machine.execEntRestart ini v s
  | .testNow ini v => Sys2Proof.Machine.execTestNow ini v s
  | .entTestDone fails => Sys2Proof.Machine.execEntTestDone fails s
  | .seedReady seed => Sys2Proof.Machine.execSeedReady seed s
  | .reseed => Sys2Proof.Machine.execReseed s
  | .entDataRead ini => Sys2Proof.Machine.execEntDataRead ini s
  | .entWaitTimeout => Sys2Proof.Machine.execEntWaitTimeout s
  | .aes g => Sys2Proof.Machine.execAes g s
  | .tdea g => Sys2Proof.Machine.execTdea g s
  | .hash g => Sys2Proof.Machine.execHash g s
  | .hmac g => Sys2Proof.Machine.execHmac g s
  | .ecdsaP256 g worn => Sys2Proof.Machine.execEcdsaP256 g worn s
  | .ed25519 g => Sys2Proof.Machine.execEd25519 g s
  | .ecdhP256 g worn => Sys2Proof.Machine.execEcdhP256 g worn s
  | .x25519 g worn => Sys2Proof.Machine.execX25519 g worn s
  | .keygen => Sys2Proof.Machine.execKeygen s
  | .derive g => Sys2Proof.Machine.execDerive g s
  | .wrap => Sys2Proof.Machine.execWrap s
  | .unwrap g => Sys2Proof.Machine.execUnwrap g s
  | .load g => Sys2Proof.Machine.execLoad g s
  | .zeroSlot => Sys2Proof.Machine.execZeroSlot s
  | .cpnHold => Sys2Proof.Machine.execCpnHold s
  | .cpnDrop => Sys2Proof.Machine.execCpnDrop s
  | .pkStepBoundary => Sys2Proof.Machine.execPkStepBoundary s
  | .cipherJobDone cycles g => Sys2Proof.Machine.execCipherJobDone cycles g s
  | .couponRefill => Sys2Proof.Machine.execCouponRefill s
  | .couponFilled worn => Sys2Proof.Machine.execCouponFilled worn s
  | .zeroise ini => Sys2Proof.Machine.execZeroise ini s
  | .cryCntClr ini => Sys2Proof.Machine.execCryCntClr ini s
  | .clocheDetect ds => Sys2Proof.Machine.execClocheDetect ds s
  | .clocheBurst reading ds => Sys2Proof.Machine.execClocheBurst reading ds s
  | .bistA ini v => Sys2Proof.Machine.execBistA ini v s
  | .bistB ini v => Sys2Proof.Machine.execBistB ini v s
  | .bistDone n twinB detected => Sys2Proof.Machine.execBistDone n twinB detected s
  | .cloRespWrite ini n v => Sys2Proof.Machine.execCloRespWrite ini n v s
  | .cloCntClr ini => Sys2Proof.Machine.execCloCntClr ini s
  | .enable ini n => Sys2Proof.Machine.execEnable ini n s
  | .pause ini n => Sys2Proof.Machine.execPause ini n s
  | .resume ini n => Sys2Proof.Machine.execResume ini n s
  | .disable ini n => Sys2Proof.Machine.execDisable ini n s
  | .clrcnt ini n => Sys2Proof.Machine.execClrcnt ini n s
  | .ringPaused n => Sys2Proof.Machine.execRingPaused n s
  | .idxWrite ini n v => Sys2Proof.Machine.execIdxWrite ini n v s
  | .ringCfgWrite ini n which v => Sys2Proof.Machine.execRingCfgWrite ini n which v s
  | .descriptorService aged g worn => Sys2Proof.Machine.execDescriptorService aged g worn s
  | .descriptorComplete g => Sys2Proof.Machine.execDescriptorComplete g s
  | .groupHoldoffExpire g => Sys2Proof.Machine.execGroupHoldoffExpire g s
  | .gstatAck ini g => Sys2Proof.Machine.execGstatAck ini g s
  | .trlCntClr ini => Sys2Proof.Machine.execTrlCntClr ini s
  | .frameClassify => Sys2Proof.Machine.execFrameClassify s
  | .write ini => Sys2Proof.Machine.execWrite ini s
  | .read ini => Sys2Proof.Machine.execRead ini s
  | .ruleDisable ini => Sys2Proof.Machine.execRuleDisable ini s
  | .dfltWrite ini k v => Sys2Proof.Machine.execDfltWrite ini k v s
  | .rdlCntClr ini => Sys2Proof.Machine.execRdlCntClr ini s
  | .sieveDecide => Sys2Proof.Machine.execSieveDecide s
  | .sieveAgeExpire => Sys2Proof.Machine.execSieveAgeExpire s
  | .sieveHandoff => Sys2Proof.Machine.execSieveHandoff s
  | .svCntClr ini => Sys2Proof.Machine.execSvCntClr ini s
  | .ethRxFrame p bytes whole rxer ticks => Sys2Proof.Machine.execEthRxFrame p bytes whole rxer ticks s
  | .ethTxFrame p => Sys2Proof.Machine.execEthTxFrame p s
  | .refclkLost p rxing txing => Sys2Proof.Machine.execRefclkLost p rxing txing s
  | .refclkReturn p => Sys2Proof.Machine.execRefclkReturn p s
  | .mdioCmd ini v => Sys2Proof.Machine.execMdioCmd ini v s
  | .mdioDone data ack => Sys2Proof.Machine.execMdioDone data ack s
  | .linkPoll p r => Sys2Proof.Machine.execLinkPoll p r s
  | .ethCntClr ini port => Sys2Proof.Machine.execEthCntClr ini port s
  | .rlWake => Sys2Proof.Machine.execRlWake s
  | .rlRxFrame bytes whole ticks => Sys2Proof.Machine.execRlRxFrame bytes whole ticks s
  | .rlTxArm => Sys2Proof.Machine.execRlTxArm s
  | .slotWindowTest => Sys2Proof.Machine.execSlotWindowTest s
  | .rlTxEnd => Sys2Proof.Machine.execRlTxEnd s
  | .wClose => Sys2Proof.Machine.execWClose s
  | .rlClkLost => Sys2Proof.Machine.execRlClkLost s
  | .referenceExpire => Sys2Proof.Machine.execReferenceExpire s
  | .rlpCntClr ini => Sys2Proof.Machine.execRlpCntClr ini s
  | .cartridgeInsert => Sys2Proof.Machine.execCartridgeInsert s
  | .cartridgeRemove r g => Sys2Proof.Machine.execCartridgeRemove r g s
  | .gcbPwrOn ini v => Sys2Proof.Machine.execGcbPwrOn ini v s
  | .gcbPwrOff ini v => Sys2Proof.Machine.execGcbPwrOff ini v s
  | .gcbPowerReady => Sys2Proof.Machine.execGcbPowerReady s
  | .gcbResume ini v => Sys2Proof.Machine.execGcbResume ini v s
  | .ocClr ini v => Sys2Proof.Machine.execOcClr ini v s
  | .cartReset => Sys2Proof.Machine.execCartReset s
  | .hello => Sys2Proof.Machine.execHello s
  | .helloRetry => Sys2Proof.Machine.execHelloRetry s
  | .setBus => Sys2Proof.Machine.execSetBus s
  | .readId => Sys2Proof.Machine.execReadId s
  | .cartStatus => Sys2Proof.Machine.execCartStatus s
  | .setCount => Sys2Proof.Machine.execSetCount s
  | .readSingle => Sys2Proof.Machine.execReadSingle s
  | .readMulti => Sys2Proof.Machine.execReadMulti s
  | .writeSingle => Sys2Proof.Machine.execWriteSingle s
  | .writeMulti => Sys2Proof.Machine.execWriteMulti s
  | .cartStop => Sys2Proof.Machine.execCartStop s
  | .rpaRequest => Sys2Proof.Machine.execRpaRequest s
  | .rpaResult => Sys2Proof.Machine.execRpaResult s
  | .lockCtrl => Sys2Proof.Machine.execLockCtrl s
  | .cartResponse r g => Sys2Proof.Machine.execCartResponse r g s
  | .cartBusyEnd => Sys2Proof.Machine.execCartBusyEnd s
  | .cartTimeout r g => Sys2Proof.Machine.execCartTimeout r g s
  | .gcbCntClr ini => Sys2Proof.Machine.execGcbCntClr ini s
  | .status op mode3 => Sys2Proof.Machine.execStatus op mode3 s
  | .msgWrite quad mode3 body g => Sys2Proof.Machine.execMsgWrite quad mode3 body g s
  | .msgRead quad mode3 body missing g => Sys2Proof.Machine.execMsgRead quad mode3 body missing g s
  | .msgAck quad mode3 body => Sys2Proof.Machine.execMsgAck quad mode3 body s
  | .irqClr mode3 body => Sys2Proof.Machine.execIrqClr mode3 body s
  | .doorbell ini => Sys2Proof.Machine.execDoorbell ini s
  | .hlkCntClr ini => Sys2Proof.Machine.execHlkCntClr ini s
  | .mgpWrite bytes => Sys2Proof.Machine.execMgpWrite bytes s
  | .mgpRead pos k => Sys2Proof.Machine.execMgpRead pos k s
  | .mgpTimeout => Sys2Proof.Machine.execMgpTimeout s
  | .sysReset => Sys2Proof.Machine.execSysReset s
  | .rstpinMask => Sys2Proof.Machine.execRstpinMask s
  | .retire => Sys2Proof.Machine.execRetire s
  | .openSession => Sys2Proof.Machine.execOpen s
  | .closeSession => Sys2Proof.Machine.execClose s
  | .mgpSessionExpire => Sys2Proof.Machine.execMgpSessionExpire s
  | .mgpBackoffEnd => Sys2Proof.Machine.execMgpBackoffEnd s
  | .mkeyLoad ini v => Sys2Proof.Machine.execMkeyLoad ini v s
  | .inPost v => Sys2Proof.Machine.execInPost v s
  | .take ini => Sys2Proof.Machine.execTake ini s
  | .mboutPost ini len => Sys2Proof.Machine.execMboutPost ini len s
  | .outAck v => Sys2Proof.Machine.execOutAck v s
  | .alertClr ini v => Sys2Proof.Machine.execAlertClr ini v s
  | .alertFw ini => Sys2Proof.Machine.execAlertFw ini s
  | .mcGo ini v free => Sys2Proof.Machine.execMcGo ini v free s
  | .mcRetry => Sys2Proof.Machine.execMcRetry s
  | .mcDone e => Sys2Proof.Machine.execMcDone e s
  | .mgpCntClr ini => Sys2Proof.Machine.execMgpCntClr ini s
  | .fire ini => Sys2Proof.Machine.execFire ini s
  | .snapFiring => Sys2Proof.Machine.execSnapFiring s
  | .snapMergedFire => Sys2Proof.Machine.execSnapMergedFire s
  | .snapCfgWrite ini p v => Sys2Proof.Machine.execSnapCfgWrite ini p v s
  | .monSample p v => Sys2Proof.Machine.execMonSample p v s
  | .monClear ini p select v => Sys2Proof.Machine.execMonClear ini p select v s
  | .logWrite passes verified => Sys2Proof.Machine.execLogWrite passes verified s
  | .logWr1 ini v => Sys2Proof.Machine.execLogWr1 ini v s
  | .traceRecordWrite => Sys2Proof.Machine.execTraceRecordWrite s
  | .swrec ini v => Sys2Proof.Machine.execSwrec ini v s
  | .trcClr ini v => Sys2Proof.Machine.execTrcClr ini v s
  | .trcClrDone => Sys2Proof.Machine.execTrcClrDone s
  | .testPinChange high => Sys2Proof.Machine.execTestPinChange high s
  | .rlWakeFall => Sys2Proof.Machine.execRlWakeFall s
  | .mcBusFree => Sys2Proof.Machine.execMcBusFree s
  | .clocheTempSample reading => Sys2Proof.Machine.execClocheTempSample reading s
  | .clocheGeneratorReseed => Sys2Proof.Machine.execClocheGeneratorReseed s
  | .jitterDrbgRequest c => Sys2Proof.Machine.execJitterDrbgRequest c s
  | .vbatOkChange ok => Sys2Proof.Machine.execVbatOkChange ok s
  | .couponPoolScan => Sys2Proof.Machine.execCouponPoolScan s
  | .reservedOpcode c word => Sys2Proof.Machine.execReservedOpcode c word s
  | .fetchFault c => Sys2Proof.Machine.execFetchFault c s

end Sys2Proof.Machine
end

