-- ==== Sys2Proof/Laws/State.lean ====
section
/-!
SUPPORT. What each basic update of the state leaves alone: one lemma per field and update, so that no proof unfolds a record update.
-/
namespace Sys2Proof.Machine
open Sys2Proof

@[simp] theorem State.setReg_pending (s : State) (a : Nat) (w : Word) : (s.setReg a w).pending = s.pending := rfl
@[simp] theorem State.setReg_lockKeys (s : State) (a : Nat) (w : Word) : (s.setReg a w).lockKeys = s.lockKeys := rfl
@[simp] theorem State.setReg_mem (s : State) (a : Nat) (w : Word) : (s.setReg a w).mem = s.mem := rfl
@[simp] theorem State.setReg_tags (s : State) (a : Nat) (w : Word) : (s.setReg a w).tags = s.tags := rfl
@[simp] theorem State.setReg_rowInit (s : State) (a : Nat) (w : Word) : (s.setReg a w).rowInit = s.rowInit := rfl
@[simp] theorem State.setReg_memKeys (s : State) (a : Nat) (w : Word) : (s.setReg a w).memKeys = s.memKeys := rfl
@[simp] theorem State.setReg_core0 (s : State) (a : Nat) (w : Word) : (s.setReg a w).core0 = s.core0 := rfl
@[simp] theorem State.setReg_core1 (s : State) (a : Nat) (w : Word) : (s.setReg a w).core1 = s.core1 := rfl
@[simp] theorem State.setReg_epochs (s : State) (a : Nat) (w : Word) : (s.setReg a w).epochs = s.epochs := rfl
@[simp] theorem State.setReg_sweepDone (s : State) (a : Nat) (w : Word) : (s.setReg a w).sweepDone = s.sweepDone := rfl
@[simp] theorem State.setReg_gpio (s : State) (a : Nat) (w : Word) : (s.setReg a w).gpio = s.gpio := rfl
@[simp] theorem State.setReg_fab (s : State) (a : Nat) (w : Word) : (s.setReg a w).fab = s.fab := rfl
@[simp] theorem State.setReg_cloSecond (s : State) (a : Nat) (w : Word) : (s.setReg a w).cloSecond = s.cloSecond := rfl
@[simp] theorem State.setReg_cloWait (s : State) (a : Nat) (w : Word) : (s.setReg a w).cloWait = s.cloWait := rfl
@[simp] theorem State.setReg_sweep (s : State) (a : Nat) (w : Word) : (s.setReg a w).sweep = s.sweep := rfl
@[simp] theorem State.setReg_sweepLast (s : State) (a : Nat) (w : Word) : (s.setReg a w).sweepLast = s.sweepLast := rfl
@[simp] theorem State.setReg_col (s : State) (a : Nat) (w : Word) : (s.setReg a w).col = s.col := rfl
@[simp] theorem State.setReg_trlLines (s : State) (a : Nat) (w : Word) : (s.setReg a w).trlLines = s.trlLines := rfl
@[simp] theorem State.setReg_mpuActive (s : State) (a : Nat) (w : Word) : (s.setReg a w).mpuActive = s.mpuActive := rfl
@[simp] theorem State.setReg_intcSample (s : State) (a : Nat) (w : Word) : (s.setReg a w).intcSample = s.intcSample := rfl
@[simp] theorem State.setReg_aon (s : State) (a : Nat) (w : Word) : (s.setReg a w).aon = s.aon := rfl
@[simp] theorem State.setReg_flash (s : State) (a : Nat) (w : Word) : (s.setReg a w).flash = s.flash := rfl
@[simp] theorem State.setReg_ldg (s : State) (a : Nat) (w : Word) : (s.setReg a w).ldg = s.ldg := rfl
@[simp] theorem State.setReg_lc (s : State) (a : Nat) (w : Word) : (s.setReg a w).lc = s.lc := rfl
@[simp] theorem State.setReg_slots (s : State) (a : Nat) (w : Word) : (s.setReg a w).slots = s.slots := rfl
@[simp] theorem State.setReg_ent (s : State) (a : Nat) (w : Word) : (s.setReg a w).ent = s.ent := rfl
@[simp] theorem State.setReg_cry (s : State) (a : Nat) (w : Word) : (s.setReg a w).cry = s.cry := rfl
@[simp] theorem State.setReg_trl (s : State) (a : Nat) (w : Word) : (s.setReg a w).trl = s.trl := rfl
@[simp] theorem State.setReg_rules (s : State) (a : Nat) (w : Word) : (s.setReg a w).rules = s.rules := rfl
@[simp] theorem State.setReg_rin (s : State) (a : Nat) (w : Word) : (s.setReg a w).rin = s.rin := rfl
@[simp] theorem State.setReg_eth0 (s : State) (a : Nat) (w : Word) : (s.setReg a w).eth0 = s.eth0 := rfl
@[simp] theorem State.setReg_eth1 (s : State) (a : Nat) (w : Word) : (s.setReg a w).eth1 = s.eth1 := rfl
@[simp] theorem State.setReg_mdio (s : State) (a : Nat) (w : Word) : (s.setReg a w).mdio = s.mdio := rfl
@[simp] theorem State.setReg_radio (s : State) (a : Nat) (w : Word) : (s.setReg a w).radio = s.radio := rfl
@[simp] theorem State.setReg_sieve (s : State) (a : Nat) (w : Word) : (s.setReg a w).sieve = s.sieve := rfl
@[simp] theorem State.setReg_gcb (s : State) (a : Nat) (w : Word) : (s.setReg a w).gcb = s.gcb := rfl
@[simp] theorem State.setReg_hlkUnderrun (s : State) (a : Nat) (w : Word) : (s.setReg a w).hlkUnderrun = s.hlkUnderrun := rfl
@[simp] theorem State.setReg_mgp (s : State) (a : Nat) (w : Word) : (s.setReg a w).mgp = s.mgp := rfl
@[simp] theorem State.setReg_prb (s : State) (a : Nat) (w : Word) : (s.setReg a w).prb = s.prb := rfl
@[simp] theorem State.setReg_adc (s : State) (a : Nat) (w : Word) : (s.setReg a w).adc = s.adc := rfl
@[simp] theorem State.setReg_logQueue (s : State) (a : Nat) (w : Word) : (s.setReg a w).logQueue = s.logQueue := rfl
@[simp] theorem State.setReg_logLoss (s : State) (a : Nat) (w : Word) : (s.setReg a w).logLoss = s.logLoss := rfl
@[simp] theorem State.setReg_trcFifo (s : State) (a : Nat) (w : Word) : (s.setReg a w).trcFifo = s.trcFifo := rfl
@[simp] theorem State.setReg_trcLost (s : State) (a : Nat) (w : Word) : (s.setReg a w).trcLost = s.trcLost := rfl
@[simp] theorem State.setReg_cloReport (s : State) (a : Nat) (w : Word) : (s.setReg a w).cloReport = s.cloReport := rfl
@[simp] theorem State.setReg_cloGen (s : State) (a : Nat) (w : Word) : (s.setReg a w).cloGen = s.cloGen := rfl
@[simp] theorem State.setReg_resp (s : State) (a : Nat) (w : Word) : (s.setReg a w).resp = s.resp := rfl
@[simp] theorem State.setReg_fresh (s : State) (a : Nat) (w : Word) : (s.setReg a w).fresh = s.fresh := rfl

@[simp] theorem State.put_pending (s : State) (f : Fld) (v : Nat) : (s.put f v).pending = s.pending := rfl
@[simp] theorem State.put_lockKeys (s : State) (f : Fld) (v : Nat) : (s.put f v).lockKeys = s.lockKeys := rfl
@[simp] theorem State.put_mem (s : State) (f : Fld) (v : Nat) : (s.put f v).mem = s.mem := rfl
@[simp] theorem State.put_tags (s : State) (f : Fld) (v : Nat) : (s.put f v).tags = s.tags := rfl
@[simp] theorem State.put_rowInit (s : State) (f : Fld) (v : Nat) : (s.put f v).rowInit = s.rowInit := rfl
@[simp] theorem State.put_memKeys (s : State) (f : Fld) (v : Nat) : (s.put f v).memKeys = s.memKeys := rfl
@[simp] theorem State.put_core0 (s : State) (f : Fld) (v : Nat) : (s.put f v).core0 = s.core0 := rfl
@[simp] theorem State.put_core1 (s : State) (f : Fld) (v : Nat) : (s.put f v).core1 = s.core1 := rfl
@[simp] theorem State.put_epochs (s : State) (f : Fld) (v : Nat) : (s.put f v).epochs = s.epochs := rfl
@[simp] theorem State.put_sweepDone (s : State) (f : Fld) (v : Nat) : (s.put f v).sweepDone = s.sweepDone := rfl
@[simp] theorem State.put_gpio (s : State) (f : Fld) (v : Nat) : (s.put f v).gpio = s.gpio := rfl
@[simp] theorem State.put_fab (s : State) (f : Fld) (v : Nat) : (s.put f v).fab = s.fab := rfl
@[simp] theorem State.put_cloSecond (s : State) (f : Fld) (v : Nat) : (s.put f v).cloSecond = s.cloSecond := rfl
@[simp] theorem State.put_cloWait (s : State) (f : Fld) (v : Nat) : (s.put f v).cloWait = s.cloWait := rfl
@[simp] theorem State.put_sweep (s : State) (f : Fld) (v : Nat) : (s.put f v).sweep = s.sweep := rfl
@[simp] theorem State.put_sweepLast (s : State) (f : Fld) (v : Nat) : (s.put f v).sweepLast = s.sweepLast := rfl
@[simp] theorem State.put_col (s : State) (f : Fld) (v : Nat) : (s.put f v).col = s.col := rfl
@[simp] theorem State.put_trlLines (s : State) (f : Fld) (v : Nat) : (s.put f v).trlLines = s.trlLines := rfl
@[simp] theorem State.put_mpuActive (s : State) (f : Fld) (v : Nat) : (s.put f v).mpuActive = s.mpuActive := rfl
@[simp] theorem State.put_intcSample (s : State) (f : Fld) (v : Nat) : (s.put f v).intcSample = s.intcSample := rfl
@[simp] theorem State.put_aon (s : State) (f : Fld) (v : Nat) : (s.put f v).aon = s.aon := rfl
@[simp] theorem State.put_flash (s : State) (f : Fld) (v : Nat) : (s.put f v).flash = s.flash := rfl
@[simp] theorem State.put_ldg (s : State) (f : Fld) (v : Nat) : (s.put f v).ldg = s.ldg := rfl
@[simp] theorem State.put_lc (s : State) (f : Fld) (v : Nat) : (s.put f v).lc = s.lc := rfl
@[simp] theorem State.put_slots (s : State) (f : Fld) (v : Nat) : (s.put f v).slots = s.slots := rfl
@[simp] theorem State.put_ent (s : State) (f : Fld) (v : Nat) : (s.put f v).ent = s.ent := rfl
@[simp] theorem State.put_cry (s : State) (f : Fld) (v : Nat) : (s.put f v).cry = s.cry := rfl
@[simp] theorem State.put_trl (s : State) (f : Fld) (v : Nat) : (s.put f v).trl = s.trl := rfl
@[simp] theorem State.put_rules (s : State) (f : Fld) (v : Nat) : (s.put f v).rules = s.rules := rfl
@[simp] theorem State.put_rin (s : State) (f : Fld) (v : Nat) : (s.put f v).rin = s.rin := rfl
@[simp] theorem State.put_eth0 (s : State) (f : Fld) (v : Nat) : (s.put f v).eth0 = s.eth0 := rfl
@[simp] theorem State.put_eth1 (s : State) (f : Fld) (v : Nat) : (s.put f v).eth1 = s.eth1 := rfl
@[simp] theorem State.put_mdio (s : State) (f : Fld) (v : Nat) : (s.put f v).mdio = s.mdio := rfl
@[simp] theorem State.put_radio (s : State) (f : Fld) (v : Nat) : (s.put f v).radio = s.radio := rfl
@[simp] theorem State.put_sieve (s : State) (f : Fld) (v : Nat) : (s.put f v).sieve = s.sieve := rfl
@[simp] theorem State.put_gcb (s : State) (f : Fld) (v : Nat) : (s.put f v).gcb = s.gcb := rfl
@[simp] theorem State.put_hlkUnderrun (s : State) (f : Fld) (v : Nat) : (s.put f v).hlkUnderrun = s.hlkUnderrun := rfl
@[simp] theorem State.put_mgp (s : State) (f : Fld) (v : Nat) : (s.put f v).mgp = s.mgp := rfl
@[simp] theorem State.put_prb (s : State) (f : Fld) (v : Nat) : (s.put f v).prb = s.prb := rfl
@[simp] theorem State.put_adc (s : State) (f : Fld) (v : Nat) : (s.put f v).adc = s.adc := rfl
@[simp] theorem State.put_logQueue (s : State) (f : Fld) (v : Nat) : (s.put f v).logQueue = s.logQueue := rfl
@[simp] theorem State.put_logLoss (s : State) (f : Fld) (v : Nat) : (s.put f v).logLoss = s.logLoss := rfl
@[simp] theorem State.put_trcFifo (s : State) (f : Fld) (v : Nat) : (s.put f v).trcFifo = s.trcFifo := rfl
@[simp] theorem State.put_trcLost (s : State) (f : Fld) (v : Nat) : (s.put f v).trcLost = s.trcLost := rfl
@[simp] theorem State.put_cloReport (s : State) (f : Fld) (v : Nat) : (s.put f v).cloReport = s.cloReport := rfl
@[simp] theorem State.put_cloGen (s : State) (f : Fld) (v : Nat) : (s.put f v).cloGen = s.cloGen := rfl
@[simp] theorem State.put_resp (s : State) (f : Fld) (v : Nat) : (s.put f v).resp = s.resp := rfl
@[simp] theorem State.put_fresh (s : State) (f : Fld) (v : Nat) : (s.put f v).fresh = s.fresh := rfl

@[simp] theorem State.putB_pending (s : State) (f : Fld) (b : Bool) : (s.putB f b).pending = s.pending := rfl
@[simp] theorem State.putB_lockKeys (s : State) (f : Fld) (b : Bool) : (s.putB f b).lockKeys = s.lockKeys := rfl
@[simp] theorem State.putB_mem (s : State) (f : Fld) (b : Bool) : (s.putB f b).mem = s.mem := rfl
@[simp] theorem State.putB_tags (s : State) (f : Fld) (b : Bool) : (s.putB f b).tags = s.tags := rfl
@[simp] theorem State.putB_rowInit (s : State) (f : Fld) (b : Bool) : (s.putB f b).rowInit = s.rowInit := rfl
@[simp] theorem State.putB_memKeys (s : State) (f : Fld) (b : Bool) : (s.putB f b).memKeys = s.memKeys := rfl
@[simp] theorem State.putB_core0 (s : State) (f : Fld) (b : Bool) : (s.putB f b).core0 = s.core0 := rfl
@[simp] theorem State.putB_core1 (s : State) (f : Fld) (b : Bool) : (s.putB f b).core1 = s.core1 := rfl
@[simp] theorem State.putB_epochs (s : State) (f : Fld) (b : Bool) : (s.putB f b).epochs = s.epochs := rfl
@[simp] theorem State.putB_sweepDone (s : State) (f : Fld) (b : Bool) : (s.putB f b).sweepDone = s.sweepDone := rfl
@[simp] theorem State.putB_gpio (s : State) (f : Fld) (b : Bool) : (s.putB f b).gpio = s.gpio := rfl
@[simp] theorem State.putB_fab (s : State) (f : Fld) (b : Bool) : (s.putB f b).fab = s.fab := rfl
@[simp] theorem State.putB_cloSecond (s : State) (f : Fld) (b : Bool) : (s.putB f b).cloSecond = s.cloSecond := rfl
@[simp] theorem State.putB_cloWait (s : State) (f : Fld) (b : Bool) : (s.putB f b).cloWait = s.cloWait := rfl
@[simp] theorem State.putB_sweep (s : State) (f : Fld) (b : Bool) : (s.putB f b).sweep = s.sweep := rfl
@[simp] theorem State.putB_sweepLast (s : State) (f : Fld) (b : Bool) : (s.putB f b).sweepLast = s.sweepLast := rfl
@[simp] theorem State.putB_col (s : State) (f : Fld) (b : Bool) : (s.putB f b).col = s.col := rfl
@[simp] theorem State.putB_trlLines (s : State) (f : Fld) (b : Bool) : (s.putB f b).trlLines = s.trlLines := rfl
@[simp] theorem State.putB_mpuActive (s : State) (f : Fld) (b : Bool) : (s.putB f b).mpuActive = s.mpuActive := rfl
@[simp] theorem State.putB_intcSample (s : State) (f : Fld) (b : Bool) : (s.putB f b).intcSample = s.intcSample := rfl
@[simp] theorem State.putB_aon (s : State) (f : Fld) (b : Bool) : (s.putB f b).aon = s.aon := rfl
@[simp] theorem State.putB_flash (s : State) (f : Fld) (b : Bool) : (s.putB f b).flash = s.flash := rfl
@[simp] theorem State.putB_ldg (s : State) (f : Fld) (b : Bool) : (s.putB f b).ldg = s.ldg := rfl
@[simp] theorem State.putB_lc (s : State) (f : Fld) (b : Bool) : (s.putB f b).lc = s.lc := rfl
@[simp] theorem State.putB_slots (s : State) (f : Fld) (b : Bool) : (s.putB f b).slots = s.slots := rfl
@[simp] theorem State.putB_ent (s : State) (f : Fld) (b : Bool) : (s.putB f b).ent = s.ent := rfl
@[simp] theorem State.putB_cry (s : State) (f : Fld) (b : Bool) : (s.putB f b).cry = s.cry := rfl
@[simp] theorem State.putB_trl (s : State) (f : Fld) (b : Bool) : (s.putB f b).trl = s.trl := rfl
@[simp] theorem State.putB_rules (s : State) (f : Fld) (b : Bool) : (s.putB f b).rules = s.rules := rfl
@[simp] theorem State.putB_rin (s : State) (f : Fld) (b : Bool) : (s.putB f b).rin = s.rin := rfl
@[simp] theorem State.putB_eth0 (s : State) (f : Fld) (b : Bool) : (s.putB f b).eth0 = s.eth0 := rfl
@[simp] theorem State.putB_eth1 (s : State) (f : Fld) (b : Bool) : (s.putB f b).eth1 = s.eth1 := rfl
@[simp] theorem State.putB_mdio (s : State) (f : Fld) (b : Bool) : (s.putB f b).mdio = s.mdio := rfl
@[simp] theorem State.putB_radio (s : State) (f : Fld) (b : Bool) : (s.putB f b).radio = s.radio := rfl
@[simp] theorem State.putB_sieve (s : State) (f : Fld) (b : Bool) : (s.putB f b).sieve = s.sieve := rfl
@[simp] theorem State.putB_gcb (s : State) (f : Fld) (b : Bool) : (s.putB f b).gcb = s.gcb := rfl
@[simp] theorem State.putB_hlkUnderrun (s : State) (f : Fld) (b : Bool) : (s.putB f b).hlkUnderrun = s.hlkUnderrun := rfl
@[simp] theorem State.putB_mgp (s : State) (f : Fld) (b : Bool) : (s.putB f b).mgp = s.mgp := rfl
@[simp] theorem State.putB_prb (s : State) (f : Fld) (b : Bool) : (s.putB f b).prb = s.prb := rfl
@[simp] theorem State.putB_adc (s : State) (f : Fld) (b : Bool) : (s.putB f b).adc = s.adc := rfl
@[simp] theorem State.putB_logQueue (s : State) (f : Fld) (b : Bool) : (s.putB f b).logQueue = s.logQueue := rfl
@[simp] theorem State.putB_logLoss (s : State) (f : Fld) (b : Bool) : (s.putB f b).logLoss = s.logLoss := rfl
@[simp] theorem State.putB_trcFifo (s : State) (f : Fld) (b : Bool) : (s.putB f b).trcFifo = s.trcFifo := rfl
@[simp] theorem State.putB_trcLost (s : State) (f : Fld) (b : Bool) : (s.putB f b).trcLost = s.trcLost := rfl
@[simp] theorem State.putB_cloReport (s : State) (f : Fld) (b : Bool) : (s.putB f b).cloReport = s.cloReport := rfl
@[simp] theorem State.putB_cloGen (s : State) (f : Fld) (b : Bool) : (s.putB f b).cloGen = s.cloGen := rfl
@[simp] theorem State.putB_resp (s : State) (f : Fld) (b : Bool) : (s.putB f b).resp = s.resp := rfl
@[simp] theorem State.putB_fresh (s : State) (f : Fld) (b : Bool) : (s.putB f b).fresh = s.fresh := rfl

@[simp] theorem State.addSat_pending (s : State) (f : Fld) (k : Nat) : (s.addSat f k).pending = s.pending := rfl
@[simp] theorem State.addSat_lockKeys (s : State) (f : Fld) (k : Nat) : (s.addSat f k).lockKeys = s.lockKeys := rfl
@[simp] theorem State.addSat_mem (s : State) (f : Fld) (k : Nat) : (s.addSat f k).mem = s.mem := rfl
@[simp] theorem State.addSat_tags (s : State) (f : Fld) (k : Nat) : (s.addSat f k).tags = s.tags := rfl
@[simp] theorem State.addSat_rowInit (s : State) (f : Fld) (k : Nat) : (s.addSat f k).rowInit = s.rowInit := rfl
@[simp] theorem State.addSat_memKeys (s : State) (f : Fld) (k : Nat) : (s.addSat f k).memKeys = s.memKeys := rfl
@[simp] theorem State.addSat_core0 (s : State) (f : Fld) (k : Nat) : (s.addSat f k).core0 = s.core0 := rfl
@[simp] theorem State.addSat_core1 (s : State) (f : Fld) (k : Nat) : (s.addSat f k).core1 = s.core1 := rfl
@[simp] theorem State.addSat_epochs (s : State) (f : Fld) (k : Nat) : (s.addSat f k).epochs = s.epochs := rfl
@[simp] theorem State.addSat_sweepDone (s : State) (f : Fld) (k : Nat) : (s.addSat f k).sweepDone = s.sweepDone := rfl
@[simp] theorem State.addSat_gpio (s : State) (f : Fld) (k : Nat) : (s.addSat f k).gpio = s.gpio := rfl
@[simp] theorem State.addSat_fab (s : State) (f : Fld) (k : Nat) : (s.addSat f k).fab = s.fab := rfl
@[simp] theorem State.addSat_cloSecond (s : State) (f : Fld) (k : Nat) : (s.addSat f k).cloSecond = s.cloSecond := rfl
@[simp] theorem State.addSat_cloWait (s : State) (f : Fld) (k : Nat) : (s.addSat f k).cloWait = s.cloWait := rfl
@[simp] theorem State.addSat_sweep (s : State) (f : Fld) (k : Nat) : (s.addSat f k).sweep = s.sweep := rfl
@[simp] theorem State.addSat_sweepLast (s : State) (f : Fld) (k : Nat) : (s.addSat f k).sweepLast = s.sweepLast := rfl
@[simp] theorem State.addSat_col (s : State) (f : Fld) (k : Nat) : (s.addSat f k).col = s.col := rfl
@[simp] theorem State.addSat_trlLines (s : State) (f : Fld) (k : Nat) : (s.addSat f k).trlLines = s.trlLines := rfl
@[simp] theorem State.addSat_mpuActive (s : State) (f : Fld) (k : Nat) : (s.addSat f k).mpuActive = s.mpuActive := rfl
@[simp] theorem State.addSat_intcSample (s : State) (f : Fld) (k : Nat) : (s.addSat f k).intcSample = s.intcSample := rfl
@[simp] theorem State.addSat_aon (s : State) (f : Fld) (k : Nat) : (s.addSat f k).aon = s.aon := rfl
@[simp] theorem State.addSat_flash (s : State) (f : Fld) (k : Nat) : (s.addSat f k).flash = s.flash := rfl
@[simp] theorem State.addSat_ldg (s : State) (f : Fld) (k : Nat) : (s.addSat f k).ldg = s.ldg := rfl
@[simp] theorem State.addSat_lc (s : State) (f : Fld) (k : Nat) : (s.addSat f k).lc = s.lc := rfl
@[simp] theorem State.addSat_slots (s : State) (f : Fld) (k : Nat) : (s.addSat f k).slots = s.slots := rfl
@[simp] theorem State.addSat_ent (s : State) (f : Fld) (k : Nat) : (s.addSat f k).ent = s.ent := rfl
@[simp] theorem State.addSat_cry (s : State) (f : Fld) (k : Nat) : (s.addSat f k).cry = s.cry := rfl
@[simp] theorem State.addSat_trl (s : State) (f : Fld) (k : Nat) : (s.addSat f k).trl = s.trl := rfl
@[simp] theorem State.addSat_rules (s : State) (f : Fld) (k : Nat) : (s.addSat f k).rules = s.rules := rfl
@[simp] theorem State.addSat_rin (s : State) (f : Fld) (k : Nat) : (s.addSat f k).rin = s.rin := rfl
@[simp] theorem State.addSat_eth0 (s : State) (f : Fld) (k : Nat) : (s.addSat f k).eth0 = s.eth0 := rfl
@[simp] theorem State.addSat_eth1 (s : State) (f : Fld) (k : Nat) : (s.addSat f k).eth1 = s.eth1 := rfl
@[simp] theorem State.addSat_mdio (s : State) (f : Fld) (k : Nat) : (s.addSat f k).mdio = s.mdio := rfl
@[simp] theorem State.addSat_radio (s : State) (f : Fld) (k : Nat) : (s.addSat f k).radio = s.radio := rfl
@[simp] theorem State.addSat_sieve (s : State) (f : Fld) (k : Nat) : (s.addSat f k).sieve = s.sieve := rfl
@[simp] theorem State.addSat_gcb (s : State) (f : Fld) (k : Nat) : (s.addSat f k).gcb = s.gcb := rfl
@[simp] theorem State.addSat_hlkUnderrun (s : State) (f : Fld) (k : Nat) : (s.addSat f k).hlkUnderrun = s.hlkUnderrun := rfl
@[simp] theorem State.addSat_mgp (s : State) (f : Fld) (k : Nat) : (s.addSat f k).mgp = s.mgp := rfl
@[simp] theorem State.addSat_prb (s : State) (f : Fld) (k : Nat) : (s.addSat f k).prb = s.prb := rfl
@[simp] theorem State.addSat_adc (s : State) (f : Fld) (k : Nat) : (s.addSat f k).adc = s.adc := rfl
@[simp] theorem State.addSat_logQueue (s : State) (f : Fld) (k : Nat) : (s.addSat f k).logQueue = s.logQueue := rfl
@[simp] theorem State.addSat_logLoss (s : State) (f : Fld) (k : Nat) : (s.addSat f k).logLoss = s.logLoss := rfl
@[simp] theorem State.addSat_trcFifo (s : State) (f : Fld) (k : Nat) : (s.addSat f k).trcFifo = s.trcFifo := rfl
@[simp] theorem State.addSat_trcLost (s : State) (f : Fld) (k : Nat) : (s.addSat f k).trcLost = s.trcLost := rfl
@[simp] theorem State.addSat_cloReport (s : State) (f : Fld) (k : Nat) : (s.addSat f k).cloReport = s.cloReport := rfl
@[simp] theorem State.addSat_cloGen (s : State) (f : Fld) (k : Nat) : (s.addSat f k).cloGen = s.cloGen := rfl
@[simp] theorem State.addSat_resp (s : State) (f : Fld) (k : Nat) : (s.addSat f k).resp = s.resp := rfl
@[simp] theorem State.addSat_fresh (s : State) (f : Fld) (k : Nat) : (s.addSat f k).fresh = s.fresh := rfl

@[simp] theorem State.inc_pending (s : State) (f : Fld) : (s.inc f).pending = s.pending := rfl
@[simp] theorem State.inc_lockKeys (s : State) (f : Fld) : (s.inc f).lockKeys = s.lockKeys := rfl
@[simp] theorem State.inc_mem (s : State) (f : Fld) : (s.inc f).mem = s.mem := rfl
@[simp] theorem State.inc_tags (s : State) (f : Fld) : (s.inc f).tags = s.tags := rfl
@[simp] theorem State.inc_rowInit (s : State) (f : Fld) : (s.inc f).rowInit = s.rowInit := rfl
@[simp] theorem State.inc_memKeys (s : State) (f : Fld) : (s.inc f).memKeys = s.memKeys := rfl
@[simp] theorem State.inc_core0 (s : State) (f : Fld) : (s.inc f).core0 = s.core0 := rfl
@[simp] theorem State.inc_core1 (s : State) (f : Fld) : (s.inc f).core1 = s.core1 := rfl
@[simp] theorem State.inc_epochs (s : State) (f : Fld) : (s.inc f).epochs = s.epochs := rfl
@[simp] theorem State.inc_sweepDone (s : State) (f : Fld) : (s.inc f).sweepDone = s.sweepDone := rfl
@[simp] theorem State.inc_gpio (s : State) (f : Fld) : (s.inc f).gpio = s.gpio := rfl
@[simp] theorem State.inc_fab (s : State) (f : Fld) : (s.inc f).fab = s.fab := rfl
@[simp] theorem State.inc_cloSecond (s : State) (f : Fld) : (s.inc f).cloSecond = s.cloSecond := rfl
@[simp] theorem State.inc_cloWait (s : State) (f : Fld) : (s.inc f).cloWait = s.cloWait := rfl
@[simp] theorem State.inc_sweep (s : State) (f : Fld) : (s.inc f).sweep = s.sweep := rfl
@[simp] theorem State.inc_sweepLast (s : State) (f : Fld) : (s.inc f).sweepLast = s.sweepLast := rfl
@[simp] theorem State.inc_col (s : State) (f : Fld) : (s.inc f).col = s.col := rfl
@[simp] theorem State.inc_trlLines (s : State) (f : Fld) : (s.inc f).trlLines = s.trlLines := rfl
@[simp] theorem State.inc_mpuActive (s : State) (f : Fld) : (s.inc f).mpuActive = s.mpuActive := rfl
@[simp] theorem State.inc_intcSample (s : State) (f : Fld) : (s.inc f).intcSample = s.intcSample := rfl
@[simp] theorem State.inc_aon (s : State) (f : Fld) : (s.inc f).aon = s.aon := rfl
@[simp] theorem State.inc_flash (s : State) (f : Fld) : (s.inc f).flash = s.flash := rfl
@[simp] theorem State.inc_ldg (s : State) (f : Fld) : (s.inc f).ldg = s.ldg := rfl
@[simp] theorem State.inc_lc (s : State) (f : Fld) : (s.inc f).lc = s.lc := rfl
@[simp] theorem State.inc_slots (s : State) (f : Fld) : (s.inc f).slots = s.slots := rfl
@[simp] theorem State.inc_ent (s : State) (f : Fld) : (s.inc f).ent = s.ent := rfl
@[simp] theorem State.inc_cry (s : State) (f : Fld) : (s.inc f).cry = s.cry := rfl
@[simp] theorem State.inc_trl (s : State) (f : Fld) : (s.inc f).trl = s.trl := rfl
@[simp] theorem State.inc_rules (s : State) (f : Fld) : (s.inc f).rules = s.rules := rfl
@[simp] theorem State.inc_rin (s : State) (f : Fld) : (s.inc f).rin = s.rin := rfl
@[simp] theorem State.inc_eth0 (s : State) (f : Fld) : (s.inc f).eth0 = s.eth0 := rfl
@[simp] theorem State.inc_eth1 (s : State) (f : Fld) : (s.inc f).eth1 = s.eth1 := rfl
@[simp] theorem State.inc_mdio (s : State) (f : Fld) : (s.inc f).mdio = s.mdio := rfl
@[simp] theorem State.inc_radio (s : State) (f : Fld) : (s.inc f).radio = s.radio := rfl
@[simp] theorem State.inc_sieve (s : State) (f : Fld) : (s.inc f).sieve = s.sieve := rfl
@[simp] theorem State.inc_gcb (s : State) (f : Fld) : (s.inc f).gcb = s.gcb := rfl
@[simp] theorem State.inc_hlkUnderrun (s : State) (f : Fld) : (s.inc f).hlkUnderrun = s.hlkUnderrun := rfl
@[simp] theorem State.inc_mgp (s : State) (f : Fld) : (s.inc f).mgp = s.mgp := rfl
@[simp] theorem State.inc_prb (s : State) (f : Fld) : (s.inc f).prb = s.prb := rfl
@[simp] theorem State.inc_adc (s : State) (f : Fld) : (s.inc f).adc = s.adc := rfl
@[simp] theorem State.inc_logQueue (s : State) (f : Fld) : (s.inc f).logQueue = s.logQueue := rfl
@[simp] theorem State.inc_logLoss (s : State) (f : Fld) : (s.inc f).logLoss = s.logLoss := rfl
@[simp] theorem State.inc_trcFifo (s : State) (f : Fld) : (s.inc f).trcFifo = s.trcFifo := rfl
@[simp] theorem State.inc_trcLost (s : State) (f : Fld) : (s.inc f).trcLost = s.trcLost := rfl
@[simp] theorem State.inc_cloReport (s : State) (f : Fld) : (s.inc f).cloReport = s.cloReport := rfl
@[simp] theorem State.inc_cloGen (s : State) (f : Fld) : (s.inc f).cloGen = s.cloGen := rfl
@[simp] theorem State.inc_resp (s : State) (f : Fld) : (s.inc f).resp = s.resp := rfl
@[simp] theorem State.inc_fresh (s : State) (f : Fld) : (s.inc f).fresh = s.fresh := rfl

@[simp] theorem State.irq_pending (s : State) (p b : Nat) : (s.irq p b).pending = s.pending := rfl
@[simp] theorem State.irq_lockKeys (s : State) (p b : Nat) : (s.irq p b).lockKeys = s.lockKeys := rfl
@[simp] theorem State.irq_mem (s : State) (p b : Nat) : (s.irq p b).mem = s.mem := rfl
@[simp] theorem State.irq_tags (s : State) (p b : Nat) : (s.irq p b).tags = s.tags := rfl
@[simp] theorem State.irq_rowInit (s : State) (p b : Nat) : (s.irq p b).rowInit = s.rowInit := rfl
@[simp] theorem State.irq_memKeys (s : State) (p b : Nat) : (s.irq p b).memKeys = s.memKeys := rfl
@[simp] theorem State.irq_core0 (s : State) (p b : Nat) : (s.irq p b).core0 = s.core0 := rfl
@[simp] theorem State.irq_core1 (s : State) (p b : Nat) : (s.irq p b).core1 = s.core1 := rfl
@[simp] theorem State.irq_epochs (s : State) (p b : Nat) : (s.irq p b).epochs = s.epochs := rfl
@[simp] theorem State.irq_sweepDone (s : State) (p b : Nat) : (s.irq p b).sweepDone = s.sweepDone := rfl
@[simp] theorem State.irq_gpio (s : State) (p b : Nat) : (s.irq p b).gpio = s.gpio := rfl
@[simp] theorem State.irq_fab (s : State) (p b : Nat) : (s.irq p b).fab = s.fab := rfl
@[simp] theorem State.irq_cloSecond (s : State) (p b : Nat) : (s.irq p b).cloSecond = s.cloSecond := rfl
@[simp] theorem State.irq_cloWait (s : State) (p b : Nat) : (s.irq p b).cloWait = s.cloWait := rfl
@[simp] theorem State.irq_sweep (s : State) (p b : Nat) : (s.irq p b).sweep = s.sweep := rfl
@[simp] theorem State.irq_sweepLast (s : State) (p b : Nat) : (s.irq p b).sweepLast = s.sweepLast := rfl
@[simp] theorem State.irq_col (s : State) (p b : Nat) : (s.irq p b).col = s.col := rfl
@[simp] theorem State.irq_trlLines (s : State) (p b : Nat) : (s.irq p b).trlLines = s.trlLines := rfl
@[simp] theorem State.irq_mpuActive (s : State) (p b : Nat) : (s.irq p b).mpuActive = s.mpuActive := rfl
@[simp] theorem State.irq_intcSample (s : State) (p b : Nat) : (s.irq p b).intcSample = s.intcSample := rfl
@[simp] theorem State.irq_aon (s : State) (p b : Nat) : (s.irq p b).aon = s.aon := rfl
@[simp] theorem State.irq_flash (s : State) (p b : Nat) : (s.irq p b).flash = s.flash := rfl
@[simp] theorem State.irq_ldg (s : State) (p b : Nat) : (s.irq p b).ldg = s.ldg := rfl
@[simp] theorem State.irq_lc (s : State) (p b : Nat) : (s.irq p b).lc = s.lc := rfl
@[simp] theorem State.irq_slots (s : State) (p b : Nat) : (s.irq p b).slots = s.slots := rfl
@[simp] theorem State.irq_ent (s : State) (p b : Nat) : (s.irq p b).ent = s.ent := rfl
@[simp] theorem State.irq_cry (s : State) (p b : Nat) : (s.irq p b).cry = s.cry := rfl
@[simp] theorem State.irq_trl (s : State) (p b : Nat) : (s.irq p b).trl = s.trl := rfl
@[simp] theorem State.irq_rules (s : State) (p b : Nat) : (s.irq p b).rules = s.rules := rfl
@[simp] theorem State.irq_rin (s : State) (p b : Nat) : (s.irq p b).rin = s.rin := rfl
@[simp] theorem State.irq_eth0 (s : State) (p b : Nat) : (s.irq p b).eth0 = s.eth0 := rfl
@[simp] theorem State.irq_eth1 (s : State) (p b : Nat) : (s.irq p b).eth1 = s.eth1 := rfl
@[simp] theorem State.irq_mdio (s : State) (p b : Nat) : (s.irq p b).mdio = s.mdio := rfl
@[simp] theorem State.irq_radio (s : State) (p b : Nat) : (s.irq p b).radio = s.radio := rfl
@[simp] theorem State.irq_sieve (s : State) (p b : Nat) : (s.irq p b).sieve = s.sieve := rfl
@[simp] theorem State.irq_gcb (s : State) (p b : Nat) : (s.irq p b).gcb = s.gcb := rfl
@[simp] theorem State.irq_hlkUnderrun (s : State) (p b : Nat) : (s.irq p b).hlkUnderrun = s.hlkUnderrun := rfl
@[simp] theorem State.irq_mgp (s : State) (p b : Nat) : (s.irq p b).mgp = s.mgp := rfl
@[simp] theorem State.irq_prb (s : State) (p b : Nat) : (s.irq p b).prb = s.prb := rfl
@[simp] theorem State.irq_adc (s : State) (p b : Nat) : (s.irq p b).adc = s.adc := rfl
@[simp] theorem State.irq_logQueue (s : State) (p b : Nat) : (s.irq p b).logQueue = s.logQueue := rfl
@[simp] theorem State.irq_logLoss (s : State) (p b : Nat) : (s.irq p b).logLoss = s.logLoss := rfl
@[simp] theorem State.irq_trcFifo (s : State) (p b : Nat) : (s.irq p b).trcFifo = s.trcFifo := rfl
@[simp] theorem State.irq_trcLost (s : State) (p b : Nat) : (s.irq p b).trcLost = s.trcLost := rfl
@[simp] theorem State.irq_cloReport (s : State) (p b : Nat) : (s.irq p b).cloReport = s.cloReport := rfl
@[simp] theorem State.irq_cloGen (s : State) (p b : Nat) : (s.irq p b).cloGen = s.cloGen := rfl
@[simp] theorem State.irq_resp (s : State) (p b : Nat) : (s.irq p b).resp = s.resp := rfl
@[simp] theorem State.irq_fresh (s : State) (p b : Nat) : (s.irq p b).fresh = s.fresh := rfl

@[simp] theorem State.setByte_pending (s : State) (a : Nat) (b : Byte) : (s.setByte a b).pending = s.pending := rfl
@[simp] theorem State.setByte_regs (s : State) (a : Nat) (b : Byte) : (s.setByte a b).regs = s.regs := rfl
@[simp] theorem State.setByte_lockKeys (s : State) (a : Nat) (b : Byte) : (s.setByte a b).lockKeys = s.lockKeys := rfl
@[simp] theorem State.setByte_tags (s : State) (a : Nat) (b : Byte) : (s.setByte a b).tags = s.tags := rfl
@[simp] theorem State.setByte_rowInit (s : State) (a : Nat) (b : Byte) : (s.setByte a b).rowInit = s.rowInit := rfl
@[simp] theorem State.setByte_memKeys (s : State) (a : Nat) (b : Byte) : (s.setByte a b).memKeys = s.memKeys := rfl
@[simp] theorem State.setByte_core0 (s : State) (a : Nat) (b : Byte) : (s.setByte a b).core0 = s.core0 := rfl
@[simp] theorem State.setByte_core1 (s : State) (a : Nat) (b : Byte) : (s.setByte a b).core1 = s.core1 := rfl
@[simp] theorem State.setByte_epochs (s : State) (a : Nat) (b : Byte) : (s.setByte a b).epochs = s.epochs := rfl
@[simp] theorem State.setByte_sweepDone (s : State) (a : Nat) (b : Byte) : (s.setByte a b).sweepDone = s.sweepDone := rfl
@[simp] theorem State.setByte_gpio (s : State) (a : Nat) (b : Byte) : (s.setByte a b).gpio = s.gpio := rfl
@[simp] theorem State.setByte_fab (s : State) (a : Nat) (b : Byte) : (s.setByte a b).fab = s.fab := rfl
@[simp] theorem State.setByte_cloSecond (s : State) (a : Nat) (b : Byte) : (s.setByte a b).cloSecond = s.cloSecond := rfl
@[simp] theorem State.setByte_cloWait (s : State) (a : Nat) (b : Byte) : (s.setByte a b).cloWait = s.cloWait := rfl
@[simp] theorem State.setByte_sweep (s : State) (a : Nat) (b : Byte) : (s.setByte a b).sweep = s.sweep := rfl
@[simp] theorem State.setByte_sweepLast (s : State) (a : Nat) (b : Byte) : (s.setByte a b).sweepLast = s.sweepLast := rfl
@[simp] theorem State.setByte_col (s : State) (a : Nat) (b : Byte) : (s.setByte a b).col = s.col := rfl
@[simp] theorem State.setByte_trlLines (s : State) (a : Nat) (b : Byte) : (s.setByte a b).trlLines = s.trlLines := rfl
@[simp] theorem State.setByte_mpuActive (s : State) (a : Nat) (b : Byte) : (s.setByte a b).mpuActive = s.mpuActive := rfl
@[simp] theorem State.setByte_intcSample (s : State) (a : Nat) (b : Byte) : (s.setByte a b).intcSample = s.intcSample := rfl
@[simp] theorem State.setByte_aon (s : State) (a : Nat) (b : Byte) : (s.setByte a b).aon = s.aon := rfl
@[simp] theorem State.setByte_flash (s : State) (a : Nat) (b : Byte) : (s.setByte a b).flash = s.flash := rfl
@[simp] theorem State.setByte_ldg (s : State) (a : Nat) (b : Byte) : (s.setByte a b).ldg = s.ldg := rfl
@[simp] theorem State.setByte_lc (s : State) (a : Nat) (b : Byte) : (s.setByte a b).lc = s.lc := rfl
@[simp] theorem State.setByte_slots (s : State) (a : Nat) (b : Byte) : (s.setByte a b).slots = s.slots := rfl
@[simp] theorem State.setByte_ent (s : State) (a : Nat) (b : Byte) : (s.setByte a b).ent = s.ent := rfl
@[simp] theorem State.setByte_cry (s : State) (a : Nat) (b : Byte) : (s.setByte a b).cry = s.cry := rfl
@[simp] theorem State.setByte_trl (s : State) (a : Nat) (b : Byte) : (s.setByte a b).trl = s.trl := rfl
@[simp] theorem State.setByte_rules (s : State) (a : Nat) (b : Byte) : (s.setByte a b).rules = s.rules := rfl
@[simp] theorem State.setByte_rin (s : State) (a : Nat) (b : Byte) : (s.setByte a b).rin = s.rin := rfl
@[simp] theorem State.setByte_eth0 (s : State) (a : Nat) (b : Byte) : (s.setByte a b).eth0 = s.eth0 := rfl
@[simp] theorem State.setByte_eth1 (s : State) (a : Nat) (b : Byte) : (s.setByte a b).eth1 = s.eth1 := rfl
@[simp] theorem State.setByte_mdio (s : State) (a : Nat) (b : Byte) : (s.setByte a b).mdio = s.mdio := rfl
@[simp] theorem State.setByte_radio (s : State) (a : Nat) (b : Byte) : (s.setByte a b).radio = s.radio := rfl
@[simp] theorem State.setByte_sieve (s : State) (a : Nat) (b : Byte) : (s.setByte a b).sieve = s.sieve := rfl
@[simp] theorem State.setByte_gcb (s : State) (a : Nat) (b : Byte) : (s.setByte a b).gcb = s.gcb := rfl
@[simp] theorem State.setByte_hlkUnderrun (s : State) (a : Nat) (b : Byte) : (s.setByte a b).hlkUnderrun = s.hlkUnderrun := rfl
@[simp] theorem State.setByte_mgp (s : State) (a : Nat) (b : Byte) : (s.setByte a b).mgp = s.mgp := rfl
@[simp] theorem State.setByte_prb (s : State) (a : Nat) (b : Byte) : (s.setByte a b).prb = s.prb := rfl
@[simp] theorem State.setByte_adc (s : State) (a : Nat) (b : Byte) : (s.setByte a b).adc = s.adc := rfl
@[simp] theorem State.setByte_logQueue (s : State) (a : Nat) (b : Byte) : (s.setByte a b).logQueue = s.logQueue := rfl
@[simp] theorem State.setByte_logLoss (s : State) (a : Nat) (b : Byte) : (s.setByte a b).logLoss = s.logLoss := rfl
@[simp] theorem State.setByte_trcFifo (s : State) (a : Nat) (b : Byte) : (s.setByte a b).trcFifo = s.trcFifo := rfl
@[simp] theorem State.setByte_trcLost (s : State) (a : Nat) (b : Byte) : (s.setByte a b).trcLost = s.trcLost := rfl
@[simp] theorem State.setByte_cloReport (s : State) (a : Nat) (b : Byte) : (s.setByte a b).cloReport = s.cloReport := rfl
@[simp] theorem State.setByte_cloGen (s : State) (a : Nat) (b : Byte) : (s.setByte a b).cloGen = s.cloGen := rfl
@[simp] theorem State.setByte_resp (s : State) (a : Nat) (b : Byte) : (s.setByte a b).resp = s.resp := rfl
@[simp] theorem State.setByte_fresh (s : State) (a : Nat) (b : Byte) : (s.setByte a b).fresh = s.fresh := rfl

@[simp] theorem State.setTag_pending (s : State) (g : Nat) (b : Bool) : (s.setTag g b).pending = s.pending := rfl
@[simp] theorem State.setTag_regs (s : State) (g : Nat) (b : Bool) : (s.setTag g b).regs = s.regs := rfl
@[simp] theorem State.setTag_lockKeys (s : State) (g : Nat) (b : Bool) : (s.setTag g b).lockKeys = s.lockKeys := rfl
@[simp] theorem State.setTag_mem (s : State) (g : Nat) (b : Bool) : (s.setTag g b).mem = s.mem := rfl
@[simp] theorem State.setTag_rowInit (s : State) (g : Nat) (b : Bool) : (s.setTag g b).rowInit = s.rowInit := rfl
@[simp] theorem State.setTag_memKeys (s : State) (g : Nat) (b : Bool) : (s.setTag g b).memKeys = s.memKeys := rfl
@[simp] theorem State.setTag_core0 (s : State) (g : Nat) (b : Bool) : (s.setTag g b).core0 = s.core0 := rfl
@[simp] theorem State.setTag_core1 (s : State) (g : Nat) (b : Bool) : (s.setTag g b).core1 = s.core1 := rfl
@[simp] theorem State.setTag_epochs (s : State) (g : Nat) (b : Bool) : (s.setTag g b).epochs = s.epochs := rfl
@[simp] theorem State.setTag_sweepDone (s : State) (g : Nat) (b : Bool) : (s.setTag g b).sweepDone = s.sweepDone := rfl
@[simp] theorem State.setTag_gpio (s : State) (g : Nat) (b : Bool) : (s.setTag g b).gpio = s.gpio := rfl
@[simp] theorem State.setTag_fab (s : State) (g : Nat) (b : Bool) : (s.setTag g b).fab = s.fab := rfl
@[simp] theorem State.setTag_cloSecond (s : State) (g : Nat) (b : Bool) : (s.setTag g b).cloSecond = s.cloSecond := rfl
@[simp] theorem State.setTag_cloWait (s : State) (g : Nat) (b : Bool) : (s.setTag g b).cloWait = s.cloWait := rfl
@[simp] theorem State.setTag_sweep (s : State) (g : Nat) (b : Bool) : (s.setTag g b).sweep = s.sweep := rfl
@[simp] theorem State.setTag_sweepLast (s : State) (g : Nat) (b : Bool) : (s.setTag g b).sweepLast = s.sweepLast := rfl
@[simp] theorem State.setTag_col (s : State) (g : Nat) (b : Bool) : (s.setTag g b).col = s.col := rfl
@[simp] theorem State.setTag_trlLines (s : State) (g : Nat) (b : Bool) : (s.setTag g b).trlLines = s.trlLines := rfl
@[simp] theorem State.setTag_mpuActive (s : State) (g : Nat) (b : Bool) : (s.setTag g b).mpuActive = s.mpuActive := rfl
@[simp] theorem State.setTag_intcSample (s : State) (g : Nat) (b : Bool) : (s.setTag g b).intcSample = s.intcSample := rfl
@[simp] theorem State.setTag_aon (s : State) (g : Nat) (b : Bool) : (s.setTag g b).aon = s.aon := rfl
@[simp] theorem State.setTag_flash (s : State) (g : Nat) (b : Bool) : (s.setTag g b).flash = s.flash := rfl
@[simp] theorem State.setTag_ldg (s : State) (g : Nat) (b : Bool) : (s.setTag g b).ldg = s.ldg := rfl
@[simp] theorem State.setTag_lc (s : State) (g : Nat) (b : Bool) : (s.setTag g b).lc = s.lc := rfl
@[simp] theorem State.setTag_slots (s : State) (g : Nat) (b : Bool) : (s.setTag g b).slots = s.slots := rfl
@[simp] theorem State.setTag_ent (s : State) (g : Nat) (b : Bool) : (s.setTag g b).ent = s.ent := rfl
@[simp] theorem State.setTag_cry (s : State) (g : Nat) (b : Bool) : (s.setTag g b).cry = s.cry := rfl
@[simp] theorem State.setTag_trl (s : State) (g : Nat) (b : Bool) : (s.setTag g b).trl = s.trl := rfl
@[simp] theorem State.setTag_rules (s : State) (g : Nat) (b : Bool) : (s.setTag g b).rules = s.rules := rfl
@[simp] theorem State.setTag_rin (s : State) (g : Nat) (b : Bool) : (s.setTag g b).rin = s.rin := rfl
@[simp] theorem State.setTag_eth0 (s : State) (g : Nat) (b : Bool) : (s.setTag g b).eth0 = s.eth0 := rfl
@[simp] theorem State.setTag_eth1 (s : State) (g : Nat) (b : Bool) : (s.setTag g b).eth1 = s.eth1 := rfl
@[simp] theorem State.setTag_mdio (s : State) (g : Nat) (b : Bool) : (s.setTag g b).mdio = s.mdio := rfl
@[simp] theorem State.setTag_radio (s : State) (g : Nat) (b : Bool) : (s.setTag g b).radio = s.radio := rfl
@[simp] theorem State.setTag_sieve (s : State) (g : Nat) (b : Bool) : (s.setTag g b).sieve = s.sieve := rfl
@[simp] theorem State.setTag_gcb (s : State) (g : Nat) (b : Bool) : (s.setTag g b).gcb = s.gcb := rfl
@[simp] theorem State.setTag_hlkUnderrun (s : State) (g : Nat) (b : Bool) : (s.setTag g b).hlkUnderrun = s.hlkUnderrun := rfl
@[simp] theorem State.setTag_mgp (s : State) (g : Nat) (b : Bool) : (s.setTag g b).mgp = s.mgp := rfl
@[simp] theorem State.setTag_prb (s : State) (g : Nat) (b : Bool) : (s.setTag g b).prb = s.prb := rfl
@[simp] theorem State.setTag_adc (s : State) (g : Nat) (b : Bool) : (s.setTag g b).adc = s.adc := rfl
@[simp] theorem State.setTag_logQueue (s : State) (g : Nat) (b : Bool) : (s.setTag g b).logQueue = s.logQueue := rfl
@[simp] theorem State.setTag_logLoss (s : State) (g : Nat) (b : Bool) : (s.setTag g b).logLoss = s.logLoss := rfl
@[simp] theorem State.setTag_trcFifo (s : State) (g : Nat) (b : Bool) : (s.setTag g b).trcFifo = s.trcFifo := rfl
@[simp] theorem State.setTag_trcLost (s : State) (g : Nat) (b : Bool) : (s.setTag g b).trcLost = s.trcLost := rfl
@[simp] theorem State.setTag_cloReport (s : State) (g : Nat) (b : Bool) : (s.setTag g b).cloReport = s.cloReport := rfl
@[simp] theorem State.setTag_cloGen (s : State) (g : Nat) (b : Bool) : (s.setTag g b).cloGen = s.cloGen := rfl
@[simp] theorem State.setTag_resp (s : State) (g : Nat) (b : Bool) : (s.setTag g b).resp = s.resp := rfl
@[simp] theorem State.setTag_fresh (s : State) (g : Nat) (b : Bool) : (s.setTag g b).fresh = s.fresh := rfl

@[simp] theorem State.answer_pending (s : State) (d : List Byte) (e : Nat) : (s.answer d e).pending = s.pending := rfl
@[simp] theorem State.answer_regs (s : State) (d : List Byte) (e : Nat) : (s.answer d e).regs = s.regs := rfl
@[simp] theorem State.answer_lockKeys (s : State) (d : List Byte) (e : Nat) : (s.answer d e).lockKeys = s.lockKeys := rfl
@[simp] theorem State.answer_mem (s : State) (d : List Byte) (e : Nat) : (s.answer d e).mem = s.mem := rfl
@[simp] theorem State.answer_tags (s : State) (d : List Byte) (e : Nat) : (s.answer d e).tags = s.tags := rfl
@[simp] theorem State.answer_rowInit (s : State) (d : List Byte) (e : Nat) : (s.answer d e).rowInit = s.rowInit := rfl
@[simp] theorem State.answer_memKeys (s : State) (d : List Byte) (e : Nat) : (s.answer d e).memKeys = s.memKeys := rfl
@[simp] theorem State.answer_core0 (s : State) (d : List Byte) (e : Nat) : (s.answer d e).core0 = s.core0 := rfl
@[simp] theorem State.answer_core1 (s : State) (d : List Byte) (e : Nat) : (s.answer d e).core1 = s.core1 := rfl
@[simp] theorem State.answer_epochs (s : State) (d : List Byte) (e : Nat) : (s.answer d e).epochs = s.epochs := rfl
@[simp] theorem State.answer_sweepDone (s : State) (d : List Byte) (e : Nat) : (s.answer d e).sweepDone = s.sweepDone := rfl
@[simp] theorem State.answer_gpio (s : State) (d : List Byte) (e : Nat) : (s.answer d e).gpio = s.gpio := rfl
@[simp] theorem State.answer_fab (s : State) (d : List Byte) (e : Nat) : (s.answer d e).fab = s.fab := rfl
@[simp] theorem State.answer_cloSecond (s : State) (d : List Byte) (e : Nat) : (s.answer d e).cloSecond = s.cloSecond := rfl
@[simp] theorem State.answer_cloWait (s : State) (d : List Byte) (e : Nat) : (s.answer d e).cloWait = s.cloWait := rfl
@[simp] theorem State.answer_sweep (s : State) (d : List Byte) (e : Nat) : (s.answer d e).sweep = s.sweep := rfl
@[simp] theorem State.answer_sweepLast (s : State) (d : List Byte) (e : Nat) : (s.answer d e).sweepLast = s.sweepLast := rfl
@[simp] theorem State.answer_col (s : State) (d : List Byte) (e : Nat) : (s.answer d e).col = s.col := rfl
@[simp] theorem State.answer_trlLines (s : State) (d : List Byte) (e : Nat) : (s.answer d e).trlLines = s.trlLines := rfl
@[simp] theorem State.answer_mpuActive (s : State) (d : List Byte) (e : Nat) : (s.answer d e).mpuActive = s.mpuActive := rfl
@[simp] theorem State.answer_intcSample (s : State) (d : List Byte) (e : Nat) : (s.answer d e).intcSample = s.intcSample := rfl
@[simp] theorem State.answer_aon (s : State) (d : List Byte) (e : Nat) : (s.answer d e).aon = s.aon := rfl
@[simp] theorem State.answer_flash (s : State) (d : List Byte) (e : Nat) : (s.answer d e).flash = s.flash := rfl
@[simp] theorem State.answer_ldg (s : State) (d : List Byte) (e : Nat) : (s.answer d e).ldg = s.ldg := rfl
@[simp] theorem State.answer_lc (s : State) (d : List Byte) (e : Nat) : (s.answer d e).lc = s.lc := rfl
@[simp] theorem State.answer_slots (s : State) (d : List Byte) (e : Nat) : (s.answer d e).slots = s.slots := rfl
@[simp] theorem State.answer_ent (s : State) (d : List Byte) (e : Nat) : (s.answer d e).ent = s.ent := rfl
@[simp] theorem State.answer_cry (s : State) (d : List Byte) (e : Nat) : (s.answer d e).cry = s.cry := rfl
@[simp] theorem State.answer_trl (s : State) (d : List Byte) (e : Nat) : (s.answer d e).trl = s.trl := rfl
@[simp] theorem State.answer_rules (s : State) (d : List Byte) (e : Nat) : (s.answer d e).rules = s.rules := rfl
@[simp] theorem State.answer_rin (s : State) (d : List Byte) (e : Nat) : (s.answer d e).rin = s.rin := rfl
@[simp] theorem State.answer_eth0 (s : State) (d : List Byte) (e : Nat) : (s.answer d e).eth0 = s.eth0 := rfl
@[simp] theorem State.answer_eth1 (s : State) (d : List Byte) (e : Nat) : (s.answer d e).eth1 = s.eth1 := rfl
@[simp] theorem State.answer_mdio (s : State) (d : List Byte) (e : Nat) : (s.answer d e).mdio = s.mdio := rfl
@[simp] theorem State.answer_radio (s : State) (d : List Byte) (e : Nat) : (s.answer d e).radio = s.radio := rfl
@[simp] theorem State.answer_sieve (s : State) (d : List Byte) (e : Nat) : (s.answer d e).sieve = s.sieve := rfl
@[simp] theorem State.answer_gcb (s : State) (d : List Byte) (e : Nat) : (s.answer d e).gcb = s.gcb := rfl
@[simp] theorem State.answer_hlkUnderrun (s : State) (d : List Byte) (e : Nat) : (s.answer d e).hlkUnderrun = s.hlkUnderrun := rfl
@[simp] theorem State.answer_mgp (s : State) (d : List Byte) (e : Nat) : (s.answer d e).mgp = s.mgp := rfl
@[simp] theorem State.answer_prb (s : State) (d : List Byte) (e : Nat) : (s.answer d e).prb = s.prb := rfl
@[simp] theorem State.answer_adc (s : State) (d : List Byte) (e : Nat) : (s.answer d e).adc = s.adc := rfl
@[simp] theorem State.answer_logQueue (s : State) (d : List Byte) (e : Nat) : (s.answer d e).logQueue = s.logQueue := rfl
@[simp] theorem State.answer_logLoss (s : State) (d : List Byte) (e : Nat) : (s.answer d e).logLoss = s.logLoss := rfl
@[simp] theorem State.answer_trcFifo (s : State) (d : List Byte) (e : Nat) : (s.answer d e).trcFifo = s.trcFifo := rfl
@[simp] theorem State.answer_trcLost (s : State) (d : List Byte) (e : Nat) : (s.answer d e).trcLost = s.trcLost := rfl
@[simp] theorem State.answer_cloReport (s : State) (d : List Byte) (e : Nat) : (s.answer d e).cloReport = s.cloReport := rfl
@[simp] theorem State.answer_cloGen (s : State) (d : List Byte) (e : Nat) : (s.answer d e).cloGen = s.cloGen := rfl
@[simp] theorem State.answer_fresh (s : State) (d : List Byte) (e : Nat) : (s.answer d e).fresh = s.fresh := rfl

@[simp] theorem State.draw_pending (s : State) : (s.draw.2).pending = s.pending := rfl
@[simp] theorem State.draw_regs (s : State) : (s.draw.2).regs = s.regs := rfl
@[simp] theorem State.draw_lockKeys (s : State) : (s.draw.2).lockKeys = s.lockKeys := rfl
@[simp] theorem State.draw_mem (s : State) : (s.draw.2).mem = s.mem := rfl
@[simp] theorem State.draw_tags (s : State) : (s.draw.2).tags = s.tags := rfl
@[simp] theorem State.draw_rowInit (s : State) : (s.draw.2).rowInit = s.rowInit := rfl
@[simp] theorem State.draw_memKeys (s : State) : (s.draw.2).memKeys = s.memKeys := rfl
@[simp] theorem State.draw_core0 (s : State) : (s.draw.2).core0 = s.core0 := rfl
@[simp] theorem State.draw_core1 (s : State) : (s.draw.2).core1 = s.core1 := rfl
@[simp] theorem State.draw_epochs (s : State) : (s.draw.2).epochs = s.epochs := rfl
@[simp] theorem State.draw_sweepDone (s : State) : (s.draw.2).sweepDone = s.sweepDone := rfl
@[simp] theorem State.draw_gpio (s : State) : (s.draw.2).gpio = s.gpio := rfl
@[simp] theorem State.draw_fab (s : State) : (s.draw.2).fab = s.fab := rfl
@[simp] theorem State.draw_cloSecond (s : State) : (s.draw.2).cloSecond = s.cloSecond := rfl
@[simp] theorem State.draw_cloWait (s : State) : (s.draw.2).cloWait = s.cloWait := rfl
@[simp] theorem State.draw_sweep (s : State) : (s.draw.2).sweep = s.sweep := rfl
@[simp] theorem State.draw_sweepLast (s : State) : (s.draw.2).sweepLast = s.sweepLast := rfl
@[simp] theorem State.draw_col (s : State) : (s.draw.2).col = s.col := rfl
@[simp] theorem State.draw_trlLines (s : State) : (s.draw.2).trlLines = s.trlLines := rfl
@[simp] theorem State.draw_mpuActive (s : State) : (s.draw.2).mpuActive = s.mpuActive := rfl
@[simp] theorem State.draw_intcSample (s : State) : (s.draw.2).intcSample = s.intcSample := rfl
@[simp] theorem State.draw_aon (s : State) : (s.draw.2).aon = s.aon := rfl
@[simp] theorem State.draw_flash (s : State) : (s.draw.2).flash = s.flash := rfl
@[simp] theorem State.draw_ldg (s : State) : (s.draw.2).ldg = s.ldg := rfl
@[simp] theorem State.draw_lc (s : State) : (s.draw.2).lc = s.lc := rfl
@[simp] theorem State.draw_slots (s : State) : (s.draw.2).slots = s.slots := rfl
@[simp] theorem State.draw_ent (s : State) : (s.draw.2).ent = s.ent := rfl
@[simp] theorem State.draw_cry (s : State) : (s.draw.2).cry = s.cry := rfl
@[simp] theorem State.draw_trl (s : State) : (s.draw.2).trl = s.trl := rfl
@[simp] theorem State.draw_rules (s : State) : (s.draw.2).rules = s.rules := rfl
@[simp] theorem State.draw_rin (s : State) : (s.draw.2).rin = s.rin := rfl
@[simp] theorem State.draw_eth0 (s : State) : (s.draw.2).eth0 = s.eth0 := rfl
@[simp] theorem State.draw_eth1 (s : State) : (s.draw.2).eth1 = s.eth1 := rfl
@[simp] theorem State.draw_mdio (s : State) : (s.draw.2).mdio = s.mdio := rfl
@[simp] theorem State.draw_radio (s : State) : (s.draw.2).radio = s.radio := rfl
@[simp] theorem State.draw_sieve (s : State) : (s.draw.2).sieve = s.sieve := rfl
@[simp] theorem State.draw_gcb (s : State) : (s.draw.2).gcb = s.gcb := rfl
@[simp] theorem State.draw_hlkUnderrun (s : State) : (s.draw.2).hlkUnderrun = s.hlkUnderrun := rfl
@[simp] theorem State.draw_mgp (s : State) : (s.draw.2).mgp = s.mgp := rfl
@[simp] theorem State.draw_prb (s : State) : (s.draw.2).prb = s.prb := rfl
@[simp] theorem State.draw_adc (s : State) : (s.draw.2).adc = s.adc := rfl
@[simp] theorem State.draw_logQueue (s : State) : (s.draw.2).logQueue = s.logQueue := rfl
@[simp] theorem State.draw_logLoss (s : State) : (s.draw.2).logLoss = s.logLoss := rfl
@[simp] theorem State.draw_trcFifo (s : State) : (s.draw.2).trcFifo = s.trcFifo := rfl
@[simp] theorem State.draw_trcLost (s : State) : (s.draw.2).trcLost = s.trcLost := rfl
@[simp] theorem State.draw_cloReport (s : State) : (s.draw.2).cloReport = s.cloReport := rfl
@[simp] theorem State.draw_cloGen (s : State) : (s.draw.2).cloGen = s.cloGen := rfl
@[simp] theorem State.draw_resp (s : State) : (s.draw.2).resp = s.resp := rfl

@[simp] theorem State.setCore_pending (s : State) (c : CoreId) (k : Core) : (s.setCore c k).pending = s.pending := by cases c <;> rfl
@[simp] theorem State.setCore_regs (s : State) (c : CoreId) (k : Core) : (s.setCore c k).regs = s.regs := by cases c <;> rfl
@[simp] theorem State.setCore_lockKeys (s : State) (c : CoreId) (k : Core) : (s.setCore c k).lockKeys = s.lockKeys := by cases c <;> rfl
@[simp] theorem State.setCore_mem (s : State) (c : CoreId) (k : Core) : (s.setCore c k).mem = s.mem := by cases c <;> rfl
@[simp] theorem State.setCore_tags (s : State) (c : CoreId) (k : Core) : (s.setCore c k).tags = s.tags := by cases c <;> rfl
@[simp] theorem State.setCore_rowInit (s : State) (c : CoreId) (k : Core) : (s.setCore c k).rowInit = s.rowInit := by cases c <;> rfl
@[simp] theorem State.setCore_memKeys (s : State) (c : CoreId) (k : Core) : (s.setCore c k).memKeys = s.memKeys := by cases c <;> rfl
@[simp] theorem State.setCore_epochs (s : State) (c : CoreId) (k : Core) : (s.setCore c k).epochs = s.epochs := by cases c <;> rfl
@[simp] theorem State.setCore_sweepDone (s : State) (c : CoreId) (k : Core) : (s.setCore c k).sweepDone = s.sweepDone := by cases c <;> rfl
@[simp] theorem State.setCore_gpio (s : State) (c : CoreId) (k : Core) : (s.setCore c k).gpio = s.gpio := by cases c <;> rfl
@[simp] theorem State.setCore_fab (s : State) (c : CoreId) (k : Core) : (s.setCore c k).fab = s.fab := by cases c <;> rfl
@[simp] theorem State.setCore_cloSecond (s : State) (c : CoreId) (k : Core) : (s.setCore c k).cloSecond = s.cloSecond := by cases c <;> rfl
@[simp] theorem State.setCore_cloWait (s : State) (c : CoreId) (k : Core) : (s.setCore c k).cloWait = s.cloWait := by cases c <;> rfl
@[simp] theorem State.setCore_sweep (s : State) (c : CoreId) (k : Core) : (s.setCore c k).sweep = s.sweep := by cases c <;> rfl
@[simp] theorem State.setCore_sweepLast (s : State) (c : CoreId) (k : Core) : (s.setCore c k).sweepLast = s.sweepLast := by cases c <;> rfl
@[simp] theorem State.setCore_col (s : State) (c : CoreId) (k : Core) : (s.setCore c k).col = s.col := by cases c <;> rfl
@[simp] theorem State.setCore_trlLines (s : State) (c : CoreId) (k : Core) : (s.setCore c k).trlLines = s.trlLines := by cases c <;> rfl
@[simp] theorem State.setCore_mpuActive (s : State) (c : CoreId) (k : Core) : (s.setCore c k).mpuActive = s.mpuActive := by cases c <;> rfl
@[simp] theorem State.setCore_intcSample (s : State) (c : CoreId) (k : Core) : (s.setCore c k).intcSample = s.intcSample := by cases c <;> rfl
@[simp] theorem State.setCore_aon (s : State) (c : CoreId) (k : Core) : (s.setCore c k).aon = s.aon := by cases c <;> rfl
@[simp] theorem State.setCore_flash (s : State) (c : CoreId) (k : Core) : (s.setCore c k).flash = s.flash := by cases c <;> rfl
@[simp] theorem State.setCore_ldg (s : State) (c : CoreId) (k : Core) : (s.setCore c k).ldg = s.ldg := by cases c <;> rfl
@[simp] theorem State.setCore_lc (s : State) (c : CoreId) (k : Core) : (s.setCore c k).lc = s.lc := by cases c <;> rfl
@[simp] theorem State.setCore_slots (s : State) (c : CoreId) (k : Core) : (s.setCore c k).slots = s.slots := by cases c <;> rfl
@[simp] theorem State.setCore_ent (s : State) (c : CoreId) (k : Core) : (s.setCore c k).ent = s.ent := by cases c <;> rfl
@[simp] theorem State.setCore_cry (s : State) (c : CoreId) (k : Core) : (s.setCore c k).cry = s.cry := by cases c <;> rfl
@[simp] theorem State.setCore_trl (s : State) (c : CoreId) (k : Core) : (s.setCore c k).trl = s.trl := by cases c <;> rfl
@[simp] theorem State.setCore_rules (s : State) (c : CoreId) (k : Core) : (s.setCore c k).rules = s.rules := by cases c <;> rfl
@[simp] theorem State.setCore_rin (s : State) (c : CoreId) (k : Core) : (s.setCore c k).rin = s.rin := by cases c <;> rfl
@[simp] theorem State.setCore_eth0 (s : State) (c : CoreId) (k : Core) : (s.setCore c k).eth0 = s.eth0 := by cases c <;> rfl
@[simp] theorem State.setCore_eth1 (s : State) (c : CoreId) (k : Core) : (s.setCore c k).eth1 = s.eth1 := by cases c <;> rfl
@[simp] theorem State.setCore_mdio (s : State) (c : CoreId) (k : Core) : (s.setCore c k).mdio = s.mdio := by cases c <;> rfl
@[simp] theorem State.setCore_radio (s : State) (c : CoreId) (k : Core) : (s.setCore c k).radio = s.radio := by cases c <;> rfl
@[simp] theorem State.setCore_sieve (s : State) (c : CoreId) (k : Core) : (s.setCore c k).sieve = s.sieve := by cases c <;> rfl
@[simp] theorem State.setCore_gcb (s : State) (c : CoreId) (k : Core) : (s.setCore c k).gcb = s.gcb := by cases c <;> rfl
@[simp] theorem State.setCore_hlkUnderrun (s : State) (c : CoreId) (k : Core) : (s.setCore c k).hlkUnderrun = s.hlkUnderrun := by cases c <;> rfl
@[simp] theorem State.setCore_mgp (s : State) (c : CoreId) (k : Core) : (s.setCore c k).mgp = s.mgp := by cases c <;> rfl
@[simp] theorem State.setCore_prb (s : State) (c : CoreId) (k : Core) : (s.setCore c k).prb = s.prb := by cases c <;> rfl
@[simp] theorem State.setCore_adc (s : State) (c : CoreId) (k : Core) : (s.setCore c k).adc = s.adc := by cases c <;> rfl
@[simp] theorem State.setCore_logQueue (s : State) (c : CoreId) (k : Core) : (s.setCore c k).logQueue = s.logQueue := by cases c <;> rfl
@[simp] theorem State.setCore_logLoss (s : State) (c : CoreId) (k : Core) : (s.setCore c k).logLoss = s.logLoss := by cases c <;> rfl
@[simp] theorem State.setCore_trcFifo (s : State) (c : CoreId) (k : Core) : (s.setCore c k).trcFifo = s.trcFifo := by cases c <;> rfl
@[simp] theorem State.setCore_trcLost (s : State) (c : CoreId) (k : Core) : (s.setCore c k).trcLost = s.trcLost := by cases c <;> rfl
@[simp] theorem State.setCore_cloReport (s : State) (c : CoreId) (k : Core) : (s.setCore c k).cloReport = s.cloReport := by cases c <;> rfl
@[simp] theorem State.setCore_cloGen (s : State) (c : CoreId) (k : Core) : (s.setCore c k).cloGen = s.cloGen := by cases c <;> rfl
@[simp] theorem State.setCore_resp (s : State) (c : CoreId) (k : Core) : (s.setCore c k).resp = s.resp := by cases c <;> rfl
@[simp] theorem State.setCore_fresh (s : State) (c : CoreId) (k : Core) : (s.setCore c k).fresh = s.fresh := by cases c <;> rfl

@[simp] theorem State.modCore_pending (s : State) (c : CoreId) (f : Core → Core) : (s.modCore c f).pending = s.pending := by cases c <;> rfl
@[simp] theorem State.modCore_regs (s : State) (c : CoreId) (f : Core → Core) : (s.modCore c f).regs = s.regs := by cases c <;> rfl
@[simp] theorem State.modCore_lockKeys (s : State) (c : CoreId) (f : Core → Core) : (s.modCore c f).lockKeys = s.lockKeys := by cases c <;> rfl
@[simp] theorem State.modCore_mem (s : State) (c : CoreId) (f : Core → Core) : (s.modCore c f).mem = s.mem := by cases c <;> rfl
@[simp] theorem State.modCore_tags (s : State) (c : CoreId) (f : Core → Core) : (s.modCore c f).tags = s.tags := by cases c <;> rfl
@[simp] theorem State.modCore_rowInit (s : State) (c : CoreId) (f : Core → Core) : (s.modCore c f).rowInit = s.rowInit := by cases c <;> rfl
@[simp] theorem State.modCore_memKeys (s : State) (c : CoreId) (f : Core → Core) : (s.modCore c f).memKeys = s.memKeys := by cases c <;> rfl
@[simp] theorem State.modCore_epochs (s : State) (c : CoreId) (f : Core → Core) : (s.modCore c f).epochs = s.epochs := by cases c <;> rfl
@[simp] theorem State.modCore_sweepDone (s : State) (c : CoreId) (f : Core → Core) : (s.modCore c f).sweepDone = s.sweepDone := by cases c <;> rfl
@[simp] theorem State.modCore_gpio (s : State) (c : CoreId) (f : Core → Core) : (s.modCore c f).gpio = s.gpio := by cases c <;> rfl
@[simp] theorem State.modCore_fab (s : State) (c : CoreId) (f : Core → Core) : (s.modCore c f).fab = s.fab := by cases c <;> rfl
@[simp] theorem State.modCore_cloSecond (s : State) (c : CoreId) (f : Core → Core) : (s.modCore c f).cloSecond = s.cloSecond := by cases c <;> rfl
@[simp] theorem State.modCore_cloWait (s : State) (c : CoreId) (f : Core → Core) : (s.modCore c f).cloWait = s.cloWait := by cases c <;> rfl
@[simp] theorem State.modCore_sweep (s : State) (c : CoreId) (f : Core → Core) : (s.modCore c f).sweep = s.sweep := by cases c <;> rfl
@[simp] theorem State.modCore_sweepLast (s : State) (c : CoreId) (f : Core → Core) : (s.modCore c f).sweepLast = s.sweepLast := by cases c <;> rfl
@[simp] theorem State.modCore_col (s : State) (c : CoreId) (f : Core → Core) : (s.modCore c f).col = s.col := by cases c <;> rfl
@[simp] theorem State.modCore_trlLines (s : State) (c : CoreId) (f : Core → Core) : (s.modCore c f).trlLines = s.trlLines := by cases c <;> rfl
@[simp] theorem State.modCore_mpuActive (s : State) (c : CoreId) (f : Core → Core) : (s.modCore c f).mpuActive = s.mpuActive := by cases c <;> rfl
@[simp] theorem State.modCore_intcSample (s : State) (c : CoreId) (f : Core → Core) : (s.modCore c f).intcSample = s.intcSample := by cases c <;> rfl
@[simp] theorem State.modCore_aon (s : State) (c : CoreId) (f : Core → Core) : (s.modCore c f).aon = s.aon := by cases c <;> rfl
@[simp] theorem State.modCore_flash (s : State) (c : CoreId) (f : Core → Core) : (s.modCore c f).flash = s.flash := by cases c <;> rfl
@[simp] theorem State.modCore_ldg (s : State) (c : CoreId) (f : Core → Core) : (s.modCore c f).ldg = s.ldg := by cases c <;> rfl
@[simp] theorem State.modCore_lc (s : State) (c : CoreId) (f : Core → Core) : (s.modCore c f).lc = s.lc := by cases c <;> rfl
@[simp] theorem State.modCore_slots (s : State) (c : CoreId) (f : Core → Core) : (s.modCore c f).slots = s.slots := by cases c <;> rfl
@[simp] theorem State.modCore_ent (s : State) (c : CoreId) (f : Core → Core) : (s.modCore c f).ent = s.ent := by cases c <;> rfl
@[simp] theorem State.modCore_cry (s : State) (c : CoreId) (f : Core → Core) : (s.modCore c f).cry = s.cry := by cases c <;> rfl
@[simp] theorem State.modCore_trl (s : State) (c : CoreId) (f : Core → Core) : (s.modCore c f).trl = s.trl := by cases c <;> rfl
@[simp] theorem State.modCore_rules (s : State) (c : CoreId) (f : Core → Core) : (s.modCore c f).rules = s.rules := by cases c <;> rfl
@[simp] theorem State.modCore_rin (s : State) (c : CoreId) (f : Core → Core) : (s.modCore c f).rin = s.rin := by cases c <;> rfl
@[simp] theorem State.modCore_eth0 (s : State) (c : CoreId) (f : Core → Core) : (s.modCore c f).eth0 = s.eth0 := by cases c <;> rfl
@[simp] theorem State.modCore_eth1 (s : State) (c : CoreId) (f : Core → Core) : (s.modCore c f).eth1 = s.eth1 := by cases c <;> rfl
@[simp] theorem State.modCore_mdio (s : State) (c : CoreId) (f : Core → Core) : (s.modCore c f).mdio = s.mdio := by cases c <;> rfl
@[simp] theorem State.modCore_radio (s : State) (c : CoreId) (f : Core → Core) : (s.modCore c f).radio = s.radio := by cases c <;> rfl
@[simp] theorem State.modCore_sieve (s : State) (c : CoreId) (f : Core → Core) : (s.modCore c f).sieve = s.sieve := by cases c <;> rfl
@[simp] theorem State.modCore_gcb (s : State) (c : CoreId) (f : Core → Core) : (s.modCore c f).gcb = s.gcb := by cases c <;> rfl
@[simp] theorem State.modCore_hlkUnderrun (s : State) (c : CoreId) (f : Core → Core) : (s.modCore c f).hlkUnderrun = s.hlkUnderrun := by cases c <;> rfl
@[simp] theorem State.modCore_mgp (s : State) (c : CoreId) (f : Core → Core) : (s.modCore c f).mgp = s.mgp := by cases c <;> rfl
@[simp] theorem State.modCore_prb (s : State) (c : CoreId) (f : Core → Core) : (s.modCore c f).prb = s.prb := by cases c <;> rfl
@[simp] theorem State.modCore_adc (s : State) (c : CoreId) (f : Core → Core) : (s.modCore c f).adc = s.adc := by cases c <;> rfl
@[simp] theorem State.modCore_logQueue (s : State) (c : CoreId) (f : Core → Core) : (s.modCore c f).logQueue = s.logQueue := by cases c <;> rfl
@[simp] theorem State.modCore_logLoss (s : State) (c : CoreId) (f : Core → Core) : (s.modCore c f).logLoss = s.logLoss := by cases c <;> rfl
@[simp] theorem State.modCore_trcFifo (s : State) (c : CoreId) (f : Core → Core) : (s.modCore c f).trcFifo = s.trcFifo := by cases c <;> rfl
@[simp] theorem State.modCore_trcLost (s : State) (c : CoreId) (f : Core → Core) : (s.modCore c f).trcLost = s.trcLost := by cases c <;> rfl
@[simp] theorem State.modCore_cloReport (s : State) (c : CoreId) (f : Core → Core) : (s.modCore c f).cloReport = s.cloReport := by cases c <;> rfl
@[simp] theorem State.modCore_cloGen (s : State) (c : CoreId) (f : Core → Core) : (s.modCore c f).cloGen = s.cloGen := by cases c <;> rfl
@[simp] theorem State.modCore_resp (s : State) (c : CoreId) (f : Core → Core) : (s.modCore c f).resp = s.resp := by cases c <;> rfl
@[simp] theorem State.modCore_fresh (s : State) (c : CoreId) (f : Core → Core) : (s.modCore c f).fresh = s.fresh := by cases c <;> rfl

end Sys2Proof.Machine
end

