-- ==== Sys2Proof/Laws/Tables.lean ====
section
/-!
SUPPORT. Sparse tables: a read after a write, and that every operation keeps the canonical form.
-/
namespace Sys2Proof.Machine
open Sys2Proof

theorem tabGet_tabDel {α : Type} (d : α) (k k' : Nat) (t : List (Nat × α)) :
    tabGet d (tabDel k t) k' = if k' = k then d else tabGet d t k' := by
  induction t with
  | nil => simp [tabDel, tabGet]
  | cons e t ih =>
    obtain ⟨a, v⟩ := e
    by_cases h : k = a
    · subst h
      by_cases h' : k' = k <;> simp_all [tabDel, tabGet]
    · by_cases h' : k' = a
      · have : ¬ k' = k := fun e => h (by omega)
        simp_all [tabDel, tabGet]
      · simp_all [tabDel, tabGet]

/-- A read after a write: the value at its key, and every other key as before. -/
theorem tabGet_tabSet {α : Type} [DecidableEq α] (d : α) (k k' : Nat) (v : α) (t : List (Nat × α)) :
    tabGet d (tabSet d k v t) k' = if k' = k then v else tabGet d t k' := by
  induction t with
  | nil => by_cases hv : v = d <;> by_cases h : k' = k <;> simp_all [tabSet, tabGet]
  | cons e t ih =>
    obtain ⟨a, w⟩ := e
    have hd := tabGet_tabDel d k k' t
    by_cases h1 : k < a
    · by_cases h' : k' = a
      · by_cases hv : v = d <;> simp [tabSet, tabGet, h1, hv, h'] <;> omega
      · by_cases hv : v = d <;> by_cases h : k' = k <;> simp_all [tabSet, tabGet]
    · by_cases h2 : k = a
      · subst h2
        by_cases h : k' = k <;> simp_all [tabSet, tabGet]
      · by_cases h' : k' = a
        · simp [tabSet, tabGet, h1, h2, h']
          omega
        · simp [tabSet, tabGet, h1, h2, h', ih]

theorem tabGet_tabDel_other {α : Type} (d : α) (k k' : Nat) (t : List (Nat × α)) (h : ¬ k' = k) :
    tabGet d (tabDel k t) k' = tabGet d t k' := by
  simp [tabGet_tabDel, h]

/-- A read at another key, whatever its default. -/
theorem tabGet_tabSet_other {α : Type} [DecidableEq α] (d d' : α) (k k' : Nat) (v : α) (t : List (Nat × α)) (h : ¬ k' = k) :
    tabGet d' (tabSet d k v t) k' = tabGet d' t k' := by
  induction t with
  | nil => by_cases hv : v = d <;> simp [tabSet, tabGet, hv, h]
  | cons e t ih =>
    obtain ⟨a, w⟩ := e
    have hd := tabGet_tabDel_other d' k k' t h
    by_cases h1 : k < a
    · by_cases hv : v = d <;> simp [tabSet, tabGet, h1, hv, h, hd]
    · by_cases h2 : k = a
      · subst h2
        simp [tabSet, tabGet, h, ih]
      · simp [tabSet, tabGet, h1, h2, ih]

/-- Keys of a table in canonical form lie above `lo`. -/
def tabAbove {α : Type} (lo : Nat) (t : List (Nat × α)) : Prop := ∀ e ∈ t, lo < e.1

theorem tabWf_cons {α : Type} [DecidableEq α] (d : Nat → α) (k : Nat) (v : α) (t : List (Nat × α)) :
    tabWf d ((k, v) :: t) = true ↔ v ≠ d k ∧ tabAbove k t ∧ tabWf d t = true := by
  induction t generalizing k v with
  | nil => simp [tabWf, tabAbove]
  | cons e t ih =>
    obtain ⟨a, w⟩ := e
    simp only [tabWf, Bool.and_eq_true, decide_eq_true_eq]
    constructor
    · rintro ⟨⟨h1, h2⟩, h3⟩
      refine ⟨h1, ?_, h3⟩
      intro e he
      rcases List.mem_cons.1 he with rfl | he
      · exact h2
      · have := ((ih a w).1 h3).2.1 e he
        omega
    · rintro ⟨h1, h2, h3⟩
      exact ⟨⟨h1, h2 _ (List.mem_cons_self ..)⟩, h3⟩

theorem mem_tabDel {α : Type} (k : Nat) (t : List (Nat × α)) (e : Nat × α) (h : e ∈ tabDel k t) : e ∈ t := by
  induction t with
  | nil => simp [tabDel] at h
  | cons x t ih =>
    obtain ⟨a, v⟩ := x
    by_cases hk : k = a
    · simp only [tabDel, hk, if_true] at h
      exact List.mem_cons_of_mem _ (ih (by simpa [hk] using h))
    · simp only [tabDel, hk, if_false, List.mem_cons] at h
      rcases h with h | h
      · simp [h]
      · exact List.mem_cons_of_mem _ (ih h)

theorem tabWf_tabDel {α : Type} [DecidableEq α] (d : Nat → α) (k : Nat) (t : List (Nat × α)) (h : tabWf d t = true) :
    tabWf d (tabDel k t) = true := by
  induction t with
  | nil => simp [tabDel, tabWf]
  | cons x t ih =>
    obtain ⟨a, v⟩ := x
    obtain ⟨h1, h2, h3⟩ := (tabWf_cons d a v t).1 h
    by_cases hk : k = a
    · simpa [tabDel, hk] using (by simpa [hk] using ih h3)
    · simp only [tabDel, hk, if_false]
      exact (tabWf_cons ..).2 ⟨h1, fun e he => h2 e (mem_tabDel k t e he), ih h3⟩

theorem mem_tabSet {α : Type} [DecidableEq α] (d : α) (k : Nat) (v : α) (t : List (Nat × α)) (e : Nat × α) (h : e ∈ tabSet d k v t) :
    e ∈ t ∨ e.1 = k := by
  induction t with
  | nil => by_cases hv : v = d <;> simp_all [tabSet]
  | cons x t ih =>
    obtain ⟨a, w⟩ := x
    by_cases h1 : k < a
    · by_cases hv : v = d
      · simp only [tabSet, h1, hv, if_true, List.mem_cons] at h
        rcases h with h | h
        · simp [h]
        · exact .inl (List.mem_cons_of_mem _ (mem_tabDel k t e h))
      · simp only [tabSet, h1, hv, if_true, if_false, List.mem_cons] at h
        rcases h with h | h | h
        · simp [h]
        · simp [h]
        · exact .inl (List.mem_cons_of_mem _ (mem_tabDel k t e h))
    · by_cases h2 : k = a
      · simp only [tabSet, h2, if_true, Nat.lt_irrefl, if_false] at h
        rcases ih (by simpa [h2] using h) with h | h
        · exact .inl (List.mem_cons_of_mem _ h)
        · exact .inr h
      · simp only [tabSet, h1, h2, if_false, List.mem_cons] at h
        rcases h with h | h
        · simp [h]
        · rcases ih h with h | h
          · exact .inl (List.mem_cons_of_mem _ h)
          · exact .inr h

/-- A write keeps the canonical form. -/
theorem tabWf_tabSet {α : Type} [DecidableEq α] (d : Nat → α) (k : Nat) (v : α) (t : List (Nat × α)) (h : tabWf d t = true) :
    tabWf d (tabSet (d k) k v t) = true := by
  induction t with
  | nil => by_cases hv : v = d k <;> simp_all [tabSet, tabWf]
  | cons x t ih =>
    obtain ⟨a, w⟩ := x
    obtain ⟨h1, h2, h3⟩ := (tabWf_cons d a w t).1 h
    have hdel : tabAbove a (tabDel k t) := fun e he => h2 e (mem_tabDel k t e he)
    have hw := tabWf_tabDel d k t h3
    by_cases h4 : k < a
    · by_cases hv : v = d k
      · simp only [tabSet, h4, hv, if_true]
        exact (tabWf_cons ..).2 ⟨h1, hdel, hw⟩
      · simp only [tabSet, h4, hv, if_true, if_false]
        refine (tabWf_cons ..).2 ⟨hv, ?_, (tabWf_cons ..).2 ⟨h1, hdel, hw⟩⟩
        intro e he
        rcases List.mem_cons.1 he with rfl | he
        · exact h4
        · have := hdel e he
          omega
    · by_cases h5 : k = a
      · subst h5
        simpa [tabSet] using ih h3
      · simp only [tabSet, h4, h5, if_false]
        refine (tabWf_cons ..).2 ⟨h1, ?_, ih h3⟩
        intro e he
        rcases mem_tabSet (d k) k v t e he with he | he
        · exact h2 e he
        · omega

/-- Dropping entries keeps the canonical form. -/
theorem tabWf_tabDrop {α : Type} [DecidableEq α] (d : Nat → α) (p : Nat → Bool) (t : List (Nat × α)) (h : tabWf d t = true) :
    tabWf d (tabDrop p t) = true := by
  induction t with
  | nil => simp [tabDrop, tabWf]
  | cons x t ih =>
    obtain ⟨a, v⟩ := x
    obtain ⟨h1, h2, h3⟩ := (tabWf_cons d a v t).1 h
    have := ih h3
    by_cases hp : p a
    · simpa [tabDrop, hp] using this
    · have e : tabDrop p ((a, v) :: t) = (a, v) :: tabDrop p t := by simp [tabDrop, hp]
      rw [e]
      exact (tabWf_cons ..).2 ⟨h1, fun e he => h2 e (List.mem_filter.1 he).1, this⟩

/-- A read after entries were dropped. -/
theorem tabGet_tabDrop {α : Type} (d : α) (p : Nat → Bool) (k : Nat) (t : List (Nat × α)) :
    tabGet d (tabDrop p t) k = if p k then d else tabGet d t k := by
  induction t with
  | nil => simp [tabDrop, tabGet]
  | cons x t ih =>
    obtain ⟨a, v⟩ := x
    by_cases hp : p a
    · have e : tabDrop p ((a, v) :: t) = tabDrop p t := by simp [tabDrop, hp]
      rw [e, ih]
      by_cases hk : k = a <;> simp_all [tabGet]
    · have e : tabDrop p ((a, v) :: t) = (a, v) :: tabDrop p t := by simp [tabDrop, hp]
      rw [e]
      by_cases hk : k = a <;> simp_all [tabGet]

end Sys2Proof.Machine
end

