-- ==== Sys2Proof/Laws/Registers.lean ====
section
/-!
SUPPORT. Registers and fields: a read after a write, and fields of one register beside each other.
-/
namespace Sys2Proof.Machine
open Sys2Proof

@[simp] theorem State.reg_setReg (s : State) (a : Nat) (w : Word) (b : Nat) :
    (s.setReg a w).reg b = if b = a then w else s.reg b := tabGet_tabSet ..

@[simp] theorem State.reg_put (s : State) (f : Fld) (v b : Nat) :
    (s.put f v).reg b = if b = f.addr then f.put v (s.reg f.addr) else s.reg b := tabGet_tabSet ..

/-- A field lies in its register. -/
def Fld.ok (f : Fld) : Bool := decide (f.lo ≤ f.hi ∧ f.hi ≤ 31)

theorem Fld.testBit_get (f : Fld) (w : Word) (i : Nat) :
    (f.get w).testBit i = (decide (i < f.width) && w.toNat.testBit (f.lo + i)) := by
  simp [Fld.get, Nat.testBit_mod_two_pow, Nat.testBit_shiftRight]

theorem Fld.getLsbD_mask (f : Fld) (i : Nat) (h : f.ok = true) :
    f.mask.getLsbD i = decide (f.lo ≤ i ∧ i ≤ f.hi) := by
  have h' : f.lo ≤ f.hi ∧ f.hi ≤ 31 := by simpa [Fld.ok] using h
  simp only [Fld.mask, Fld.max, BitVec.getLsbD_ofNat, Nat.testBit_shiftLeft, Nat.testBit_two_pow_sub_one, Fld.width]
  by_cases h1 : f.lo ≤ i <;> by_cases h2 : i ≤ f.hi <;> simp [h1, h2] <;> omega

theorem Fld.getLsbD_put (f : Fld) (v : Nat) (w : Word) (i : Nat) (h : f.ok = true) (hi : i < 32) :
    (f.put v w).getLsbD i = if f.lo ≤ i ∧ i ≤ f.hi then v.testBit (i - f.lo) else w.getLsbD i := by
  have h' : f.lo ≤ f.hi ∧ f.hi ≤ 31 := by simpa [Fld.ok] using h
  simp only [Fld.put, BitVec.getLsbD_or, BitVec.getLsbD_and, BitVec.getLsbD_not, Fld.getLsbD_mask f i h, BitVec.getLsbD_ofNat,
    Nat.testBit_shiftLeft, Nat.testBit_mod_two_pow, Fld.width]
  by_cases h1 : f.lo ≤ i <;> by_cases h2 : i ≤ f.hi <;> simp [h1, h2, hi] <;> omega

/-- A field reads what was put there, modulo its width. -/
theorem Fld.get_put (f : Fld) (v : Nat) (w : Word) (h : f.ok = true) : f.get (f.put v w) = v % 2 ^ f.width := by
  have h' : f.lo ≤ f.hi ∧ f.hi ≤ 31 := by simpa [Fld.ok] using h
  apply Nat.eq_of_testBit_eq
  intro i
  rw [Fld.testBit_get, Nat.testBit_mod_two_pow]
  by_cases hi : i < f.width
  · have h3 : f.lo + i < 32 := by simp only [Fld.width] at hi; omega
    have h4 : f.lo + i ≤ f.hi := by simp only [Fld.width] at hi; omega
    have := Fld.getLsbD_put f v w (f.lo + i) h h3
    simp only [BitVec.getLsbD] at this
    simp [hi, this, h4]
  · simp [hi]

/-- A field beside another of the same register keeps its value. -/
theorem Fld.get_put_other (f g : Fld) (v : Nat) (w : Word) (h : f.ok = true) (hg : g.ok = true) (d : f.hi < g.lo ∨ g.hi < f.lo) :
    g.get (f.put v w) = g.get w := by
  have hg' : g.lo ≤ g.hi ∧ g.hi ≤ 31 := by simpa [Fld.ok] using hg
  apply Nat.eq_of_testBit_eq
  intro i
  rw [Fld.testBit_get, Fld.testBit_get]
  by_cases hi : i < g.width
  · have h3 : g.lo + i < 32 := by simp only [Fld.width] at hi; omega
    have h4 : g.lo + i ≤ g.hi := by simp only [Fld.width] at hi; omega
    have := Fld.getLsbD_put f v w (g.lo + i) h h3
    simp only [BitVec.getLsbD] at this
    rw [this, if_neg (by omega)]
  · simp [hi]

/-- A field after a put: its new value; a field of another register, or beside it, as before. -/
theorem State.get_put (s : State) (f : Fld) (v : Nat) (h : f.ok = true) : (s.put f v).get f = v % 2 ^ f.width := by
  simp [State.get, Fld.get_put, h]

theorem State.get_put_addr (s : State) (f g : Fld) (v : Nat) (h : g.addr ≠ f.addr) : (s.put f v).get g = s.get g := by
  simp [State.get, h]

theorem State.get_put_other (s : State) (f g : Fld) (v : Nat) (h : f.ok = true) (hg : g.ok = true)
    (d : f.hi < g.lo ∨ g.hi < f.lo) : (s.put f v).get g = s.get g := by
  by_cases ha : g.addr = f.addr
  · simp [State.get, ha, Fld.get_put_other f g v _ h hg d]
  · exact State.get_put_addr s f g v ha

end Sys2Proof.Machine
end

