-- ==== Sys2Proof/Laws/Memory.lean ====
section
/-!
SUPPORT. Memory and tags: a read after a write, bytes outside a write, and the canonical form of memory.
-/
namespace Sys2Proof.Machine
open Sys2Proof

/-- A byte after a store of one byte. -/
@[simp] theorem State.byte_setByte (s : State) (a : Nat) (b : Byte) (x : Nat) :
    (s.setByte a b).byte x = if x = a then b else s.byte x := by
  by_cases h : x = a
  · subst h
    simp [State.byte, State.setByte, tabGet_tabSet]
  · simp [State.byte, State.setByte, h, tabGet_tabSet_other]

theorem State.setByte_wf (s : State) (a : Nat) (b : Byte) (h : Memory.wf s.mem = true) :
    Memory.wf (s.setByte a b).mem = true := tabWf_tabSet memDefault a b s.mem h

/-- Stored bytes: inside the range the bytes given, outside it the bytes before. -/
theorem State.byte_setBytes (s : State) (a : Nat) (bs : List Byte) (x : Nat) :
    (s.setBytes a bs).byte x = if a ≤ x ∧ x < a + bs.length then bs.getD (x - a) 0 else s.byte x := by
  induction bs generalizing s a with
  | nil => simp only [State.setBytes, List.length_nil]; rw [if_neg (by omega)]
  | cons b bs ih =>
    simp only [State.setBytes, ih, State.byte_setByte, List.length_cons]
    by_cases h1 : x = a
    · subst h1
      rw [if_neg (by omega), if_pos rfl, if_pos (by omega), Nat.sub_self]
      rfl
    · by_cases h2 : a + 1 ≤ x ∧ x < a + 1 + bs.length
      · have h3 : a ≤ x ∧ x < a + (bs.length + 1) := by omega
        obtain ⟨n, hn⟩ : ∃ n, x - a = n + 1 := ⟨x - a - 1, by omega⟩
        have h4 : x - (a + 1) = n := by omega
        rw [if_pos h2, if_pos h3, hn, h4]
        rfl
      · rw [if_neg h2, if_neg h1, if_neg (by omega)]

/-- Storing bytes keeps the canonical form of memory. -/
theorem State.setBytes_wf (s : State) (a : Nat) (bs : List Byte) (h : Memory.wf s.mem = true) :
    Memory.wf (s.setBytes a bs).mem = true := by
  induction bs generalizing s a with
  | nil => simpa [State.setBytes] using h
  | cons b bs ih => exact ih _ _ (tabWf_tabSet memDefault a b s.mem h)

/-- Forgetting a range of memory keeps the canonical form. -/
theorem State.clearMem_wf (s : State) (lo hi : Nat) (h : Memory.wf s.mem = true) : Memory.wf (s.clearMem lo hi).mem = true :=
  tabWf_tabDrop memDefault (fun a => decide (lo ≤ a ∧ a < hi)) s.mem h

@[simp] theorem State.tag_setTag (s : State) (g : Nat) (b : Bool) (x : Nat) :
    (s.setTag g b).tag x = if x = g then b else s.tag x := tabGet_tabSet ..

end Sys2Proof.Machine
end

