-- ==== Sys2Proof/Safety.lean ====
section
/-!
DEFINITION. The terms that claims use: when a core runs its next instruction, when a register write reaches its register, and what
every step keeps.
-/
namespace Sys2Proof.Machine
open Sys2Proof

/-- What every step keeps: each sparse table of the state in its one canonical form. -/
def State.Inv (s : State) : Prop := s.tablesWf = true

/-- Core `c` is at an instruction boundary with nothing before its next fetch: it executes and waits for no access, no halt is due, and no event
comes first (R148, R185, R232). -/
def State.atBoundary (s : State) (c : CoreId) : Prop :=
  (s.core c).executing = true ∧ (s.core c).haltDue = false ∧ (s.core c).stalled = none ∧ s.eventTaken c = none

/-- Core `c` runs its next instruction: it is at such a boundary, and the fetch at pc passes its checks and does not wait (R82, R158). What the
instruction does, it does to `s.fetched c`. -/
def State.runs (s : State) (c : CoreId) : Prop :=
  s.atBoundary c ∧ s.fetchCheck c (s.core c).world (s.core c).bank.pcc (s.core c).pc.toNat = none ∧ s.fetchStalls c = false

/-- A 32-bit write by `ini` reaches the register at `a`: its domain serves, the channel is admitted, and the page's owner allows it
(R20, R29, R43, R82, R580). -/
def State.reaches (s : State) (ini : Ini) (a : Nat) : Prop :=
  s.risingAt a = false ∧ s.domainReady (pageDomain (pageOf a)) = true ∧ pageAdmits ini = true ∧ s.mayAccess ini (s.iniWorld ini) true a = true

/-- Nothing keeps a writer from any field of page `p`: it acts for the Glasshouse, and the page is unlocked (R31, R36). -/
def State.unhindered (s : State) (ini : Ini) (p : Nat) : Prop := s.iniWorld ini = .glass ∧ s.locked p = false

/-- What a command from a sender that meets no bus error ends with: the answer, and what follows at once (R533, R584). -/
def State.done (s : State) : Out := .next (s.answer [] 0).settle

/-- A trap or severe event of core `c` can be taken at offset `off`: the fetch from TVEC passes its checks (R212). -/
def State.vectorOk (s : State) (c : CoreId) (off : Nat) : Prop :=
  s.fetchCheck c (s.core c).world (s.core c).bank.tvec off = none

/-- What taking a trap at level `l` through vector offset `off` makes of a core (R211): the trap registers hold the cause, the pc and
the fault's values, EPCC holds PCC, and it goes on at the vector; general and capability registers stay. -/
def Core.tookTrap (k k' : Core) (l off cls sub tval taddr : Nat) : Prop :=
  k'.world = k.world ∧ k'.w = k.w ∧ k'.bank.c = k.bank.c ∧ k'.resv = none ∧ k'.mask = l ∧ k'.pc = BitVec.ofNat 32 off ∧
    k'.bank.tcause = BitVec.ofNat 32 (cls + 2 ^ 8 * sub + 2 ^ 16 * l + 2 ^ 20 * k.mask) ∧ k'.bank.tpc = k.pc ∧
    k'.bank.tval = BitVec.ofNat 32 tval ∧ k'.bank.taddr = BitVec.ofNat 32 taddr ∧ k'.bank.epcc = k.bank.pcc ∧
    k'.bank.pcc = k.bank.tvec ∧ k'.bank.tvec = k.bank.tvec

/-- Command `i` of core `c` transfers to offset `t` of `pcc`, leaving core `k` there; a target that fails its check, first the bounds for four
bytes, then the alignment, raises the fault at the transfer (R158, R198). -/
def State.goesTo (s₀ : State) (c : CoreId) (i : Instr) (pcc : CapReg) (t : Word) (k : Core) : Prop :=
  let s := s₀.fetched c
  (t.toNat + 4 ≤ pcc.length → t.toNat % 4 = 0 → exec i s₀ = .next (s.setCore c { k with pc := t })) ∧
  (pcc.length < t.toNat + 4 → exec i s₀ = .next (s.raise c (fltBounds bndFETCH t.toNat (capAddr pcc t.toNat)))) ∧
  (t.toNat + 4 ≤ pcc.length → t.toNat % 4 ≠ 0 → exec i s₀ = .next (s.raise c (fltMisaligned t.toNat (capAddr pcc t.toNat))))

/-- Registers that the settling of a command may change: the latches of the interrupt lines and the alert bits. -/
def settledReg (a : Nat) : Bool := decide ((R.INTC.LINE ≤ a ∧ a < R.INTC.LINE + 512) ∨ a = R.MGP.ALERT)

/-- Of `s`, the state `t` differs in the registers at `as` alone, in what settles, and in the sender's answer: no core, no memory, no
hidden state of a block. -/
def State.changesOnly (s t : State) (as : List Nat) : Prop :=
  (∀ a, ¬ a ∈ as → settledReg a = true ∨ t.reg a = s.reg a) ∧
    { t with regs := s.regs, intcSample := s.intcSample, aon := { t.aon with alertLast := s.aon.alertLast }, resp := s.resp } = s

/-- A read by `ini` reaches the register at `a`. -/
def State.readable (s : State) (ini : Ini) (a : Nat) : Prop :=
  s.risingAt a = false ∧ s.domainReady (pageDomain (pageOf a)) = true ∧ pageAdmits ini = true ∧ s.mayAccess ini (s.iniWorld ini) false a = true

/-- Event bit `k` of page `p`. -/
def eventBit (p k : Nat) : Fld := (F.HDR.IRQ_RAW.raw.onPage p).bit k

/-- The service slot goes to ring `n`, which offers the engine a job with descriptor `d` and record `r`; `x` is the state that fetching the two
leaves (R339, R381, R393, R394). -/
def State.offersJob (s : State) (n : Nat) (d : Desc) (r : JobRec) (g : Integ) (x : State) : Prop :=
  s.pdOn 11 = true ∧ s.trl.cur = none ∧ s.nextRing [] = some n ∧ s.ringClient n = clCIPHER ∧
    let u := s.slotTo [] n
    ∃ v bs, u.fetchDesc n (u.cidx n) g = (v, some d) ∧ v.judgeDesc n d = rcOK ∧ v.dmaStalls d.w0 64 = false ∧
      v.dmaLoad .cipher (v.ringWorld n) g d.w0 64 = (x, bs, true) ∧ JobRec.of bs = r

/-- The engine's requests of an offered job are served (R326, R330): the state after them. -/
def State.jobServed (x : State) (r : JobRec) (u : State) : Prop :=
  x.drbgWaits = false ∧ u = foldState (fun _ s => s.drbgTake) (numsFrom (1 + r.inLen / 4096) 0) x

/-- A job that passes the checks of R334 has read its data and auxiliary data, none of which waits for a busy flash bank (R284), and its saved
context `prev` where it continues another (R337); `y` is the state that leaves. -/
def State.jobInput (x : State) (n : Nat) (r : JobRec) (g : Integ) (y : State) (aux prev data : List Byte) : Prop :=
  ∃ u v t, x.jobServed r u ∧ u.jobCheck n (x.ringWorld n) r = rcOK ∧ u.dmaStalls r.inAddr r.inLen = false ∧
    u.dmaStalls r.auxAddr r.auxNeed = false ∧ u.dmaLoad .cipher (x.ringWorld n) g r.inAddr r.inLen = (v, data, true) ∧
    v.dmaLoad .cipher (x.ringWorld n) g r.auxAddr r.auxNeed = (t, aux, true) ∧
    ((r.first = true ∧ prev = [] ∧ y = t) ∨
      r.first = false ∧ ∃ sealed c, t.dmaLoad .cipher (x.ringWorld n) g r.ctxAddr 256 = (y, sealed, true) ∧ prev = c.data ∧
        y.cry.ctxs.find? (fun c => decide (c.sealed = sealed ∧ c.ring = n ∧ c.op = r.op ∧ c.mode = r.mode)) = some c)

end Sys2Proof.Machine
end

