-- ==== Sys2Proof/Laws/Cores.lean ====
section
/-!
SUPPORT. Cores: register files, banks, and an instruction of a core that runs.
-/
namespace Sys2Proof.Machine
open Sys2Proof

@[simp] theorem State.core_setCore (s : State) (c : CoreId) (k : Core) (d : CoreId) :
    (s.setCore c k).core d = if d = c then k else s.core d := by
  cases c <;> cases d <;> rfl

@[simp] theorem State.core_modCore (s : State) (c : CoreId) (f : Core → Core) (d : CoreId) :
    (s.modCore c f).core d = if d = c then f (s.core c) else s.core d := by
  cases c <;> cases d <;> rfl

@[simp] theorem Core.rd_zero (k : Core) : k.rd 0 = 0 := rfl

@[simp] theorem Core.wr_zero (k : Core) (v : Word) : k.wr 0 v = k := rfl

/-- A general register after a write: w0 stays 0 (R150). -/
theorem Core.rd_wr (k : Core) (r q : Fin 32) (v : Word) : (k.wr r v).rd q = if q = r ∧ r ≠ 0 then v else k.rd q := by
  unfold Core.rd Core.wr
  by_cases hr : r.val = 0
  · have : r = 0 := Fin.ext hr
    simp [this]
  · have hr' : r ≠ 0 := fun h => hr (by simp [h])
    by_cases hq : q = r
    · subst hq
      simp [hr, hr']
    · have : r.val ≠ q.val := fun h => hq (Fin.ext h.symm)
      simp [hr, hq, this]

/-! ### What a fetch leaves -/

theorem State.pickWay_state (s : State) (ws us : List Nat) :
    (s.pickWay ws us).2.2 = s ∨ (s.pickWay ws us).2.2 = { s with fresh := s.fresh + 1 } := by
  unfold State.pickWay
  split
  · exact .inl rfl
  · exact .inr rfl

/-- A fetch fills the instruction cache of its core, may draw a free value, and does nothing else. -/
theorem State.fillCode_cases (s : State) (c : CoreId) (a : Nat) :
    ∃ (f : Core → List (Nat × Nat)) (n : Nat), s.fillCode c a = ({ s with fresh := n }).modCore c fun k => { k with icache := f k } := by
  unfold State.fillCode
  dsimp only
  split
  · exact ⟨fun k => k.icache, s.fresh, by cases c <;> rfl⟩
  · have h := State.pickWay_state s (if (s.core c).world = World.glass then [3] else [0, 1, 2])
      (((s.core c).icache.filter fun l => sameSet l.1 a).map (·.2))
    generalize s.pickWay (if (s.core c).world = World.glass then [3] else [0, 1, 2])
      (((s.core c).icache.filter fun l => sameSet l.1 a).map (·.2)) = p at h ⊢
    obtain ⟨v, b, u⟩ := p
    obtain h | h := h <;> dsimp only at h <;> subst h
    · exact ⟨fun k => (k.icache.filter fun l => !(sameSet l.1 a && decide (l.2 = v))) ++ [(lineOf a, v)], u.fresh, by cases c <;> rfl⟩
    · exact ⟨fun k => (k.icache.filter fun l => !(sameSet l.1 a && decide (l.2 = v))) ++ [(lineOf a, v)], s.fresh + 1, by cases c <;> rfl⟩

/-- What a boundary does before an instruction: deferred lines are counted, and the instruction cache is filled. -/
theorem State.fetched_cases (s : State) (c : CoreId) :
    ∃ (f : Core → List (Nat × Nat)) (n : Nat),
      s.fetched c = { (({ s.deferLines c with fresh := n }).modCore c fun k => { k with icache := f k }) with fab := { s.fab with bump := none } } := by
  obtain ⟨f, n, h⟩ := State.fillCode_cases (s.deferLines c) c (s.core c).fetchAddr
  refine ⟨f, n, ?_⟩
  unfold State.fetched
  rw [h]

/-- An instruction of a core that runs has its effect, on what the fetch leaves. -/
theorem State.execOn_runs (s : State) (c : CoreId) (f : State → State) (h : s.runs c) : s.execOn c f = f (s.fetched c) := by
  obtain ⟨⟨h1, h2, h3, h4⟩, h5, h6⟩ := h
  simp [State.execOn, State.execSeen, State.boundary, h1, h2, h3, h4, h5, h6]

/-- A memory instruction of a core that runs, likewise. -/
theorem State.execMem_runs (s : State) (c : CoreId) (w : Nat) (f : State → State) (h : s.runs c) : s.execMem c w f = f (s.fetched c) := by
  have h3 := h.1.2.2.1
  simp [State.execMem, h3, State.execOn_runs s c f h]

end Sys2Proof.Machine
end

