-- ==== Sys2Proof/Certificates/Slice0/Obligations.lean ====
section
/-!
DEFINITION. What is claimed of the machine. Each statement says of its commands that they answer a next state and what that state holds; its
docstring names the rules it rests on, and the log entries where a clause is the model's choice.
-/
open Sys2Proof Sys2Proof.Machine

/-- For every command and every state with it at the front of its queue, a step is the command on the state with the queue's rest. -/
def Obligations.StepRunsTheFrontCommand : Prop :=
  ∀ (i : Instr) (rest : List Instr) (s : State), s.pending = i :: rest → step s = exec i { s with pending := rest }

/-- With no command waiting, a step lets one tick of CK27 pass (R72, R93; log 1): the time base advances by one CK01 tick, while CK06 runs in
512 of 15,625 steps; in SHIP everything stands still. -/
def Obligations.IdleStep : Prop :=
  ∀ s : State, s.pending = [] →
    (s.aon.pstate = 4 → step s = .next s) ∧
    (s.aon.pstate ≠ 4 → ∃ t, step s = .next t ∧ t.pending = [] ∧
      (s.ck06 = true → s.aon.tickAcc + 512 < 15625 → t.aon.time = s.aon.time ∧ t.aon.tickAcc = s.aon.tickAcc + 512) ∧
      (s.ck06 = true → 15625 ≤ s.aon.tickAcc + 512 →
        t.aon.time = (s.aon.time + 1) % 2 ^ 48 ∧ t.aon.tickAcc = (s.aon.tickAcc + 512) % 15625) ∧
      (s.ck06 = false → t.aon.time = (s.aon.time + 1) % 2 ^ 48 ∧ t.aon.tickAcc = s.aon.tickAcc))

/-- The state after reset: every register of the pages at its reset value, the boot ROM at 0x0000_0000 on core 0 and core 1 held off, the time
base at 0, nothing listed in memory and no command waiting (R97, R107; the registers and latches that logs 4, 7 and 60 name hold the
model's values). -/
def Obligations.ResetValues : Prop :=
  State.reset.pending = [] ∧ State.reset.mem = [] ∧ State.reset.tags = [] ∧ State.reset.aon.time = 0 ∧ State.reset.aon.pstate = 0 ∧
    State.reset.get F.SYS.RST_CAUSE.cause = 1 ∧ State.reset.get F.SYS.RST_CAUSE.scope = 0 ∧
    State.reset.core0.pc = 0 ∧ State.reset.core0.world = .glass ∧ State.reset.core0.executing = true ∧ State.reset.core0.rom = some false ∧
    State.reset.core1.executing = false ∧
    (∀ a, a ∉ resetLatched.map (·.1) → State.reset.reg a = tabGet 0 resetRegs a) ∧
    (∀ e ∈ resetLatched, State.reset.reg e.1 = e.2) ∧
    (∀ c : CoreId, ∀ r : Fin 32, (State.reset.core c).rd r = 0)

/-- The state after reset has its tables in canonical form. -/
def Obligations.ResetInv : Prop := State.reset.Inv

/-- Every step keeps the sparse tables of registers, memory, tags and initialized rows in their one canonical form: keys strictly rising, and
no entry equal to what an unlisted key reads as. -/
def Obligations.StepKeepsInv : Prop := ∀ s t : State, s.Inv → step s = .next t → t.Inv

/-- No command touches the queue, and a step takes exactly the front command off it. -/
def Obligations.CommandsKeepTheQueue : Prop :=
  (∀ (i : Instr) (s t : State), exec i s = .next t → t.pending = s.pending) ∧
    ∀ s t : State, step s = .next t → t.pending = s.pending.tail

/-- No command ends the machine: every command in every state answers a next state. Bus errors, traps and refusals by a result code are next
states. -/
def Obligations.EveryCommandCompletes : Prop :=
  (∀ (i : Instr) (s : State), ∃ t, exec i s = .next t) ∧ ∀ s : State, ∃ t, step s = .next t

/-- The register-register instructions write the results of R186 and R187 into rd, in terms of integers, and go on at pc + 4; nothing else
changes. A write to w0 is discarded (R150). The immediate forms, MOVHI and CSEL (R186, R188), likewise; a shift whose upper immediate bits
are not 0 is the illegal opcode fault. -/
def Obligations.IntegerResults : Prop :=
  (∀ (s₀ : State) (c : CoreId) (rd rs1 rs2 : Fin 32), s₀.runs c →
    let s := s₀.fetched c
    let k := s.core c
    let x := k.rd rs1
    let y := k.rd rs2
    let n := y.toNat % 32
    let t (v : Word) : Host.Outcome State Fault Refusal := .next (s.setCore c { k.wr rd v with pc := k.pc + 4 })
    exec (.add c rd rs1 rs2) s₀ = t (BitVec.ofNat 32 (x.toNat + y.toNat)) ∧
    exec (.sub c rd rs1 rs2) s₀ = t (BitVec.ofInt 32 ((x.toNat : Int) - y.toNat)) ∧
    exec (.and c rd rs1 rs2) s₀ = t (x &&& y) ∧
    exec (.or c rd rs1 rs2) s₀ = t (x ||| y) ∧
    exec (.xor c rd rs1 rs2) s₀ = t (x ^^^ y) ∧
    exec (.sll c rd rs1 rs2) s₀ = t (BitVec.ofNat 32 (x.toNat * 2 ^ n)) ∧
    exec (.srl c rd rs1 rs2) s₀ = t (BitVec.ofNat 32 (x.toNat / 2 ^ n)) ∧
    exec (.sra c rd rs1 rs2) s₀ = t (BitVec.ofInt 32 (x.toInt >>> n)) ∧
    exec (.slt c rd rs1 rs2) s₀ = t (if x.toInt < y.toInt then 1 else 0) ∧
    exec (.sltu c rd rs1 rs2) s₀ = t (if x.toNat < y.toNat then 1 else 0) ∧
    exec (.mul c rd rs1 rs2) s₀ = t (BitVec.ofNat 32 (x.toNat * y.toNat)) ∧
    exec (.mulh c rd rs1 rs2) s₀ = t (BitVec.ofInt 32 ((x.toInt * y.toInt) >>> 32)) ∧
    exec (.mulhu c rd rs1 rs2) s₀ = t (BitVec.ofNat 32 (x.toNat * y.toNat / 2 ^ 32)) ∧
    exec (.mulhsu c rd rs1 rs2) s₀ = t (BitVec.ofInt 32 ((x.toInt * y.toNat) >>> 32)) ∧
    exec (.div c rd rs1 rs2) s₀ = t (if y = 0 then 0 else BitVec.ofInt 32 (x.toInt.tdiv y.toInt)) ∧
    exec (.divu c rd rs1 rs2) s₀ = t (BitVec.ofNat 32 (x.toNat / y.toNat)) ∧
    exec (.rem c rd rs1 rs2) s₀ = t (if y = 0 then x else BitVec.ofInt 32 (x.toInt.tmod y.toInt)) ∧
    exec (.remu c rd rs1 rs2) s₀ = t (BitVec.ofNat 32 (x.toNat % y.toNat))) ∧
  (∀ (s₀ : State) (c : CoreId) (rd rs1 rs2 rs3 : Fin 32) (imm : BitVec 16) (hi : BitVec 9) (sh : BitVec 5), s₀.runs c →
    let s := s₀.fetched c
    let k := s.core c
    let x := k.rd rs1
    let t (v : Word) : Host.Outcome State Fault Refusal := .next (s.setCore c { k.wr rd v with pc := k.pc + 4 })
    exec (.addi c rd rs1 imm) s₀ = t (BitVec.ofInt 32 (x.toInt + imm.toInt)) ∧
    exec (.andi c rd rs1 imm) s₀ = t (x &&& BitVec.ofNat 32 imm.toNat) ∧
    exec (.ori c rd rs1 imm) s₀ = t (x ||| BitVec.ofNat 32 imm.toNat) ∧
    exec (.xori c rd rs1 imm) s₀ = t (x ^^^ BitVec.ofNat 32 imm.toNat) ∧
    exec (.slti c rd rs1 imm) s₀ = t (if x.toInt < imm.toInt then 1 else 0) ∧
    exec (.sltiu c rd rs1 imm) s₀ = t (if x.toNat < (imm.signExtend 32).toNat then 1 else 0) ∧
    exec (.slli c rd rs1 0 sh) s₀ = t (BitVec.ofNat 32 (x.toNat * 2 ^ sh.toNat)) ∧
    exec (.srli c rd rs1 0 sh) s₀ = t (BitVec.ofNat 32 (x.toNat / 2 ^ sh.toNat)) ∧
    exec (.srai c rd rs1 0 sh) s₀ = t (BitVec.ofInt 32 (x.toInt >>> sh.toNat)) ∧
    (hi ≠ 0 →
      exec (.slli c rd rs1 hi sh) s₀ = .next (s.illegal c (wordI 0x08 rd rs1 (BitVec.ofNat 16 (2 ^ 7 * hi.toNat + sh.toNat)))) ∧
      exec (.srli c rd rs1 hi sh) s₀ = .next (s.illegal c (wordI 0x08 rd rs1 (BitVec.ofNat 16 (2 ^ 7 * hi.toNat + 2 ^ 5 + sh.toNat)))) ∧
      exec (.srai c rd rs1 hi sh) s₀ = .next (s.illegal c (wordI 0x08 rd rs1 (BitVec.ofNat 16 (2 ^ 7 * hi.toNat + 2 ^ 6 + sh.toNat))))) ∧
    exec (.movhi c rd imm) s₀ = t (BitVec.ofNat 32 (2 ^ 16 * imm.toNat)) ∧
    exec (.csel c rd rs1 rs2 rs3) s₀ = t (if k.rd rs3 ≠ 0 then x else k.rd rs2))

/-- Loads from SRAM whose checks pass (R157, R189): rt receives the bytes at cs.base + rs + imm13, least significant first, extended as the
instruction says, and LRW reserves the granule for this core (R191). Beside rt, pc and the reservation, only the caches change. A read of
a line through a core's data cache changes caches alone: no byte, no tag, no register page, no register of a core (R262). A fetch fills the
instruction cache, and a line that a stay defers is counted (R223, R233): nothing else of that kind changes before an instruction. -/
def Obligations.LoadsAndCacheFills : Prop :=
  (∀ (s₀ : State) (c : CoreId) (rt rs : Fin 32) (cs : Fin 8) (imm : BitVec 13), s₀.runs c →
    let s := s₀.fetched c
    let k := s.core c
    let v := k.crd cs
    let o := (k.rd rs + imm.signExtend 32).toNat
    let a := (v.base + o) % 2 ^ 32
    let b (i : Nat) : Nat := (s.byte (a + i)).toNat
    let h := BitVec.ofNat 16 (b 0 + 2 ^ 8 * b 1)
    let w := BitVec.ofNat 32 (b 0 + 2 ^ 8 * b 1 + 2 ^ 16 * b 2 + 2 ^ 24 * b 3)
    let passes (n : Nat) : Prop := s.accessFault c v o n ⟨false, false⟩ = none
    let t (x : Word) : Host.Outcome State Fault Refusal := .next ((s.coreReadLine c a).finish c rt x).settle
    hasTags a = true → s.domainReady (addrDomain a) = true → s.risingAt a = false →
    (passes 1 → exec (.lb c rt rs cs imm .ok) s₀ = t ((s.byte a).signExtend 32)) ∧
    (passes 1 → exec (.lbu c rt rs cs imm .ok) s₀ = t ((s.byte a).setWidth 32)) ∧
    (passes 2 → exec (.lh c rt rs cs imm .ok) s₀ = t (h.signExtend 32)) ∧
    (passes 2 → exec (.lhu c rt rs cs imm .ok) s₀ = t (h.setWidth 32)) ∧
    (passes 4 → exec (.lw c rt rs cs imm .ok) s₀ = t w) ∧
    (passes 4 → exec (.lrw c rt rs cs imm .ok) s₀ =
      .next (((s.coreReadLine c a).modCore c fun k => { k with resv := some (a / 16) }).finish c rt w).settle)) ∧
  (∀ (s : State) (c : CoreId) (a : Nat),
    let t := s.coreReadLine c a
    t.mem = s.mem ∧ t.tags = s.tags ∧ t.rowInit = s.rowInit ∧ t.pending = s.pending ∧
    (∀ b, b ≠ R.SMPU.COH → t.reg b = s.reg b) ∧
    ∀ d, { t.core d with dcache := [], evict := none } = { s.core d with dcache := [], evict := none }) ∧
  (∀ (s : State) (c : CoreId),
    let t := s.fetched c
    t.mem = s.mem ∧ t.tags = s.tags ∧ t.rowInit = s.rowInit ∧ t.pending = s.pending ∧ t.epochs = s.epochs ∧ t.aon = s.aon ∧
    (∀ a, a ≠ R.INTC.DEFER → t.reg a = s.reg a) ∧ ∀ d, { t.core d with icache := [] } = { s.core d with icache := [] })

/-- Stores to SRAM whose checks pass (R161, R189, R192): exactly the stored bytes change, the granule's tag clears, the other core's
reservation of the granule ends, and no general register changes. LRW reserves the granule that it loads from, in SRAM alone (R191, R193).
SCW: with this core's reservation of the granule it stores rt and writes 0 to rt; without it memory stays and rt receives 1. Either way
the reservation is gone, and outside SRAM it fails. -/
def Obligations.StoresAndReservations : Prop :=
  (∀ (s₀ : State) (c : CoreId) (rt rs : Fin 32) (cs : Fin 8) (imm : BitVec 13), s₀.runs c →
    let s := s₀.fetched c
    let k := s.core c
    let v := k.crd cs
    let o := (k.rd rs + imm.signExtend 32).toNat
    let a := (v.base + o) % 2 ^ 32
    let effect (n : Nat) (t : State) : Prop :=
      (∀ x, t.byte x = if a ≤ x ∧ x < a + n then BitVec.ofNat 8 ((k.rd rt).toNat / 256 ^ (x - a)) else s.byte x) ∧
      (∀ g, t.tag g = (s.tag g && decide (g ≠ a / 16))) ∧
      (t.core c).w = k.w ∧ (t.core c).pc = k.pc + 4 ∧
      (t.core (otherCore c)).resv = (if (s.core (otherCore c)).resv = some (a / 16) then none else (s.core (otherCore c)).resv)
    hasTags a = true → s.domainReady (addrDomain a) = true → s.risingAt a = false →
    (s.accessFault c v o 1 ⟨true, false⟩ = none → ∃ t, exec (.sb c rt rs cs imm .ok) s₀ = .next t ∧ effect 1 t) ∧
    (s.accessFault c v o 2 ⟨true, false⟩ = none → ∃ t, exec (.sh c rt rs cs imm .ok) s₀ = .next t ∧ effect 2 t) ∧
    (s.accessFault c v o 4 ⟨true, false⟩ = none → ∃ t, exec (.sw c rt rs cs imm .ok) s₀ = .next t ∧ effect 4 t)) ∧
  (∀ (s₀ : State) (c : CoreId) (rt rs : Fin 32) (cs : Fin 8) (imm : BitVec 13), s₀.runs c →
    let s := s₀.fetched c
    let k := s.core c
    let v := k.crd cs
    let o := (k.rd rs + imm.signExtend 32).toNat
    let a := (v.base + o) % 2 ^ 32
    (∀ g t d, s.accessFault c v o 4 ⟨false, false⟩ = none → s.coreRead c o a 4 g = (t, .ok d) →
      exec (.lrw c rt rs cs imm g) s₀ = .next (((t.modCore c fun k => { k with resv := if hasTags a then some (a / 16) else none }).finish c rt
        (BitVec.ofNat 32 d)).settle)) ∧
    (s.accessFault c v o 4 ⟨true, false⟩ = none → s.domainReady (addrDomain a) = true → s.risingAt a = false →
    ∃ t, exec (.scw c rt rs cs imm .ok) s₀ = .next t ∧ (t.core c).resv = none ∧ (t.core c).pc = k.pc + 4 ∧
      (hasTags a = true ∧ k.resv = some (a / 16) →
        (t.core c).w = (k.wr rt 0).w ∧
        ∀ x, t.byte x = if a ≤ x ∧ x < a + 4 then BitVec.ofNat 8 ((k.rd rt).toNat / 256 ^ (x - a)) else s.byte x) ∧
      (¬ (hasTags a = true ∧ k.resv = some (a / 16)) →
        (t.core c).w = (k.wr rt 1).w ∧ t.mem = s.mem ∧ t.tags = s.tags ∧ t.regs = s.regs)))

/-- Every load, store and fetch makes the checks of R157 in the order of its table, steps 1 to 8, and raises the fault of the first that
fails; the MPU judges last (step 9), after LOCAL in an STC (R166, R269). An access that passes reaches its target, whatever region that is: a
read's value, or its precise bus error; a store to a register page or to memory (R189, R215). One that has to wait stalls, with pc at its
instruction; the core is at no boundary then, and goes on with that instruction alone (R82, R185, R195). A fetch that passes its checks may
fail in memory (R215). -/
def Obligations.MemoryChecks : Prop :=
  (∀ (s₀ : State) (c : CoreId) (rt rs : Fin 32) (cs : Fin 8) (imm : BitVec 13) (g : Integ), s₀.runs c →
    let s := s₀.fetched c
    let k := s.core c
    let v := k.crd cs
    let o := (k.rd rs + imm.signExtend 32).toNat
    let a := (v.base + o) % 2 ^ 32
    let waits (op : Nat) (t : State) : Host.Outcome State Fault Refusal := .next (t.stall c (wordM op rt rs cs imm)).settle
    let checks (n : Nat) (store cap : Bool) : List (Bool × Flt) :=
      [(!v.tag, fltCap 1 o a), (decide (v.otype ≠ 0), fltCap 2 o a), (s.stale v, fltCap 3 o a),
        (decide (k.world = .field) && v.perm permGLASS, fltCap 4 o a),
        (!v.perm (if store then permSTORE else permLOAD) || (cap && !v.perm (if store then permSTORECAP else permLOADCAP)), fltCap 5 o a),
        (decide (v.length < o + n), fltBounds 1 o a), (decide (a % n ≠ 0), fltMisaligned o a),
        (isDevice a && (!v.perm permDEVICE || cap), fltCap 12 o a), (store && cap && !hasTags a, fltCap 9 o a)]
    let own (n : Nat) (store cap : Bool) (i : Instr) : Prop :=
      ∀ e, (checks n store cap).find? (·.1) = some e → exec i s₀ = .next (s.raise c e.2)
    let mpu (n : Nat) (store cap : Bool) (i : Instr) : Prop :=
      ∀ sub r, (checks n store cap).find? (·.1) = none →
        s.mpuJudge (coreNum c) k.world (if store then .write else .read) a = some (sub, r) →
        exec i s₀ = .next (s.raise c { cls := 7, sub := sub, tval := o, taddr := a, region := r, write := store })
    let first (n : Nat) (store cap : Bool) (i : Instr) : Prop := own n store cap i ∧ mpu n store cap i
    let brings (op n : Nat) (ext : Nat → Word) (i : Instr) : Prop :=
      s.accessFault c v o n ⟨false, false⟩ = none →
      (∀ t d, s.coreRead c o a n g = (t, .ok d) → exec i s₀ = .next (t.finish c rt (ext d)).settle) ∧
      (∀ t e, s.coreRead c o a n g = (t, .error (some e)) → exec i s₀ = .next (t.busFault c e o a)) ∧
      ∀ t, s.coreRead c o a n g = (t, .error none) → exec i s₀ = waits op t
    let hands (op n : Nat) (i : Instr) : Prop :=
      s.accessFault c v o n ⟨true, false⟩ = none →
      (s.risingAt a = true → exec i s₀ = waits op s) ∧
      (s.risingAt a = false → regionOf a = .pages → exec i s₀ = .next (s.corePageWrite c o a n (k.rd rt) g).settle) ∧
      (s.risingAt a = false → regionOf a ≠ .pages → exec i s₀ = .next (s.coreStore c o a n ((k.rd rt).toNat % 256 ^ n) g).settle)
    first 1 false false (.lb c rt rs cs imm g) ∧ first 1 false false (.lbu c rt rs cs imm g) ∧ first 2 false false (.lh c rt rs cs imm g) ∧
    first 2 false false (.lhu c rt rs cs imm g) ∧ first 4 false false (.lw c rt rs cs imm g) ∧ first 4 false false (.lrw c rt rs cs imm g) ∧
    first 1 true false (.sb c rt rs cs imm g) ∧ first 2 true false (.sh c rt rs cs imm g) ∧ first 4 true false (.sw c rt rs cs imm g) ∧
    first 4 true false (.scw c rt rs cs imm g) ∧
    brings 0x10 1 (fun d => (BitVec.ofNat 8 d).signExtend 32) (.lb c rt rs cs imm g) ∧ brings 0x13 1 (BitVec.ofNat 32) (.lbu c rt rs cs imm g) ∧
    brings 0x11 2 (fun d => (BitVec.ofNat 16 d).signExtend 32) (.lh c rt rs cs imm g) ∧ brings 0x14 2 (BitVec.ofNat 32) (.lhu c rt rs cs imm g) ∧
    brings 0x12 4 (BitVec.ofNat 32) (.lw c rt rs cs imm g) ∧ hands 0x18 1 (.sb c rt rs cs imm g) ∧ hands 0x19 2 (.sh c rt rs cs imm g) ∧
    hands 0x1A 4 (.sw c rt rs cs imm g) ∧
    (isCap rt = true →
      let u := k.crd (capOf rt)
      let local' := u.tag = true ∧ s.stale u = false ∧ u.perm permGLOBAL = false ∧ v.perm permGLOBAL = true
      first 16 false true (.ldc c rt rs cs imm g) ∧ own 16 true true (.stc c rt rs cs imm g) ∧
      ((checks 16 true true).find? (·.1) = none → local' → exec (.stc c rt rs cs imm g) s₀ = .next (s.raise c (fltCap 8 o a))) ∧
      (¬ local' → mpu 16 true true (.stc c rt rs cs imm g)))) ∧
  (∀ (s : State) (c : CoreId) (rt rs : Fin 32) (cs : Fin 8) (imm : BitVec 13) (g : Integ) (w : Nat),
    (s.core c).stalled = some w → w ≠ wordM 0x12 rt rs cs imm → exec (.lw c rt rs cs imm g) s = .next s ∧ exec (.fence c) s = .next s ∧
      exec (.interruptEntry c) s = .next (s.deferLines c)) ∧
  ∀ (s : State) (c : CoreId), s.atBoundary c →
    let k := s.core c
    let p := k.bank.pcc
    let q := k.pc.toNat
    let b := (p.base + q) % 2 ^ 32
    let fetch : List (Bool × Flt) :=
      [(!p.tag, fltCap 1 q b), (decide (p.otype ≠ 0), fltCap 2 q b), (s.stale p, fltCap 3 q b),
        (decide (k.world = .field) && p.perm permGLASS, fltCap 4 q b), (!p.perm permEXEC, fltCap 5 q b),
        (decide (p.length < q + 4), fltBounds 2 q b), (decide (b % 4 ≠ 0), fltMisaligned q b), (isDevice b, fltCap 12 q b)]
    let judged := s.mpuJudge (coreNum c) k.world .fetch b
    (∀ e, fetch.find? (·.1) = some e → exec (.fetchFault c) s = .next (s.raise c e.2)) ∧
    (fetch.find? (·.1) = none →
      (∀ sub r, judged = some (sub, r) →
        exec (.fetchFault c) s = .next (s.raise c { cls := 7, sub := sub, tval := q, taddr := b, region := r, fetch := true })) ∧
      (judged = none → k.codeLine? b = false →
        (∀ e, s.fetchBus b = some e → exec (.fetchFault c) s = .next (s.raise c (fltBus e q b))) ∧
        (s.fetchBus b = none → s.readStalls b = false → exec (.fetchFault c) s = .next ((s.deferLines c).fetchFails c))))

/-- LDC brings a granule's bits and tag into a capability register (R190), as the untagged copy where its epoch is stale (R167); STC stores
bits and tag of one (R161). Checks, SRAM and the GLASS and LOCAL rules are as the hypotheses say. -/
def Obligations.CapabilityLoadStore : Prop :=
  ∀ (s₀ : State) (c : CoreId) (rt rs : Fin 32) (cs : Fin 8) (imm : BitVec 13), s₀.runs c → isCap rt = true →
    let s := s₀.fetched c
    let k := s.core c
    let au := k.crd cs
    let o := (k.rd rs + imm.signExtend 32).toNat
    let a := (au.base + o) % 2 ^ 32
    let m : CapReg := ⟨BitVec.ofNat 128 (s.loadN a 16), s.tag (a / 16)⟩
    let v := k.crd (capOf rt)
    hasTags a = true → s.domainReady (addrDomain a) = true → s.risingAt a = false →
    (s.accessFault c au o 16 ⟨false, true⟩ = none → (k.world = .glass ∨ m.perm permGLASS = false) →
      ∃ t, exec (.ldc c rt rs cs imm .ok) s₀ = .next t ∧ (t.core c).crd (capOf rt) = ⟨m.bits, m.tag && !s.stale m⟩ ∧
        (t.core c).pc = k.pc + 4 ∧ (t.core c).w = k.w ∧ t.mem = s.mem ∧ t.tags = s.tags) ∧
    (s.accessFault c au o 16 ⟨true, true⟩ = none → (v.perm permGLOBAL = true ∨ au.perm permGLOBAL = false) →
      ∃ t, exec (.stc c rt rs cs imm .ok) s₀ = .next t ∧ t.loadN a 16 = v.bits.toNat ∧
        t.tag (a / 16) = (v.tag && !s.stale v) ∧ (∀ x, ¬ (a ≤ x ∧ x < a + 16) → t.byte x = s.byte x) ∧
        (t.core c).pc = k.pc + 4 ∧ (t.core c).w = k.w)

/-- A conditional branch goes to pc + 4 × imm16 when its condition holds, else on to pc + 4 (R196); of the rest of the core only the predictor
learns (R583). JAL and JALR write pc + 4 to rd and go to their target (R197); CJALR sets PCC to cs and pc to its target, linking pc + 4 in
rd and, with lc, the old PCC in cd (R199). A target that fails its check raises the fault at the transfer (R198). Nothing else changes. -/
def Obligations.BranchesAndJumps : Prop :=
  ∀ (s₀ : State) (c : CoreId) (rd rs1 rs2 : Fin 32) (cs cd : Fin 8) (lc : Bool) (imm : BitVec 16) (imm21 : BitVec 21) (imm9 : BitVec 9),
    s₀.runs c →
    let s := s₀.fetched c
    let k := s.core c
    let x := k.rd rs1
    let y := k.rd rs2
    let goes (taken : Prop) (i : Instr) : Prop :=
      (taken → s₀.goesTo c i k.bank.pcc (k.pc + 4 * imm.signExtend 32) (k.train true)) ∧
      (¬ taken → exec i s₀ = .next (s.setCore c { k.train false with pc := k.pc + 4 }))
    let v := k.crd cs
    let linked := k.wr rd (k.pc + 4)
    let kept := if lc then linked.cwr cd k.bank.pcc else linked
    goes (x = y) (.beq c rs1 rs2 imm) ∧ goes (x ≠ y) (.bne c rs1 rs2 imm) ∧
    goes (x.toInt < y.toInt) (.blt c rs1 rs2 imm) ∧ goes (y.toInt ≤ x.toInt) (.bge c rs1 rs2 imm) ∧
    goes (x.toNat < y.toNat) (.bltu c rs1 rs2 imm) ∧ goes (y.toNat ≤ x.toNat) (.bgeu c rs1 rs2 imm) ∧
    s₀.goesTo c (.jal c rd imm21) k.bank.pcc (k.pc + 4 * imm21.signExtend 32) linked ∧
    s₀.goesTo c (.jalr c rd rs1 imm) k.bank.pcc (x + imm.signExtend 32) linked ∧
    ((lc = true ∨ cd = 0) →
      (∀ e, s.useCause k.world v = some e → exec (.cjalr c rd rs1 cs cd lc imm9) s₀ = .next (s.raise c (fltCap e (wordCJ 0x2A rd rs1 cs cd lc imm9) 0))) ∧
      (s.useCause k.world v = none → v.perm permEXEC = false →
        exec (.cjalr c rd rs1 cs cd lc imm9) s₀ = .next (s.raise c (fltCap 5 (wordCJ 0x2A rd rs1 cs cd lc imm9) 0))) ∧
      (s.useCause k.world v = none → v.perm permEXEC = true →
        s₀.goesTo c (.cjalr c rd rs1 cs cd lc imm9) v (x + 4 * imm9.signExtend 32) (kept.setBank { kept.bank with pcc := v }))) ∧
    (lc = false → cd ≠ 0 → exec (.cjalr c rd rs1 cs cd lc imm9) s₀ = .next (s.illegal c (wordCJ 0x2A rd rs1 cs cd lc imm9)))

/-- CHK, CHKI, CHKR and CHKRI change nothing but pc when their check holds, and raise a bounds fault when it does not (R203); a capability
that fails steps 1 to 4 of R157 raises its own fault first. R162: a derivation never widens. What CBOUND and CANDP make of a capability
lies inside its bounds and keeps only permissions it had. -/
def Obligations.ChecksAndNarrowing : Prop :=
  (∀ (s₀ : State) (c : CoreId) (cs r1 r2 r3 : Fin 32) (n : BitVec 16), s₀.runs c → isCap cs = true →
    let s := s₀.fetched c
    let k := s.core c
    let v := k.crd (capOf cs)
    let on : Host.Outcome State Fault Refusal := .next (s.setCore c { k with pc := k.pc + 4 })
    let off (sub o a : Nat) : Host.Outcome State Fault Refusal := .next (s.raise c (fltBounds sub o a))
    let o := (k.rd r1).toNat
    (∀ e, s.useCause k.world v = some e →
      exec (.chk c cs r1 r2) s₀ = .next (s.raise c (fltCap e (wordR 0x31 cs r1 r2 0) 0)) ∧
      exec (.chki c cs r1 n) s₀ = .next (s.raise c (fltCap e (wordI 0x32 cs r1 n) 0))) ∧
    (s.useCause k.world v = none →
      exec (.chk c cs r1 r2) s₀ = (if o + (k.rd r2).toNat ≤ v.length then on else off bndCHK o (capAddr v o)) ∧
      exec (.chki c cs r1 n) s₀ = (if o + n.toNat ≤ v.length then on else off bndCHK o (capAddr v o))) ∧
    exec (.chkr c r1 r2 r3) s₀ = (if (k.rd r2).toNat ≤ o ∧ o < (k.rd r3).toNat then on else off bndCHKR o 0) ∧
    exec (.chkri c r1 n) s₀ = (if o < n.toNat then on else off bndCHKR o 0)) ∧
  (∀ (v u : CapReg) (off len mask : Word),
    (boundCap v off len = .ok u → v.base + v.length ≤ 2 ^ 32 →
      v.base ≤ u.base ∨ u.length = 0) ∧
    (boundCap v off len = .ok u → v.base + v.length ≤ 2 ^ 32 → u.length ≠ 0 → u.base + u.length ≤ v.base + v.length) ∧
    (boundCap v off len = .ok u → ∀ p, u.perm p = true → v.perm p = true) ∧
    (∀ p, (andpCap v mask).perm p = true → v.perm p = true) ∧
    (andpCap v mask).base = v.base ∧ (andpCap v mask).length = v.length)

/-- The derivations (R162 to R164, R200, R201): what CMOVE, CCLRT, CBOUND, CANDP, CSEAL, CUNSEAL and CEPOCH write into cd when their checks
pass, and what CGET reads; of the state only the named register, pc and, for the move of a stale copy, its counter change. -/
def Obligations.CapabilityDerivations : Prop :=
  ∀ (s₀ : State) (c : CoreId) (cd cs ca r1 r2 : Fin 32), s₀.runs c → isCap cd = true → isCap cs = true → isCap ca = true →
    let s := s₀.fetched c
    let k := s.core c
    let w := k.world
    let v := k.crd (capOf cs)
    let a := k.crd (capOf ca)
    let x := k.rd r1
    let y := k.rd r2
    let ok := s.useCause w v = none
    let gives (u : CapReg) : Host.Outcome State Fault Refusal := .next (s.setCore c { k.cwr (capOf cd) u with pc := k.pc + 4 })
    (v.tag = false ∨ s.stale v = false → exec (.cmove c cd cs) s₀ = gives v) ∧
    (v.tag = true → s.stale v = true → exec (.cmove c cd cs) s₀ = .next
      ((s.inc (F.CPU.STALE.count.cpu c)).setCore c { k.cwr (capOf cd) { v with tag := false } with pc := k.pc + 4 })) ∧
    exec (.cclrt c cd cs) s₀ = gives { v with tag := false } ∧
    (ok → x.toNat + y.toNat ≤ v.length → exec (.cbound c cd cs r1 r2) s₀ =
      gives ⟨capBits (v.base + x.toNat) y.toNat v.perms v.otype v.epoch v.eidx, true⟩) ∧
    (ok → exec (.candp c cd cs r1) s₀ =
      gives ⟨capBits v.base v.length (v.perms &&& (x.toNat % 2 ^ 11)) v.otype v.epoch v.eidx, true⟩) ∧
    (ok → s.useCause w a = none → a.perm permSEAL = true → 0 < x.toNat → x.toNat < 0xF0 → a.base ≤ x.toNat →
      x.toNat < a.base + a.length → exec (.cseal c cd cs ca r1) s₀ =
      gives ⟨capBits v.base v.length v.perms x.toNat v.epoch v.eidx, true⟩) ∧
    (v.tag = true → s.stale v = false → s.useCause w a = none → a.perm permUNSEAL = true → 0 < v.otype → v.otype ≠ 0xF0 →
      a.base ≤ v.otype → v.otype < a.base + a.length → (w = .glass ∨ v.perm permGLASS = false) →
      exec (.cunseal c cd cs ca) s₀ = gives ⟨capBits v.base v.length v.perms 0 v.epoch v.eidx, true⟩) ∧
    (ok → v.eidx = 0 → 0 < x.toNat → x.toNat < 32 → exec (.cepoch c cd cs r1) s₀ =
      gives ⟨capBits v.base v.length v.perms v.otype (s.epochOf x.toNat) x.toNat, true⟩) ∧
    ∀ wd sel : Fin 32, (8 ≤ sel.val → exec (.cget c wd cs sel) s₀ = .next (s.illegal c (wordQ 0x30 wd cs sel 0 8))) ∧
      ∀ n, [v.base, v.length, v.perms, v.otype, v.epoch, v.eidx, b2n v.tag, b2n (v.tag && !s.stale v)][sel.val]? = some n →
        exec (.cget c wd cs sel) s₀ = .next (s.setCore c { k.wr wd (BitVec.ofNat 32 n) with pc := k.pc + 4 })

/-- EBUMP, ESWEEP, SWEEP_DONE and LDCAPX (R168 to R175). The fetch of an EBUMP may have seen the counters before a bump of the other core that
goes before it (R159; `bumpSeen`, log 76). -/
def Obligations.EpochsAndSweeps : Prop :=
  ∀ (s₀ : State) (c : CoreId) (wd ws : Fin 32),
    let refused (s : State) : Option Nat :=
      let i := ((s.core c).rd ws).toNat
      if 64 ≤ i then some 0x0E else if (s.core c).world = .field ∧ 32 ≤ i then some 0x06 else none
    let u := (s₀.bumpSeen c).2
    (u.atBoundary c → ((s₀.bumpSeen c).1 u).fetchCheck c (u.core c).world (u.core c).bank.pcc (u.core c).pc.toNat = none → u.fetchStalls c = false →
      let s := u.fetched c
      let k := s.core c
      let i := (k.rd ws).toNat
      let sweeping := s.sweep.map (·.index) = some i
      let wraps := s.epochOf i = 255 ∧ s.sweepDone.testBit i = false
      let code := (refused s).getD (if sweeping ∨ wraps then 0x04 else 0)
      ∃ t, exec (.ebump c wd ws) s₀ = .next t ∧ t.core c = { k.wr wd (BitVec.ofNat 32 code) with pc := k.pc + 4 } ∧ t.mem = s.mem ∧ t.tags = s.tags ∧
        (∀ j, t.epochOf j = if code = 0 ∧ j = i then (s.epochOf i + 1) % 256 else s.epochOf j) ∧
        (∀ j, t.sweepDone.testBit j = if code = 0 ∧ j = i ∧ s.epochOf i = 255 then false else s.sweepDone.testBit j)) ∧
    (s₀.runs c →
      let s := s₀.fetched c
      let k := s.core c
      let i := (k.rd ws).toNat
      let code := (refused s).getD (if s.sweep.isSome then 0x01 else 0)
      let starts := code = 0 ∧ s.sweepDone.testBit i = false
      ∃ t, exec (.esweep c wd ws) s₀ = .next t ∧ (t.core c).w = (k.wr wd (BitVec.ofNat 32 code)).w ∧ (t.core c).pc = k.pc + 4 ∧
        t.mem = s.mem ∧ t.tags = s.tags ∧ t.sweepDone = s.sweepDone ∧
        (starts → t.sweep.map (fun x => (x.index, x.core)) = some (i, c)) ∧ (¬ starts → t.sweep = s.sweep) ∧
        (∀ d (j : Fin 8), (t.core d).field.c[j] =
          if starts ∧ s.swept i (s.core d).field.c[j] then { (s.core d).field.c[j] with tag := false } else (s.core d).field.c[j])) ∧
    (∀ sw, s₀.sweep = some sw →
      let bad := (s₀.badTags sw).1
      ∃ t, exec .sweepDone s₀ = .next t ∧ t.sweep = none ∧ t.sweepDone = s₀.sweepDone ||| 2 ^ sw.index ∧ t.mem = s₀.mem ∧
      ∀ g, t.tag g = (s₀.tag g && (bad.contains g || !(inBanks sw.banks (16 * g) && s₀.swept sw.index (s₀.granuleCap g))))) ∧
    (s₀.runs c →
      let s := s₀.fetched c
      let k := s.core c
      let i := (k.rd ws).toNat
      ∀ cd : Fin 32, isCap cd = true → i < 65536 → i < k.bank.ctabCount.toNat →
      let a := (k.bank.ctabBase.toNat + 16 * i) % 2 ^ 32
      let m : CapReg := ⟨BitVec.ofNat 128 (s.loadN a 16), s.tag (a / 16)⟩
      walkSram k.world a = true → s.mpuJudge (coreNum c) k.world .read a = none → s.domainReady (addrDomain a) = true → s.risingAt a = false →
      m.tag = true → (k.world = .glass ∨ m.perm permGLASS = false) →
      ∃ t, exec (.ldcapx c cd ws .ok) s₀ = .next t ∧ (t.core c).crd (capOf cd) = ⟨m.bits, !s.stale m⟩ ∧ (t.core c).pc = k.pc + 4 ∧
        (t.core c).w = k.w ∧ t.mem = s.mem ∧ t.tags = s.tags)

/-- The system registers (R153, R205, R207): what MFSR reads under each number, what MTSR, MASKX and MASKI write; an absent number and a mask
level that the Field may not set raise the illegal opcode fault. -/
def Obligations.SystemRegisters : Prop :=
  ∀ (s₀ : State) (c : CoreId) (rd rs1 : Fin 32) (imm : BitVec 12), s₀.runs c →
    let s := s₀.fetched c
    let k := s.core c
    let b := k.bank
    let x := k.rd rs1
    let at4 (j : Core) : Host.Outcome State Fault Refusal := .next (s.setCore c { j with pc := k.pc + 4 })
    let readable : List (BitVec 12 × Word) :=
      [(0x000, BitVec.ofNat 32 (coreNum c + 0x0200)), (0x001, BitVec.ofNat 32 (worldCode k.world)), (0x002, BitVec.ofNat 32 k.mask),
        (0x008, b.ctabBase), (0x009, b.ctabCount), (0x010, BitVec.ofNat 32 s.aon.tstamp), (0x020, b.tcause), (0x021, b.tpc), (0x022, b.tval),
        (0x023, b.taddr), (0x024, b.timpr), (0x025, b.timprAddr), (0x030, k.scause), (0x031, k.spc), (0x032, k.sval)]
    let writable : List (BitVec 12 × Core) :=
      [(0x008, k.setBank { b with ctabBase := x &&& 0xFFFFFFF0 }), (0x009, k.setBank { b with ctabCount := x &&& 0xFFFF }),
        (0x020, k.setBank { b with tcause := x &&& 0x00FFFFFF }), (0x021, k.setBank { b with tpc := x }), (0x022, k.setBank { b with tval := x })]
    let may (l : Nat) : Prop := k.world = .glass ∨ l ≤ 13
    let l := x.toNat % 16
    (∀ e ∈ readable, exec (.mfsr c rd e.1) s₀ = at4 (k.wr rd e.2)) ∧
    ((∀ e ∈ readable, e.1 ≠ imm) → exec (.mfsr c rd imm) s₀ = .next (s.illegal c (wordS rd 0 imm 6))) ∧
    (∀ e ∈ writable, exec (.mtsr c rs1 e.1) s₀ = at4 e.2) ∧
    (may l → exec (.mtsr c rs1 2) s₀ = at4 { k with mask := l }) ∧
    (¬ may l → exec (.mtsr c rs1 2) s₀ = .next (s.illegal c (wordS 0 rs1 2 7))) ∧
    (imm ≠ 2 → (∀ e ∈ writable, e.1 ≠ imm) → exec (.mtsr c rs1 imm) s₀ = .next (s.illegal c (wordS 0 rs1 imm 7))) ∧
    (may l → exec (.maskx c rd rs1) s₀ = at4 { k.wr rd (BitVec.ofNat 32 k.mask) with mask := l }) ∧
    (¬ may l → exec (.maskx c rd rs1) s₀ = .next (s.illegal c (wordS rd rs1 0 8))) ∧
    (imm.toNat < 16 → may imm.toNat → exec (.maski c rd imm) s₀ = at4 { k.wr rd (BitVec.ofNat 32 k.mask) with mask := imm.toNat }) ∧
    ((16 ≤ imm.toNat ∨ ¬ may imm.toNat) → exec (.maski c rd imm) s₀ = .next (s.illegal c (wordS rd 0 imm 9)))

/-- WFI stops the core's clock, ends its reservation and lets a waiting power-down go on (R85, R91, R192), and is illegal in the Glasshouse
(R207); the fences complete the core's stores, FENCE.I discards the instruction-cache lines of the running world's ways, and FENCE.R makes its channel's pending rules active (R204, R276). TRET sets PCC to EPCC,
pc to TPC and the mask level to the one that TCAUSE saved; the Field may not return to a level above 13, which is judged first, and a new
PCC that fails its checks raises the fault at the TRET (R213). -/
def Obligations.FencesWaitsAndReturns : Prop :=
  (∀ (s₀ : State) (c : CoreId), s₀.runs c →
    let s := s₀.fetched c
    let k := s.core c
    let u := s.ledgerFence (coreIni c)
    let j := { (u.core c).drain with pc := k.pc + 4 }
    let f := u.setCore c j
    (k.world = .field → exec (.wfi c) s₀ = .next (s.setCore c { k with pc := k.pc + 4, wfi := true, resv := none }).seqKick) ∧
    (k.world = .glass → exec (.wfi c) s₀ = .next (s.illegal c (wordS 0 0 0 0))) ∧
    exec (.fence c) s₀ = .next f ∧
    exec (.fenceI c) s₀ = .next (u.setCore c { j with icache := j.icache.filter fun l => decide ((l.2 = 3) ≠ (k.world = .glass)) }) ∧
    ∃ t, exec (.fenceR c) s₀ = .next t ∧ { t with mpuActive := s.mpuActive } = f ∧
      tabGet 0 t.mpuActive (aChctrl (coreNum c)) = s.reg (aChctrl (coreNum c)) ∧
      ∀ n, n < 16 → tabGet 0 t.mpuActive (aRbase (coreNum c) n) = s.reg (aRbase (coreNum c) n) ∧
        tabGet 0 t.mpuActive (aRattr (coreNum c) n) = s.reg (aRattr (coreNum c) n)) ∧
  (∀ (s₀ : State) (c : CoreId), s₀.runs c →
    let s := s₀.fetched c
    let k := s.core c
    let b := k.bank
    let l := b.tcause.toNat / 2 ^ 20 % 16
    let raises (e : Nat) : Prop := exec (.tret c) s₀ = .next (s.raise c (fltCap e (wordS 0 0 0 5) 0))
    (k.world = .field → 13 < l → exec (.tret c) s₀ = .next (s.illegal c (wordS 0 0 0 5))) ∧
    ((k.world = .glass ∨ l ≤ 13) →
      (∀ e, s.useCause k.world b.epcc = some e → raises e) ∧
      (s.useCause k.world b.epcc = none → b.epcc.perm permEXEC = false → raises 5) ∧
      (s.useCause k.world b.epcc = none → b.epcc.perm permEXEC = true →
        s₀.goesTo c (.tret c) b.epcc b.tpc { k.setBank { b with pcc := b.epcc } with mask := l })))

/-- Synchronous entries below mask level 14 whose vector can be fetched (R158, R183, R204, R210, R211): TRAP, a reserved word, a fetch that
fails a check, and every fault that an instruction raises. The entry completes the core's posted stores, of which those to the ledger are
written (R211 step 1, R301); memory stays but for that, and so does the other core. -/
def Obligations.SynchronousTraps : Prop :=
  ∀ (s : State) (c : CoreId), (s.core c).mask < 14 →
    let k := s.core c
    let traps (o : Host.Outcome State Fault Refusal) (off cls sub tval taddr : Nat) : Prop :=
      ∃ t, o = .next t ∧ k.tookTrap (t.core c) 14 off cls sub tval taddr ∧ t.core (otherCore c) = s.core (otherCore c) ∧ t.tags = s.tags ∧
        (∀ x, (∀ p ∈ s.ldg.posted, x / 4 ≠ p.addr / 4) → t.byte x = s.byte x) ∧ ((∀ p ∈ s.ldg.posted, p.ini ≠ iniCode (coreIni c)) → t.mem = s.mem)
    (∀ imm : BitVec 12, s.runs c → s.vectorOk c 0x0C0 → traps (exec (.trap c imm) s) 0x0C0 8 0 imm.toNat 0) ∧
    (s.vectorOk c 0 →
      (∀ w : Word, s.runs c → reservedWord w.toNat = true → traps (exec (.reservedOpcode c w) s) 0 1 0 w.toNat 0) ∧
      (∀ f, s.atBoundary c → s.fetchCheck c k.world k.bank.pcc k.pc.toNat = some f →
        traps (exec (.fetchFault c) s) 0 f.cls f.sub f.tval f.taddr) ∧
      (∀ f, traps (.next (s.raise c f)) 0 f.cls f.sub f.tval f.taddr))

/-- The interrupt that a core would take is pending and routed to it, and no other such line has a higher priority, or the same priority and a
lower number (R221). Entries at an instruction boundary (R209, R211, R216 to R218, R221), in the order of R232: a Cloche severe response at
mask level 15 through offset 0x100, then a pending imprecise bus error at level 14, then an interrupt above the mask level at its line's
priority. While one of them waits, no instruction runs: the boundary takes it. A failed posted store becomes pending, or sets overflow behind
a pending one. Field lines that a stay defers are counted once each (R223). -/
def Obligations.BoundaryEntries : Prop :=
  (∀ (s : State) (c : CoreId) (w : World) (n : Nat), s.bestLine c w = some n →
    n < 128 ∧ s.linePending n c = true ∧ s.lineRouted n c w = true ∧
    ∀ m, m < 128 → s.linePending m c = true → s.lineRouted m c w = true →
      s.linePrio m < s.linePrio n ∨ (s.linePrio m = s.linePrio n ∧ n ≤ m)) ∧
  (∀ (s : State) (c : CoreId),
    let k := s.core c
    let b := k.bank
    let idle := k.executing = true ∧ k.haltDue = false ∧ k.stalled = none
    let keeps (t : State) : Prop :=
      t.core (otherCore c) = s.core (otherCore c) ∧ t.tags = s.tags ∧ (∀ x, (∀ p ∈ s.ldg.posted, x / 4 ≠ p.addr / 4) → t.byte x = s.byte x) ∧
        ((∀ p ∈ s.ldg.posted, p.ini ≠ iniCode (coreIni c)) → t.mem = s.mem)
    let traps (i : Instr) (l off cls sub tval taddr : Nat) : Prop :=
      ∃ t, exec i s = .next t ∧ k.tookTrap (t.core c) l off cls sub tval taddr ∧ keeps t
    (∀ n, idle → k.severePending = none → (b.timpr.toNat.testBit 0 = false ∨ 14 ≤ k.mask) → s.bestLine c k.world = some n → k.mask < s.linePrio n →
      s.vectorOk c 0x080 → traps (.interruptEntry c) (s.linePrio n) 0x080 0x10 0 n 0) ∧
    (idle → k.severePending = none → b.timpr.toNat.testBit 0 = true → k.mask < 14 → s.vectorOk c 0x040 →
      traps (.impreciseBusError c) 14 0x040 4 (b.timpr.toNat / 16 % 16) 0 b.timprAddr.toNat ∧
      traps (.interruptEntry c) 14 0x040 4 (b.timpr.toNat / 16 % 16) 0 b.timprAddr.toNat) ∧
    (∀ src, idle → k.severePending = some src → s.colHeldBy c = false → k.mask < 15 → s.vectorOk c 0x100 →
      ∃ t, (∀ i ∈ [Instr.severeEvent c, .impreciseBusError c, .interruptEntry c, .fence c], exec i s = .next t) ∧ t.mem = s.mem ∧ t.tags = s.tags ∧
        (t.core c).w = k.w ∧ (t.core c).world = k.world ∧
        (t.core c).scause = 3 ∧ (t.core c).spc = k.pc ∧ (t.core c).sval = BitVec.ofNat 32 src ∧ (t.core c).mask = 15 ∧
        (t.core c).pc = 0x100 ∧ (t.core c).bank.pcc = b.tvec ∧ (t.core c).severePending = none) ∧
    (∀ t, idle → s.eventTaken c = some t → ∀ rd rs1 rs2 : Fin 32, exec (.add c rd rs1 rs2) s = .next t ∧ exec (.fence c) s = .next t ∧
      exec (.trap c 0) s = .next t) ∧
    (∀ p ps, k.posted = p :: ps →
      ∃ t, exec (.postedStoreError c) s = .next t ∧ (t.core c).posted = ps ∧ (t.core c).w = k.w ∧ (t.core c).pc = k.pc ∧ t.mem = s.mem ∧
        t.regs = s.regs ∧
        let old := if p.world = .glass then k.glass else k.field
        let new := if p.world = .glass then (t.core c).glass else (t.core c).field
        (old.timpr.toNat.testBit 0 = true → new = { old with timpr := old.timpr ||| 2 }) ∧
        (old.timpr.toNat.testBit 0 = false →
          new = { old with timpr := BitVec.ofNat 32 (1 + 16 * p.sub), timprAddr := BitVec.ofNat 32 p.addr })) ∧
    (∀ n, n < 128 → s.colHeldBy c = true → s.linePending n c = true → s.lineRouted n c .field = true → k.mask < s.linePrio n →
      n ∈ (s.deferLines c).col.deferred) ∧
    (s.deferLines c).deferLines c = s.deferLines c)

/-- The Col (R236 to R243, R245, R246, R248): a GATE through a gate capability enters the Glasshouse, an UNGATE of the call returns with the
low 24 bits of its register, the end of the budget aborts the call with 0xC000_0008, and the end of the holdoff allows a recovery. -/
def Obligations.ColCalls : Prop :=
  ∀ (s₀ : State) (c : CoreId) (r : Fin 32) (sv : Saved),
    let back (t : State) (w1 w2 v : Word) : Prop :=
      (t.core c).world = .field ∧ (t.core c).pc = sv.pc + 4 ∧ (t.core c).mask = sv.mask ∧ (t.core c).saved = none ∧ t.mem = s₀.mem ∧
        t.on F.COL.STAT.held = false ∧
        ∀ q : Fin 32, (t.core c).rd q = if q.val = 0 then 0 else if q = Fin.ofNat 32 sv.rd then v else if q.val = 1 then w1 else if q.val = 2 then w2
          else if q.val ≤ 17 ∨ q.val = 28 then 0 else sv.w[q]
    let inCall (s : State) : Prop := s.on F.COL.STAT.held = true ∧ s.get F.COL.STAT.mode = 0 ∧ (s.core c).saved = some sv
    (∀ cs : Fin 32, s₀.runs c →
      let s := s₀.fetched c
      let k := s.core c
      isCap cs = true → k.world = .field →
      let v := k.crd (capOf cs)
      v.tag = true → s.stale v = false → v.otype = 0xF0 → k.mask < 14 → s.on F.COL.STAT.present = true → s.on F.COL.STAT.held = false →
      s.on F.COL.STAT.wilted = false → s.on F.COL.STAT.closed = false →
      ∃ t, exec (.gate c r cs) s₀ = .next t ∧ (t.core c).world = .glass ∧ (t.core c).pc = 0 ∧ (t.core c).mask = s.get F.COL.CFG.entry_mask ∧
        (t.core c).saved = some ⟨k.w, k.mask, r.val, k.pc⟩ ∧ (t.core c).resv = none ∧
        (∀ q : Fin 32, (t.core c).rd q = if q.val < 9 then k.rd q else 0) ∧
        (t.core c).glass.pcc = ⟨capBits v.base v.length v.perms 0 v.epoch v.eidx, true⟩ ∧ t.mem = s.mem ∧
        t.on F.COL.STAT.held = true ∧ t.get F.COL.STAT.occupant = coreNum c ∧ t.get F.COL.STAT.mode = 0 ∧
        t.reg R.COL.GATEBASE = BitVec.ofNat 32 v.base ∧ t.col.budgetRun = true ∧ t.col.limit = s.get F.COL.BUDGET.call_us) ∧
    (s₀.runs c →
      let s := s₀.fetched c
      let k := s.core c
      k.world = .glass → inCall s →
      ∃ t, exec (.ungate c r) s₀ = .next t ∧ back t (k.rd 1) (k.rd 2) (k.rd r &&& 0x00FFFFFF) ∧ t.on F.COL.STAT.wilted = false) ∧
    let k := s₀.core c
    (k.world = .glass → inCall s₀ → k.halted = false → s₀.get F.COL.STAT.occupant = coreNum c → s₀.col.budgetRun = true → s₀.col.limit ≤ 1 →
      ∃ t, exec .colBudgetExpire s₀ = .next t ∧ back t (k.rd 1) (k.rd 2) 0xC0000008 ∧ t.on F.COL.STAT.wilted = true ∧
        t.get F.COL.WILT.cause = 1 ∧ t.get F.COL.WILT.core = coreNum c ∧ t.reg R.COL.WILT_PC = k.pc ∧
        t.col.holdoff = some (32 * s₀.get F.COL.HOLDOFF.units)) ∧
    (∀ n, s₀.col.holdoff = some n → n ≤ 1 →
      ∃ t, exec .colHoldoffExpire s₀ = .next t ∧ t.col.holdoff = none ∧ t.core0 = s₀.core0 ∧ t.core1 = s₀.core1 ∧ t.mem = s₀.mem ∧
        (s₀.on F.COL.STAT.wilted = true → s₀.on F.COL.STAT.closed = false → t.on F.COL.STAT.recover_due = true))

/-- The order in which a register page judges a write (R580): the domain, the channel, the width, ownership, the register; the first that
refuses records its cause, and a hole answers OK. A write that passes reaches its register: IRQ_EN takes the value, IRQ_RAW clears the
bits written as 1 (R24). While the domain powers up the access waits (R82; log 76). -/
def Obligations.RegisterWriteOrder : Prop :=
  ∀ (s : State) (ini : Ini) (size : Size) (off : BitVec 17) (v : Word) (f : EngineFate),
    let a := 0x40000000 + off.toNat
    let p := off.toNat / 0x1000
    let w := s.iniWorld ini
    let n := iniCode ini
    let ends (t : State) (sub : Nat) : Prop := exec (.registerWrite ini size off v f) s = .next (t.answer [] sub).settle
    let up := s.risingAt a = false ∧ s.domainReady (pageDomain p) = true
    let whole := size = .word ∧ off.toNat % 4 = 0
    let counted (t : State) : State := t.inc (F.HDR.OWNER.world_refused.onPage p)
    (s.risingAt a = true → exec (.registerWrite ini size off v f) s = .next s) ∧
    (s.domainReady (pageDomain p) = false → ends (s.offAccess ini w true a) busOFF) ∧
    (up → pageAdmits ini = false → ends (counted (s.fault p causeWORLD n w true a)) busPAGE) ∧
    (up → pageAdmits ini = true → ¬ whole → ends (s.fault p causeWIDTH n w true a) busPAGE) ∧
    (up → pageAdmits ini = true → whole → s.mayAccess ini w true a = false →
      ends (counted ((if ini = .probe then s.probeTamper else s).fault p causeWORLD n w true a)) busPAGE) ∧
    (up → pageAdmits ini = true → whole → s.mayAccess ini w true a = true → pageReg p (off.toNat % 0x1000) = none →
      ends (s.fault p causeHOLE n w true a) 0) ∧
    (up → pageAdmits ini = true → whole → s.mayAccess ini w true a = true → off.toNat % 0x1000 = R.HDR.IRQ_EN → w = .glass →
      s.locked p = false → ends (s.setReg a v) 0) ∧
    (up → pageAdmits ini = true → whole → s.mayAccess ini w true a = true → off.toNat % 0x1000 = R.HDR.IRQ_RAW → w = .glass →
      s.locked p = false → ends (s.setReg a (s.reg a &&& ~~~v)) 0)

/-- Bit by bit, what a write that reached its register leaves in its plain fields (R31, R36): a bit that the Field may not write, or that a
locked page protects, keeps its value, a bit written as 1 clears a W1C bit, and a writable bit takes the written one. A refused change of
a /G field records WORLD, of a locked field LOCKED_WRITE; a write that would change neither records nothing. -/
def Obligations.FieldProtection : Prop :=
  ∀ (s : State) (r : RegInfo) (ini : Ini) (w : World) (a : Nat) (v : Word),
    let p := pageOf a
    let old := s.reg a
    let g (i : Nat) : Bool := decide (w = .field) && (s.dynG r a).getLsbD i
    let l (i : Nat) : Bool := s.locked p && r.lk.getLsbD i && !g i
    let diff (i : Nat) : Bool := v.getLsbD i != (s.current a).getLsbD i
    let x := (s.fieldWrite r ini w a v).2
    let t := (s.fieldWrite r ini w a v).1
    let quiet := s.on (F.HDR.FAULT.valid.onPage p) = false
    (∀ i, i < 32 → x.new.getLsbD i =
      (if g i || (s.locked p && r.lk.getLsbD i) then old.getLsbD i
        else if r.w1c.getLsbD i && v.getLsbD i then false
        else if r.rw.getLsbD i then v.getLsbD i else old.getLsbD i)) ∧
    ((∀ i, i < 32 → (g i && diff i) = false ∧ (l i && diff i) = false) → t = s) ∧
    (quiet → (∃ i, i < 32 ∧ g i = true ∧ diff i = true) → t.get (F.HDR.FAULT.cause.onPage p) = causeWORLD ∧ x.recorded = true) ∧
    (quiet → (∀ i, i < 32 → (g i && diff i) = false) → (∃ i, i < 32 ∧ l i = true ∧ diff i = true) →
      t.get (F.HDR.FAULT.cause.onPage p) = causeLOCKED_WRITE ∧ x.recorded = true)

/-- The commands on the common page header (R24 to R26, R32 to R34, R42, R540, R544). Every clear of a page's counters (R24, R167, R168, and
the counter registers of the chapters) leaves them 0 and changes no other register, no core and no memory. -/
def Obligations.PageHeaderCommands : Prop :=
  (∀ (s : State) (ini : Ini) (p : Fin 32) (v : Word) (key : BitVec 16),
    let here (r : Nat) : Nat := r + pageBase p
    let f (x : Fld) : Fld := x.onPage p
    let w := s.iniWorld ini
    let st := s.get (f F.HDR.LOCK.state)
    let bad := s.get (f F.HDR.LOCK.bad_keys)
    let k := BitVec.ofNat 32 key.toNat
    let mine := w = .glass ∨ s.get (f F.HDR.LOCK.locker) = worldCode w
    let free (r : Nat) : Prop := s.reaches ini (here r) ∧ s.unhindered ini p
    let stats (t : State) : Prop := (∀ i, i < 16 → t.reg (here R.HDR.MON_BIN + 4 * i) = 0) ∧ t.reg (here R.HDR.MON_COUNT) = 0 ∧
      t.reg (here R.HDR.MON_SUM) = 0 ∧ t.reg (here R.HDR.MON_MAX) = 0 ∧ t.reg (here R.HDR.MON_MIN) = 0xFFFFFFFF
    let statRegs := [here R.HDR.MON_COUNT, here R.HDR.MON_SUM, here R.HDR.MON_MAX, here R.HDR.MON_MIN] ++
      (numsFrom 16 0).map (fun i => here R.HDR.MON_BIN + 4 * i)
    (free R.HDR.OWNER → pageReassignable p = true → F.HDR.OWNER.clr_cnt.get v = 0 → F.HDR.OWNER.owner.get v < 2 →
      F.HDR.OWNER.owner.get v ≠ s.owner p →
      exec (.ownerWrite ini p v) s = (s.put (f F.HDR.OWNER.owner) (F.HDR.OWNER.owner.get v)).done) ∧
    (free R.HDR.OWNER → F.HDR.OWNER.owner.get v = s.owner p →
      exec (.ownerClrCnt ini p v) s = ((s.put (f F.HDR.OWNER.world_refused) 0).put (f F.HDR.OWNER.lock_refused) 0).done) ∧
    (s.reaches ini (here R.HDR.LOCK) → key ≠ 0 →
      (st = 0 → exec (.softLock ini p key) s =
        State.done { (((s.put (f F.HDR.LOCK.state) 1).put (f F.HDR.LOCK.locker) (worldCode w)).put (f F.HDR.LOCK.bad_keys) 0) with
          lockKeys := tabSet 0 p k s.lockKeys }) ∧
      (st = 1 → mine → tabGet 0 s.lockKeys p = k → exec (.unlock ini p key) s =
        State.done { (((s.put (f F.HDR.LOCK.state) 0).put (f F.HDR.LOCK.locker) 0).put (f F.HDR.LOCK.bad_keys) 0) with
          lockKeys := tabSet 0 p 0 s.lockKeys }) ∧
      (st = 1 → mine → tabGet 0 s.lockKeys p ≠ k →
        ∃ t, exec (.unlock ini p key) s = .next t ∧ t.get (f F.HDR.LOCK.bad_keys) = min 7 (bad + 1) ∧
          t.get (f F.HDR.LOCK.state) = (if 3 ≤ bad then 2 else 1) ∧ t.lockKeys = s.lockKeys ∧
          s.changesOnly t [here R.HDR.LOCK, here R.HDR.FAULT, here R.HDR.FAULT_ADDR, here R.HDR.IRQ_RAW, here R.HDR.OWNER]) ∧
      (w = .glass → st ≤ 1 → exec (.hardLock ini p key) s = (s.put (f F.HDR.LOCK.state) 2).done)) ∧
    (s.reaches ini (here R.HDR.FAULT) → exec (.faultClear ini p v) s =
      ((s.setReg (here R.HDR.FAULT) 0).setReg (here R.HDR.FAULT_ADDR) 0).done) ∧
    (free R.HDR.SNAP_CFG → ∃ t, exec (.snapCfgWrite ini p v) s = .next t ∧ t.get (f F.HDR.SNAP_CFG.held) = 0 ∧
      t.get (f F.HDR.SNAP_CFG.en) = F.HDR.SNAP_CFG.en.get v ∧ t.get (f F.HDR.SNAP_CFG.hold) = F.HDR.SNAP_CFG.hold.get v ∧
      s.changesOnly t [here R.HDR.SNAP_CFG]) ∧
    (free R.HDR.MON_CTRL → ∃ t, exec (.monClear ini p false v) s = .next t ∧ stats t ∧
      t.get (f F.HDR.MON_CTRL.run) = (if monDefined p (s.get (f F.HDR.MON_SEL.quantity)) then F.HDR.MON_CTRL.run.get v else 0) ∧
      t.get (f F.HDR.MON_CTRL.bin_base) = F.HDR.MON_CTRL.bin_base.get v ∧ s.changesOnly t (here R.HDR.MON_CTRL :: statRegs)) ∧
    (free R.HDR.MON_SEL → F.HDR.MON_SEL.quantity.get v ≠ s.get (f F.HDR.MON_SEL.quantity) →
      ∃ t, exec (.monClear ini p true v) s = .next t ∧ stats t ∧ t.get (f F.HDR.MON_SEL.quantity) = F.HDR.MON_SEL.quantity.get v ∧
      t.get (f F.HDR.MON_SEL.bin_shift) = F.HDR.MON_SEL.bin_shift.get v ∧
      t.get (f F.HDR.MON_CTRL.run) = (if monDefined p (F.HDR.MON_SEL.quantity.get v) then s.get (f F.HDR.MON_CTRL.run) else 0) ∧
      s.changesOnly t (here R.HDR.MON_SEL :: here R.HDR.MON_CTRL :: statRegs))) ∧
  (∀ (s : State) (ini : Ini) (v : Word) (c : CoreId) (k : Fin 4) (p : Fin 2),
    let row (a n : Nat) : List Fld := (numsFrom n 0).map fun i => ⟨a + 4 * i, 31, 0⟩
    let clears (i : Instr) (a : Nat) (fs : List Fld) : Prop :=
      s.reaches ini a → s.unhindered ini (pageOf a) →
        ∃ t, exec i s = .next t ∧ (∀ f ∈ fs, t.get f = 0) ∧ s.changesOnly t (fs.map (·.addr))
    clears (.offaccClr ini) R.PWR.OFFACC [F.PWR.OFFACC.count] ∧
    clears (.lcStateClr ini) R.LC.ADV_STAT [F.LC.ADV_STAT.state_refused] ∧
    clears (.prbCntClr ini) R.PRB.CNTCLR (row R.PRB.CNT 1) ∧
    clears (.cpuCntClr ini c) (R.CPU.CNTCLR + 0x1000 * coreNum c)
      (row (R.CPU.CAPCNT + 0x1000 * coreNum c) 1 ++ row (R.CPU.STALE + 0x1000 * coreNum c) 1 ++
        [F.CPU.EPOCH_STAT.state_refused.cpu c, F.CPU.EPOCH_STAT.busy_refused.cpu c]) ∧
    clears (.intcDeferClr ini) R.INTC.DEFER [F.INTC.DEFER.count] ∧
    clears (.gtStatClr ini k) (R.TMR.GT_STAT + 16 * k) [F.TMR.GT_STAT.expiries.idx 16 k] ∧
    clears (.colCntClr ini) R.COL.CNTCLR (row R.COL.CNT0 1 ++ row R.COL.CNT1 1 ++ row R.COL.CNT2 1) ∧
    clears (.smpuCntClr ini) R.SMPU.CNTCLR (row R.SMPU.REFUSE 1 ++ [F.SMPU.INTEG.sram, F.SMPU.INTEG.beat] ++ row R.SMPU.COH 1) ∧
    clears (.flcCntClr ini) R.FLC.CNTCLR (row R.FLC.ECC 1 ++ row R.FLC.REDUND 1 ++ row R.FLC.REFUSE 1 ++ [F.FLC.STAT.erase_slow]) ∧
    clears (.ldgCntClr ini) R.LDG.CNTCLR (row R.LDG.CNT_REFUSE 1 ++ row R.LDG.RETRY 1 ++ row R.LDG.INTEG 1 ++ row R.LDG.REFUSE 1 ++
      [F.LDG.WEAR.warn_count, F.LDG.STAT.wear_warn]) ∧
    clears (.cryCntClr ini) R.CRY.CNTCLR (row R.CRY.CPN_CNT 1 ++ row R.CRY.CPN_CNT2 1 ++ row R.CRY.JOBCNT 1) ∧
    clears (.cloCntClr ini) R.CLO.CNTCLR (row R.CLO.CNT 8 ++ row R.CLO.REFUSE 1) ∧
    clears (.trlCntClr ini) R.TRL.CNTCLR (row R.TRL.DEFCNT 1 ++ row R.TRL.DCACHE 1 ++ row R.TRL.HALT_RING 1 ++ row R.TRL.HALT_ADDR 1) ∧
    clears (.rdlCntClr ini) R.RDL.CNTCLR (row R.RDL.FRAMES 12 ++ row R.RDLT.HIT 64) ∧
    clears (.svCntClr ini) R.RLP.SV_CNTCLR (row R.RLP.SV_CNT0 1 ++ row R.RLP.SV_CNT1 1 ++ row R.RLP.SV_HIT 8) ∧
    clears (.ethCntClr ini p) (R.ETH.CNTCLR + 0x1000 * p) (row (R.ETH.RXCNT + 0x1000 * p) 5) ∧
    clears (.rlpCntClr ini) R.RLP.CNTCLR (row R.RLP.TXCNT 1 ++ row R.RLP.RXCNT 1 ++ row R.RLP.RXERR 1) ∧
    clears (.gcbCntClr ini) R.GCB.CNTCLR (row R.GCB.CNT0 1 ++ row R.GCB.CNT1 1) ∧
    clears (.hlkCntClr ini) R.HLK.CNTCLR (row R.HLK.CNT0 1 ++ row R.HLK.CNT1 1 ++ row R.HLK.CNT2 1) ∧
    clears (.mgpCntClr ini) R.MGP.CNTCLR (row R.MGP.CNT 1) ∧
    (F.PWR.BOOST.req.get v = s.get F.PWR.BOOST.req → clears (.boostCntClr ini v) R.PWR.BOOST [F.PWR.BOOST.refused]) ∧
    (F.PWR.SLEEP.target.get v < 4 → clears (.sleepCntClr ini v) R.PWR.SLEEP [F.PWR.SLEEP.refused]) ∧
    (F.PWR.PATH.force_vbat.get v = s.get F.PWR.PATH.force_vbat → s.on F.PWR.PATH.src = (s.on F.PWR.PATH.vsys_ok && !s.on F.PWR.PATH.force_vbat) →
      clears (.pathCntClr ini v) R.PWR.PATH [F.PWR.PATH.switch_cnt]))

/-- What follows at once from every command (R221, R533, R584) changes nothing but line latches, alert bits and the samples behind them. -/
def Obligations.SettleFrame : Prop :=
  ∀ (s : State), (∀ a, settledReg a = false → s.settle.reg a = s.reg a) ∧
    { s.settle with regs := s.regs, intcSample := s.intcSample, aon := { s.settle.aon with alertLast := s.aon.alertLast } } = s

/-- The GPIO and ADC commands (R57, R64 to R69, R579): SET and CLR change OUT, and the pins that GPIO sees follow; a level that the board puts
on a digital input pin stands in IN at once and raises the event that EDGE selects, or with FILT waits for 3 ticks of CK27; nothing of it is
seen in analogue mode, without CK06 or PD13, or with I/O group H absent; a go scans the channels of SCAN, after calibration where the ADC has none; a conversion gives round(4,096 × V / V_DDA),
averaged and corrected; the end of a scan raises event 0; a read of a result clears its valid and overrun bits. R67: a conversion's code
lies within half a code of 4,096 × V / V_DDA, and 4,095 is the highest. -/
def Obligations.GpioAndAdc : Prop :=
  (∀ (s : State) (ini : Ini) (v : Word),
    let free (a : Nat) : Prop := s.reaches ini a ∧ s.unhindered ini (pageOf a)
    let ana := s.get F.GPIO.ANA.ana
    let chs := s.get F.ADC.SCAN.channels
    let todo := (numsFrom 4 0).filter fun k => chs.testBit k
    let ready := free R.ADC.START ∧ s.on F.ADC.STAT.busy = false ∧ s.adc.goWait = false ∧ s.on F.ADC.CTRL.en = true ∧ chs ≠ 0 ∧
      chs &&& (15 ^^^ ana) = 0 ∧ s.on F.ADC.STAT.calibrating = false
    (free R.GPIO.SET → exec (.gpioSet ini v) s = (s.put F.GPIO.OUT.out (s.get F.GPIO.OUT.out ||| F.GPIO.SET.set.get v)).gpioSample.done) ∧
    (free R.GPIO.CLR → exec (.gpioClr ini v) s =
      (s.put F.GPIO.OUT.out (s.get F.GPIO.OUT.out &&& (0xFFF ^^^ F.GPIO.CLR.clr.get v))).gpioSample.done) ∧
    (∀ (n : Fin 12) (level : Bool),
      let ext := if level then s.gpio.ext ||| 2 ^ n.val else s.gpio.ext &&& (0xFFF ^^^ 2 ^ n.val)
      let old := s.on (F.GPIO.IN.in.bit n)
      let armed := old ≠ level ∧ (s.reg R.GPIO.EDGE).getLsbD (2 * n.val + if level then 0 else 1) = true
      let raw (u : State) : Bool := u.on ((F.HDR.IRQ_RAW.raw.onPage pageGPIO).bit n)
      let input := s.gpioSees = true ∧ s.gpioAnalog n = false ∧ s.groupOn (.gpio n) = true ∧ s.gpioPin n = .z
      ∃ t, exec (.gpioEdge n level) s = .next t ∧ t.gpio.ext = ext ∧
        s.changesOnly { t with gpio := s.gpio, aon := { t.aon with snapEvents := s.aon.snapEvents, snapMerged := s.aon.snapMerged } }
          [R.GPIO.IN, R.HDR.IRQ_RAW + pageBase pageGPIO, R.SNAP.TRIG_STAT] ∧
        (s.gpioSees = false → t.on (F.GPIO.IN.in.bit n) = old ∧ raw t = raw s) ∧
        (s.gpioSees = true → s.gpioAnalog n = true → t.on (F.GPIO.IN.in.bit n) = false ∧ raw t = raw s) ∧
        (s.groupOn (.gpio n) = false → old = false → t.on (F.GPIO.IN.in.bit n) = false ∧ raw t = raw s) ∧
        (input → (s.get F.GPIO.FILT.filt).testBit n = false → t.on (F.GPIO.IN.in.bit n) = level ∧ (raw t = true ↔ raw s = true ∨ armed)) ∧
        (input → (s.get F.GPIO.FILT.filt).testBit n = true → t.on (F.GPIO.IN.in.bit n) = old ∧ raw t = raw s ∧
          tabGet 0 t.gpio.filt n = if old = level then 0 else if tabGet 0 s.gpio.filt n = 0 then 3 else tabGet 0 s.gpio.filt n)) ∧
    (ready → s.on F.ADC.STAT.cal_valid = true → exec (.adcGo ini) s =
      State.done { (s.put F.ADC.STAT.busy 1) with adc := ⟨todo, false, s.adc.calWait, false⟩ }) ∧
    (ready → s.on F.ADC.STAT.cal_valid = false → exec (.adcGo ini) s =
      State.done { (s.put F.ADC.STAT.calibrating 1) with adc := { s.adc with goWait := true } }) ∧
    (free R.ADC.CTRL → F.ADC.CTRL.avg.get v < 5 → s.on F.ADC.STAT.calibrating = false → s.on F.ADC.STAT.busy = false →
      ∃ t, exec (.adcCal ini v) s = .next t ∧ t.on F.ADC.STAT.calibrating = true ∧ t.get F.ADC.CTRL.avg = F.ADC.CTRL.avg.get v ∧
        t.get F.ADC.CTRL.en = F.ADC.CTRL.en.get v ∧ s.changesOnly t [R.ADC.CTRL, R.ADC.STAT]) ∧
    (∀ (offset : BitVec 8) (gain : BitVec 16), s.on F.ADC.STAT.calibrating = true →
      ∃ t, exec (.adcCalDone offset gain) s = .next t ∧ t.on F.ADC.STAT.calibrating = false ∧ t.on F.ADC.STAT.cal_valid = true ∧
        t.get F.ADC.CAL.offset = offset.toNat ∧ t.get F.ADC.CAL.gain = gain.toNat ∧ t.adc.goWait = false ∧
        (s.adc.goWait = true → t.on F.ADC.STAT.busy = true ∧ t.adc.todo = todo ∧ t.adc.delayed = true)) ∧
    (∀ (volts : List Word) (vdda : Word) (k : Nat) (ks : List Nat), s.adc.todo = k :: ks → k < 4 → s.on F.ADC.STAT.calibrating = false →
      volts.length = 2 ^ s.get F.ADC.CTRL.avg →
      ∃ t, exec (.adcResult volts vdda) s = .next t ∧ t.adc.todo = ks ∧ t.on (F.ADC.RESULT.valid.idx 4 k) = true ∧
        t.get (F.ADC.RESULT.value.idx 4 k) = s.adcCorrect (meanOf (volts.map fun x => adcCode x.toNat vdda.toNat)) ∧
        (t.on (F.ADC.RESULT.overrun.idx 4 k) = true ↔ s.on (F.ADC.RESULT.valid.idx 4 k) = true ∨ s.on (F.ADC.RESULT.overrun.idx 4 k) = true)) ∧
    (s.on F.ADC.STAT.busy = true → s.adc.todo = [] → s.on F.ADC.CTRL.cont = false →
      exec .scanDone s = .next ((s.irq pageADC 0).put F.ADC.STAT.busy 0).settle) ∧
    (s.on F.ADC.STAT.busy = true → s.adc.todo = [] → s.on F.ADC.CTRL.cont = true →
      exec .scanDone s = .next { ((s.irq pageADC 0).put F.ADC.STAT.busy 1) with adc := ⟨todo, false, s.adc.calWait, false⟩ }.settle) ∧
    (∀ k : Fin 4, s.readable ini (R.ADC.RESULT + 4 * k) →
      exec (.adcResultRead ini k) s =
        .next ((((s.put (F.ADC.RESULT.valid.idx 4 k) 0).put (F.ADC.RESULT.overrun.idx 4 k) 0).answer
          (bytesLE 4 (s.reg (R.ADC.RESULT + 4 * k)).toNat) 0).settle))) ∧
  (∀ (v d : Nat), 0 < d → v ≤ d →
    adcCode v d ≤ 4095 ∧ (adcCode v d < 4095 → 2 * 4096 * v < 2 * d * adcCode v d + d ∧ 2 * d * adcCode v d ≤ 2 * 4096 * v + d))

/-- Software interrupt lines (R220, R538), watchdogs and timers (R226 to R230): each command completes. A watchdog that starts or is fed
reloads; its first zero warns and grants grace; without grace left it expires, and a core watchdog reloads and resets its core; a system
watchdog, the broadest of those that expire in one cycle, resets the Y880 (R99). Two core watchdogs in one cycle make one reset of both cores,
which is the model's choice (log 73). A timer that starts takes LOAD, keeps its source while it runs, and raises its event at zero. -/
def Obligations.SoftwareLinesAndTimers : Prop :=
  ∀ (s : State) (ini : Ini) (v : Word),
    let free (a : Nat) : Prop := s.reaches ini a ∧ s.unhindered ini (pageOf a)
    let sw := s.get F.INTC.SW_SET.set
    let set := s.put F.INTC.SW_SET.set (sw ||| F.INTC.SW_SET.set.get v)
    let saved (t : State) : State := { t with aon := { t.aon with snapEvents := s.aon.snapEvents, snapMerged := s.aon.snapMerged } }
    let last (k : Nat) : Prop := s.wdogCounts k = true ∧ s.get (F.TMR.WD_STAT.count.idx 16 k) ≤ 1
    let due (k : Nat) : Prop := last k ∧ s.wdogWarns k = false
    let reset (t : State) (cause scope : Nat) : Prop := t.get F.SYS.RST_CAUSE.cause = cause ∧ t.get F.SYS.RST_CAUSE.scope = scope
    (free R.INTC.SW_SET → exec (.intcSwSet ini v) s = (if sw.testBit 7 = false ∧ v.getLsbD 7 = true then set.trig 7 else set).done) ∧
    (free R.INTC.SW_CLR → exec (.intcSwClr ini v) s = (s.put F.INTC.SW_SET.set (sw &&& (255 ^^^ F.INTC.SW_CLR.clr.get v))).done) ∧
    (∀ k : Fin 3,
      let ctrl := R.TMR.WD_CTRL + 16 * k
      let stat := R.TMR.WD_STAT + 16 * k
      let load := s.get (F.TMR.WD_LOAD.reload.idx 16 k)
      let grace := s.get (F.TMR.WD_CTRL.grace.idx 16 k)
      let en := s.on (F.TMR.WD_CTRL.en.idx 16 k)
      let key := F.TMR.WD_FEED.key.get v
      (free ctrl →
        ∃ t, exec (.wdogEnable ini k v) s = .next t ∧ t.on (F.TMR.WD_CTRL.en.idx 16 k) = true ∧
          t.get (F.TMR.WD_CTRL.grace.idx 16 k) = F.TMR.WD_CTRL.grace.get v ∧
          (en = false → t.get (F.TMR.WD_STAT.count.idx 16 k) = load ∧ t.on (F.TMR.WD_STAT.warned.idx 16 k) = false) ∧
          (en = true → t.reg stat = s.reg stat) ∧ s.changesOnly t [ctrl, stat]) ∧
      (last k → grace ≠ 0 → s.on (F.TMR.WD_STAT.warned.idx 16 k) = false →
        ∃ t, exec (.wdogWarn k) s = .next t ∧ t.on (F.TMR.WD_STAT.warned.idx 16 k) = true ∧ t.get (F.TMR.WD_STAT.count.idx 16 k) = 16 * grace ∧
          t.on ((F.HDR.IRQ_RAW.raw.onPage pageTMR).bit k) = true ∧
          s.changesOnly (saved t) [stat, R.HDR.IRQ_RAW + pageBase pageTMR, R.SNAP.TRIG_STAT]) ∧
      (¬ (last k ∧ grace ≠ 0 ∧ s.on (F.TMR.WD_STAT.warned.idx 16 k) = false) → exec (.wdogWarn k) s = .next s) ∧
      (free (R.TMR.WD_FEED + 16 * k) → en = true → key = 0x5744 → exec (.feed ini k v) s =
        ((s.put (F.TMR.WD_STAT.count.idx 16 k) load).put (F.TMR.WD_STAT.warned.idx 16 k) 0).done) ∧
      (free (R.TMR.WD_FEED + 16 * k) → en = true → key ≠ 0x5744 →
        ∃ t, exec (.feed ini k v) s = .next t ∧ t.get (F.TMR.WD_STAT.count.idx 16 k) = s.get (F.TMR.WD_STAT.count.idx 16 k) ∧
          t.on (F.TMR.WD_STAT.warned.idx 16 k) = s.on (F.TMR.WD_STAT.warned.idx 16 k) ∧
          t.get (F.TMR.WD_STAT.bad_feeds.idx 16 k) = min 15 (s.get (F.TMR.WD_STAT.bad_feeds.idx 16 k) + 1) ∧
          (s.on (F.HDR.FAULT.valid.onPage pageTMR) = false → t.get (F.HDR.FAULT.cause.onPage pageTMR) = 0x10) ∧
          s.changesOnly t [stat, R.HDR.FAULT + pageBase pageTMR, R.HDR.FAULT_ADDR + pageBase pageTMR, R.HDR.IRQ_RAW + pageBase pageTMR]) ∧
      (free (R.TMR.WD_FEED + 16 * k) → en = false → exec (.feed ini k v) s = s.done)) ∧
    (∀ w0 w1 w2 : Bool,
      let d0 := w0 = true ∧ due 0
      let d1 := w1 = true ∧ due 1
      let d2 := w2 = true ∧ due 2
      let run := exec (.wdogExpire w0 w1 w2) s
      (¬ d0 → ¬ d1 → ¬ d2 → run = .next s) ∧
      (d0 → ¬ d1 → ¬ d2 → run = .next ((s.wdogReload 0).coreReset .core0 7).settle) ∧
      (¬ d0 → d1 → ¬ d2 → run = .next ((s.wdogReload 1).coreReset .core1 7).settle) ∧
      (¬ d0 → ¬ d1 → d2 → run = .next (s.systemReset 6).settle) ∧
      (d0 → d1 → ¬ d2 → ∃ t, run = .next t ∧ reset t 7 4) ∧
      (d2 → ∃ t, run = .next t ∧ reset t 6 1)) ∧
    (∀ k : Fin 4,
      let ctrl := R.TMR.GT_CTRL + 16 * k
      let en := s.on (F.TMR.GT_CTRL.en.idx 16 k)
      (free ctrl →
        ∃ t, exec (.gtEnable ini k v) s = .next t ∧ t.on (F.TMR.GT_CTRL.en.idx 16 k) = true ∧
          t.get (F.TMR.GT_CTRL.periodic.idx 16 k) = F.TMR.GT_CTRL.periodic.get v ∧
          t.get (F.TMR.GT_CTRL.src.idx 16 k) = (if en then s.get (F.TMR.GT_CTRL.src.idx 16 k) else F.TMR.GT_CTRL.src.get v) ∧
          t.reg (R.TMR.GT_COUNT + 16 * k) = s.reg ((if en then R.TMR.GT_COUNT else R.TMR.GT_LOAD) + 16 * k) ∧
          s.changesOnly t [ctrl, R.TMR.GT_COUNT + 16 * k]) ∧
      (s.gtCounts k = true → s.reg (R.TMR.GT_COUNT + 16 * k) = 1 →
        ∃ t, exec (.gtExpire k) s = .next t ∧ t.on ((F.HDR.IRQ_RAW.raw.onPage pageTMR).bit (8 + k)) = true ∧
          t.get (F.TMR.GT_STAT.expiries.idx 16 k) = min 255 (s.get (F.TMR.GT_STAT.expiries.idx 16 k) + 1) ∧
          t.on (F.TMR.GT_CTRL.en.idx 16 k) = s.on (F.TMR.GT_CTRL.periodic.idx 16 k) ∧ t.reg (R.TMR.GT_COUNT + 16 * k) = 0 ∧
          s.changesOnly t [R.HDR.IRQ_RAW + pageBase pageTMR, R.TMR.GT_STAT + 16 * k, R.TMR.GT_COUNT + 16 * k, ctrl]) ∧
      (s.gtCounts k = false ∨ s.reg (R.TMR.GT_COUNT + 16 * k) ≠ 1 → exec (.gtExpire k) s = .next s))

/-- The SMPU (R257, R258, R263, R265, R274 to R277, R326): a region that no check refuses becomes pending, an overlapping one is refused and
counted; SYNC and its completion switch a channel's rules; the boot ROM loads the memory key once the DRBG serves, which leaves every powered
SRAM reading 0. In a fabric cycle a request is retried on the line that an agent of an earlier place operates on; a snoop cancels the eviction
of another agent's line. -/
def Obligations.MemoryProtection : Prop :=
  ∀ (s : State) (ini : Ini) (v : Word),
    let free (a : Nat) : Prop := s.reaches ini a ∧ s.unhindered ini (pageOf a)
    (∀ (ch : Fin 8) (n : Fin 16) (attr : Bool),
      let a := R.SMPU.RBASE + 128 * ch + 8 * n + 4 * b2n attr
      let m : Word := if attr then 0x00FF0FFF else 0xFFFFFFE0
      let x := (s.reg a &&& ~~~m) ||| (v &&& m)
      let old := s.pendingRule ch n
      let r : Rule := if attr then { old with attr := x } else { old with base := x }
      free a →
      (s.regionJudge ch n r = none → exec (.smpuRegionWrite ini ch n attr v) s = (s.setReg a x).done) ∧
      (s.regionJudge ch n r = some causeOVERLAP_EN →
        ∃ t, exec (.smpuRegionWrite ini ch n attr v) s = .next t ∧ t.reg a = s.reg a ∧ t.mpuActive = s.mpuActive ∧
          t.get F.SMPU.REFUSE.overlap = satAdd F.SMPU.REFUSE.overlap.max (s.get F.SMPU.REFUSE.overlap) 1)) ∧
    (free R.SMPU.SYNC → F.SMPU.SYNC.sync.get v % 4 = 0 →
      ∃ t, exec (.smpuSync ini v) s = .next t ∧ s.changesOnly t [R.SMPU.SYNC_DONE] ∧
        ∀ n, n < 8 → (t.get F.SMPU.SYNC_DONE.done).testBit n = ((s.get F.SMPU.SYNC_DONE.done).testBit n && !(F.SMPU.SYNC.sync.get v).testBit n)) ∧
    (∀ n : Fin 8, 2 ≤ n.val → s.on (F.SMPU.SYNC_DONE.done.bit n) = false →
      ∃ t, exec (.syncDone n) s = .next t ∧ t.on (F.SMPU.SYNC_DONE.done.bit n) = true ∧ t.on ((F.HDR.IRQ_RAW.raw.onPage pageSMPU).bit 9) = true ∧
        tabGet 0 t.mpuActive (aChctrl n) = s.reg (aChctrl n) ∧
        (∀ m, m < 16 → tabGet 0 t.mpuActive (aRbase n m) = s.reg (aRbase n m) ∧ tabGet 0 t.mpuActive (aRattr n m) = s.reg (aRattr n m)) ∧
        s.changesOnly { t with mpuActive := s.mpuActive } [R.SMPU.SYNC_DONE, R.HDR.IRQ_RAW + pageBase pageSMPU]) ∧
    (free R.SMPU.MEMKEY → ini = .core0 → s.inRom = true → s.drbgWaits = true → exec (.memkeyLoad ini) s = (s.drbgWait .keyStore).done) ∧
    (free R.SMPU.MEMKEY → ini = .core0 → s.inRom = true → s.drbgWaits = false →
      ∃ t, exec (.memkeyLoad ini) s = .next t ∧ t.on F.SMPU.MEMKEY.loaded = true ∧ t.tags = [] ∧ t.core0 = s.core0 ∧ t.core1 = s.core1 ∧
        ∀ a, t.byte a = if (s.pdOn 4 = true ∧ 0x20000000 ≤ a ∧ a < 0x20040000) ∨ (s.pdOn 5 = true ∧ 0x20040000 ≤ a ∧ a < 0x20080000) ∨
          (s.pdOn 6 = true ∧ 0x28000000 ≤ a ∧ a < 0x28020000) then 0 else s.byte a) ∧
    (∀ (r : CohRequest) (l k : Nat), s.fab.op = some (l, k) → hasTags r.line = true → r.ini ≠ .mgmt →
      exec (.cohRetry r) s = .next (if r.line / 32 * 32 = l ∧ k ≤ iniCode r.ini then s.inc F.SMPU.COH.retries else s)) ∧
    (∀ r : CohRequest, s.fab.op = none → exec (.cohRetry r) s = .next s) ∧
    (∀ (ini : Ini) (a : Nat),
      let t := s.snoop ini a
      let line := a / 32 * 32
      let cancels (c : Ini) (e : Option Nat) : Nat := if e = some line ∧ ini ≠ c then 1 else 0
      t.fab.op = some (line, iniCode ini + 1) ∧ t.core0.evict ≠ some line ∧ t.core1.evict ≠ some line ∧ t.fab.trlEvict ≠ some line ∧ t.mem = s.mem ∧
      t.get F.SMPU.COH.evict_cancel = min 65535 (s.get F.SMPU.COH.evict_cancel + (cancels .core0 s.core0.evict + cancels .core1 s.core1.evict +
        cancels .trellis s.fab.trlEvict)))

/-- The flash commands (R280, R283 to R290): a command that passes every check starts, its page or block takes its final contents, and the
page's marker is set; a refused one leaves its code, its event and the array as it was. The end of the operation frees the controller,
counts the pulses, clears the markers of an erased block, and records a block that wore out. R286's order of the checks: BUSY, then RANGE,
then STATE in RETIRED, then a worn block. -/
def Obligations.FlashCommands : Prop :=
  (∀ (s : State) (ini : Ini),
    let free := s.reaches ini R.FLC.CMD ∧ s.unhindered ini pageFLC
    let busy (t : State) (op a : Nat) : Prop := t.on F.FLC.STAT.busy = true ∧ t.flash.op = some ⟨op, a, flcTargetNo a⟩ ∧
      (∀ k, k < 128 → t.reg (R.FLC.BUF + 4 * k) = 0) ∧ t.core0 = s.core0 ∧ t.core1 = s.core1 ∧ t.tags = s.tags
    let programs (i : Instr) (op : Nat) : Prop := ∀ a, s.flcJudge op = (rcOK, a) →
      ∃ t, exec i s = .next t ∧ busy t op a ∧ t.marked (pageMark a) = true ∧
        ∀ x, t.byte x = if a ≤ x ∧ x < a + 512 then s.flcBuf.getD (x - a) 0 else s.byte x
    let erases (i : Instr) (op size : Nat) : Prop := ∀ a, s.flcJudge op = (rcOK, a) →
      ∃ t, exec i s = .next t ∧ busy t op a ∧ t.flash.marks = s.flash.marks ∧
        ∀ x, t.byte x = if a ≤ x ∧ x < a + size then 0xFF else s.byte x
    let refused (i : Instr) (op : Nat) : Prop := ∀ code a, s.flcJudge op = (code, a) → code ≠ rcOK →
      ∃ t, exec i s = .next t ∧ t.get F.FLC.RESULT.code = code ∧ t.on ((F.HDR.IRQ_RAW.raw.onPage pageFLC).bit 1) = true ∧ t.mem = s.mem ∧
        t.flash = s.flash
    (free → programs (.prog ini) 1 ∧ programs (.optProg ini) 3 ∧ erases (.erase ini) 2 0x10000 ∧ erases (.optErase ini) 4 0x2000 ∧
      refused (.prog ini) 1 ∧ refused (.erase ini) 2 ∧ refused (.optProg ini) 3 ∧ refused (.optErase ini) 4) ∧
    ∀ (o : FlashOp) (pulses : Fin 64), s.flash.op = some o →
      let prog := o.op = 1 ∨ o.op = 3
      let most := if prog then 8 else 64
      let size := if prog then 512 else eraseSize o.addr
      (∃ t, exec (.flashOpDone pulses true) s = .next t ∧ t.on F.FLC.STAT.busy = false ∧ t.flash.op = none ∧ t.get F.FLC.RESULT.code = rcOK ∧
        t.get F.FLC.RESULT.pulses = min most (pulses.val + 1) ∧ t.mem = s.mem ∧ t.flash.worn = s.flash.worn ∧
        ∀ m, t.marked m = (s.marked m && (decide prog ||
          !decide (pageMark o.addr ≤ m ∧ m < pageMark o.addr + (markBlock (pageMark o.addr)).2)))) ∧
      (∃ t, exec (.flashOpDone pulses false) s = .next t ∧ t.on F.FLC.STAT.busy = false ∧ t.flash.op = none ∧ t.get F.FLC.RESULT.code = rcWORN ∧
        t.get F.FLC.RESULT.pulses = most ∧ (∀ x, ¬ (o.addr ≤ x ∧ x < o.addr + size) → t.byte x = s.byte x) ∧
        t.flash.worn = (if o.target < 64 then s.flash.worn ||| 2 ^ o.target else s.flash.worn))) ∧
  (∀ (s : State) (op : Nat),
    let a := (s.reg R.FLC.ADDR).toNat
    let idle := s.flash.op = none ∧ s.lc.xfer = none
    (¬ idle → (s.flcJudge op).1 = rcBUSY) ∧
    (idle → flcTarget op a = none → (s.flcJudge op).1 = rcRANGE) ∧
    (∀ t, idle → flcTarget op a = some t → s.lcState = lcRETIRED → s.flcJudge op = (rcSTATE, t)) ∧
    (∀ t, idle → flcTarget op a = some t → s.lcState ≠ lcRETIRED → flcTargetNo t < 64 → s.flash.worn.testBit (flcTargetNo t) = true →
      s.flcJudge op = (rcWORN, t)) ∧
    (a % 512 ≠ 0 → flcTarget op a = none))

/-- The counter engine and the ledger's writes (R301, R305 to R310, R316 to R319): a command starts or is refused; an increment makes the
counter one more under the next sequence number, a raise gives it its argument, a read shows it, a failing hidden code ends each with INTERNAL
and writes nothing (R302, R307). A store on hard ground is a core's imprecise error or the probe's failed write, and the log scan finds the
slot after the newest one that it can read. -/
def Obligations.LedgerAndCounters : Prop :=
  ∀ (s : State) (ini : Ini) (n : BitVec 7),
    let free := s.reaches ini R.LDG.CNT_CMD ∧ s.unhindered ini pageLDG
    let c := s.counter n.toNat
    let starts (i : Instr) (op : Nat) : Prop :=
      (s.ldg.cmd = none → s.ldg.ready = true → exec i s = State.done { s with ldg := { s.ldg with cmd := some (op, n.toNat) } }) ∧
      (s.ldg.cmd ≠ none → exec i s = ((s.put F.LDG.CNT_RES.code rcBUSY).inc F.LDG.CNT_REFUSE.busy).done) ∧
      (s.ldg.cmd = none → s.ldg.ready = false → exec i s = ((s.put F.LDG.CNT_RES.code rcSTATE).inc F.LDG.CNT_REFUSE.state).done)
    let ends (code : Nat) (t : State) : Prop := exec (.cntDone false 0 true) s = .next t ∧ t.ldg.cmd = none ∧ t.get F.LDG.CNT_RES.code = code ∧
      t.on ((F.HDR.IRQ_RAW.raw.onPage pageLDG).bit 0) = true
    let shows (t : State) (v : Nat) : Prop := t.reg R.LDG.CNT_VAL = BitVec.ofNat 32 v ∧ t.reg (R.LDG.CNT_VAL + 4) = BitVec.ofNat 32 (v / 2 ^ 32)
    (free → starts (.cntRead ini n) 0 ∧ starts (.cntInc ini n) 1 ∧ starts (.cntRaise ini n) 2) ∧
    (n.toNat < 64 → s.ldg.cmd = some (0, n.toNat) → ∃ t, ends rcOK t ∧ shows t c.1 ∧ t.mem = s.mem) ∧
    (n.toNat < 64 → s.ldg.cmd = some (1, n.toNat) → c.1 < 2 ^ 64 - 1 → c.2 < 2 ^ 32 - 1 →
      ∃ t, ends rcOK t ∧ t.counter n.toNat = (c.1 + 1, c.2 + 1) ∧ shows t (c.1 + 1) ∧
        ∀ x, ¬ (cntAddr n.toNat ≤ x ∧ x < cntAddr n.toNat + 256) → t.byte x = s.byte x) ∧
    (n.toNat < 64 → s.ldg.cmd = some (2, n.toNat) → c.2 < 2 ^ 32 - 1 →
      let v := s.getPair R.LDG.CNT_ARG (R.LDG.CNT_ARG + 4)
      (c.1 < v → ∃ t, ends rcOK t ∧ t.counter n.toNat = (v, c.2 + 1)) ∧ (v < c.1 → ∃ t, ends rcRANGE t ∧ t.mem = s.mem)) ∧
    (66 ≤ n.toNat → n.toNat < 80 → s.ldg.cmd = some (1, n.toNat) → ∃ t, ends rcAUTH t ∧ t.mem = s.mem) ∧
    (∀ f : CellFate, f.bad = true → n.toNat < 64 → ∀ op, op < 3 → s.ldg.cmd = some (op, n.toNat) →
      ∃ t, exec (.cntDone true f.pulse.extra f.pulse.verified) s = .next t ∧ t.ldg.cmd = none ∧ t.get F.LDG.CNT_RES.code = rcINTERNAL ∧ t.mem = s.mem ∧
        t.get F.LDG.INTEG.count = satAdd F.LDG.INTEG.count.max (s.get F.LDG.INTEG.count) 1 ∧ t.cloReport = s.cloReport ++ [(28, 0)]) ∧
    (∀ p : LdgStore, ((s.ldg.posted.find? fun q => decide (9 ≤ q.ini)) <|> s.ldg.posted.head?) = some p →
      let rest := s.ldg.posted.erase p
      (∀ k : Fin 5, k.val < 2 → exec (.ledgerWriteDone k true) s =
        .next (({ s with ldg := { s.ldg with posted := rest } }).addSat F.LDG.RETRY.passes k.val).settle) ∧
      (256 ≤ s.sparesUsed → p.ini = 0 → s.on (F.HDR.FAULT.valid.onPage pageLDG) = false →
        ∃ t, exec (.ledgerWriteDone 4 false) s = .next t ∧ t.ldg.posted = rest ∧ t.core0.posted = s.core0.posted ++ [⟨p.world, 1, p.addr⟩] ∧
          t.get (F.HDR.FAULT.cause.onPage pageLDG) = causeWORN_LINE ∧ ∀ x, x / 4 ≠ p.addr / 4 → t.byte x = s.byte x) ∧
      (256 ≤ s.sparesUsed → p.ini = iniCode .probe → ∃ t, exec (.ledgerWriteDone 4 false) s = .next t ∧ t.ldg.posted = rest ∧
        t.prb.wfail = some 1 ∧ t.core0 = s.core0 ∧ t.core1 = s.core1)) ∧
    (s.pdOn 8 = true → s.ldg.ready = false →
      let bad := (s.scanBad 768).1
      let u := (s.scanBad 768).2
      let newest := s.newestSlot bad.contains
      let slot := (newest.map fun e => (e.1 + 1) % 768).getD 0
      let seq := (newest.map fun e => (e.2 + 1) % 65536).getD 0
      exec .logScan s = .next { u with ldg := { u.ldg with ready := true, logSlot := slot, logSeq := seq } })

/-- The power path (R51, R53, R55, R60, R63): VSYS carries the load while it is debounced and not forced away, every change of source raises
its event, and leaving VSYS drops boost (R79); VBAT samples, the VDDIO groups and the cartridge supply's overcurrent. In SHIP both switches
are open and every pin is high impedance but SHIPWK_N (R54); a pin of an absent I/O group is high impedance (R57), the cartridge lines are
low then (R50; the order of the two rules is log 69). -/
def Obligations.PowerPath : Prop :=
  ∀ (s : State) (ini : Ini) (hold ok : Bool) (mv : BitVec 12) (present band : BitVec 4) (r : CartReply) (g : Integ),
    let src := F.PWR.PATH.src
    let ev (k : Nat) : Fld := (F.HDR.IRQ_RAW.raw.onPage pagePWR).bit k
    let low := s.get F.PWR.VBAT.low_mv
    let v := mv.toNat
    (s.aon.pstate ≠ 4 → s.on F.PWR.PATH.vsys_ok = false →
      exec .vsysRise s = .next { s with aon := { s.aon with vsysDebounce := true } }) ∧
    (s.aon.vsysDebounce = true → s.aon.pstate ≠ 4 → s.on src = false →
      ∃ t, exec .vsysGained s = .next t ∧ t.aon.vsysDebounce = false ∧ t.on F.PWR.PATH.vsys_ok = true ∧
        (s.aon.writing = false → t.mem = s.mem) ∧ t.on src = !s.on F.PWR.PATH.force_vbat ∧ (t.on src = true → t.on (ev 1) = true)) ∧
    (s.aon.pstate ≠ 4 → s.on src = true → ∃ t, exec .vsysLost s = .next t ∧ t.on F.PWR.PATH.vsys_ok = false ∧ t.on src = false ∧ t.on (ev 0) = true ∧
      t.mem = s.mem ∧ t.core0 = s.core0 ∧ t.core1 = s.core1 ∧ t.on F.PWR.BOOST.req = false ∧ t.on F.PWR.BOOST.active = false ∧
      (s.on F.PWR.BOOST.active = true → t.on F.PWR.BOOST.dropped = true)) ∧
    (s.reaches ini R.PWR.PATH → s.unhindered ini pagePWR → ∃ t, exec (.forceVbatWrite ini hold) s = .next t ∧
      t.on F.PWR.PATH.force_vbat = hold ∧ t.on src = (s.on F.PWR.PATH.vsys_ok && !hold) ∧ (s.aon.writing = false → t.mem = s.mem)) ∧
    (s.mainFrom = if s.aon.pstate = 4 then .open else if s.on src then .vsys else .vbat) ∧
    (∀ p d, p.domain = some d →
      (s.aon.pstate = 4 → s.pin p = ⟨.z, if p = .shipwkN then .up else .none⟩) ∧
      (s.aon.pstate ≠ 4 → s.groupOn p = false → s.pin p = ⟨if d = 12 then .low else .z, .none⟩)) ∧
    (∃ t, exec (.vbatOkChange ok) s = .next t ∧ t.on F.PWR.PATH.vbat_ok = ok ∧ s.changesOnly t [R.PWR.PATH, R.PWR.VBAT] ∧
      t.get F.PWR.VBAT.vbat_mv = if ok then s.get F.PWR.VBAT.vbat_mv else 0) ∧
    (s.aon.pstate ≠ 4 → ∃ t, exec (.vbatSample mv) s = .next t ∧
      t.get F.PWR.VBAT.vbat_mv = (if s.on F.PWR.PATH.vbat_ok then v else 0) ∧
      (s.on F.PWR.PATH.vbat_ok = true →
        t.on (ev 2) = (s.on (ev 2) || (decide (v < low) && s.aon.vbatLowArmed)) ∧
        t.aon.vbatLowArmed = if v < low then false else if low + 50 ≤ v then true else s.aon.vbatLowArmed)) ∧
    (∃ t, exec (.iogrpChange present band r g) s = .next t ∧ t.get F.PWR.IOGRP.present = present.toNat ∧
      ∀ k, k < 4 → t.on (F.PWR.IOGRP.band.bit k) =
        (if present.toNat.testBit k then (if s.on (F.PWR.IOGRP.present.bit k) then s.on (F.PWR.IOGRP.band.bit k) else band.toNat.testBit k)
          else false)) ∧
    (2 ≤ s.get F.GCB.STAT.state → s.gcb.job = none → ∃ t, exec (.gcbOvercurrent r g) s = .next t ∧ t.get F.GCB.STAT.state = 0 ∧
      t.on F.GCB.STAT.oc = true ∧ t.on F.GCB.CTRL.pwr = false ∧ t.on ((F.HDR.IRQ_RAW.raw.onPage pageGCB).bit 4) = true ∧
      s.changesOnly t [R.GCB.STAT, R.GCB.CTRL, R.GCB.CNT1, R.HDR.IRQ_RAW + pageBase pageGCB])

/-- Oscillators and boost (R74 to R78): the fine trim steps towards 96 MHz, stable oscillators show, a boost request runs its course on VSYS
and is refused on VBAT. The always-on time base, alarm and energy meter (R93 to R96). -/
def Obligations.ClocksBoostAndTime : Prop :=
  (∀ (s : State) (ini : Ini) (v : Word) (miss slow : Bool),
    let fine := s.get F.PWR.HFRC.fine
    let free := s.reaches ini R.PWR.BOOST ∧ s.unhindered ini pagePWR ∧ F.PWR.BOOST.clr.get v = 0
    let stepped (t : State) (vc : Vcore) (skip : Bool) : Prop := t.aon.vcore = vc ∧ t.aon.winSkip = skip ∧
      s.changesOnly { t with aon := { t.aon with vcore := s.aon.vcore, winSkip := s.aon.winSkip } } [R.PWR.BOOST, R.PWR.XO]
    (s.on F.PWR.HFRC.cal_en = true → s.ck04 = true → ∃ t, exec (.hfrcCalCount miss slow) s = .next t ∧ t.on F.PWR.HFRC.cal_done = true ∧
      s.changesOnly t [R.PWR.HFRC] ∧
      t.get F.PWR.HFRC.fine = if !miss then fine else if slow then min 255 (fine + 1) else fine - 1) ∧
    (s.get F.PWR.XO.users ≠ 0 → exec .hfxoStable s = .next (s.put F.PWR.XO.hfxo_ok 1)) ∧
    (s.on F.PWR.XO.hfxo_ok = true → s.on F.PWR.BOOST.req = true → exec .pllLock s = .next (s.put F.PWR.XO.pll_lock 1)) ∧
    (s.aon.pstate ≠ 4 → s.on F.PWR.XO.lf_src = false → exec .lfxoStable s = .next (s.put F.PWR.XO.lfxo_ok 1)) ∧
    (s.on F.PWR.BOOST.req = true → s.on F.PWR.XO.hfxo_ok = true → s.on F.PWR.XO.pll_lock = true →
      exec .boostSwitch s =
        .next { s.put F.PWR.BOOST.active 1 with aon := { s.aon with vcore := .high, winSkip := true } }) ∧
    (free → F.PWR.BOOST.req.get v = 1 → s.on F.PWR.BOOST.req = false →
      ∃ t, exec (.boostReq ini v) s = .next t ∧ stepped t (if s.on F.PWR.PATH.src then .rising else s.aon.vcore) s.aon.winSkip ∧
        t.on F.PWR.BOOST.req = s.on F.PWR.PATH.src ∧ t.on F.PWR.BOOST.active = s.on F.PWR.BOOST.active ∧
        (s.on F.PWR.PATH.src = true → t.on (F.PWR.XO.users.bit 4) = true ∧ t.get F.PWR.BOOST.refused = s.get F.PWR.BOOST.refused) ∧
        (s.on F.PWR.PATH.src = false → t.reg R.PWR.XO = s.reg R.PWR.XO ∧
          t.get F.PWR.BOOST.refused = min 255 (s.get F.PWR.BOOST.refused + 1))) ∧
    (free → F.PWR.BOOST.req.get v = 0 → s.on F.PWR.BOOST.req = true →
      ∃ t, exec (.boostReq ini v) s = .next t ∧ stepped t s.aon.vcore.drop (s.aon.winSkip || s.on F.PWR.BOOST.active) ∧
        t.on F.PWR.BOOST.req = false ∧
        t.on F.PWR.BOOST.active = false ∧ t.on (F.PWR.XO.users.bit 4) = false)) ∧
  (∀ (s : State) (ini : Ini) (v : Word),
    let reads (a : Nat) : Prop := s.readable ini a
    let free (a : Nat) : Prop := s.reaches ini a ∧ s.unhindered ini (pageOf a)
    let due := s.on F.AON.ALARM_CTRL.en = true ∧ (s.aon.alarmDue = true ∨ s.alarmCmp = s.aon.time)
    let shot (t : State) : Prop := exec .alarmFire s = .next t ∧ t.on F.AON.ALARM_CTRL.fired = true ∧
      t.on ((F.HDR.IRQ_RAW.raw.onPage pageAON).bit 0) = true ∧ t.aon.alarmDue = false ∧
      (s.aon.writing = false → t.mem = s.mem) ∧ t.aon.time = s.aon.time
    (reads R.AON.TIME_LO → ∃ t, exec (.aonTimeRead ini) s = .next t ∧ t.resp = ⟨bytesLE 4 s.aon.time, 0⟩ ∧
      s.changesOnly { t with aon := { t.aon with timeLatch := s.aon.timeLatch } } [] ∧
      ∀ n, tabGet 0 t.aon.timeLatch n = if n = iniCode ini then s.aon.time / 2 ^ 32 else tabGet 0 s.aon.timeLatch n) ∧
    (due → s.on F.AON.ALARM_CTRL.periodic = false → ∃ t, shot t ∧ t.on F.AON.ALARM_CTRL.en = false ∧ t.alarmCmp = s.alarmCmp) ∧
    (due → s.on F.AON.ALARM_CTRL.periodic = true → ∃ t, shot t ∧ t.on F.AON.ALARM_CTRL.en = true ∧
      t.alarmCmp = (s.alarmCmp + (s.reg R.AON.PERIOD).toNat) % 2 ^ 48) ∧
    (free R.AON.ALARM_CTRL → s.on F.AON.ALARM_CTRL.en = false → ∃ t, exec (.alarmArm ini v) s = .next t ∧
      t.on F.AON.ALARM_CTRL.en = true ∧ t.get F.AON.ALARM_CTRL.periodic = F.AON.ALARM_CTRL.periodic.get v ∧
      (s.alarmCmp ≤ s.aon.time → t.aon.alarmDue = true ∧
        (s.on (F.HDR.FAULT.valid.onPage pageAON) = false → t.get (F.HDR.FAULT.cause.onPage pageAON) = 0x10)) ∧
      (s.aon.time < s.alarmCmp → t.aon.alarmDue = s.aon.alarmDue ∧ s.changesOnly t [R.AON.ALARM_CTRL])) ∧
    (free R.SNAP.EM_CFG → ∃ t, exec (.emClear ini v) s = .next t ∧ t.aon.emCount = 0 ∧ t.mem = s.mem ∧
      t.get F.SNAP.EM_CFG.run = F.SNAP.EM_CFG.run.get v) ∧
    (reads R.SNAP.EM_LO → exec (.emRead ini) s =
      .next (({ s with aon := { s.aon with emLatch := s.aon.emCount / 2 ^ 32 % 65536 } }.answer (bytesLE 4 (s.aon.emCount % 2 ^ 32)) 0).settle)))

/-- The power sequencer (R81 to R83, R91, R92): what it takes next, and what the requests, the ends of its steps, the hold of the pins and its
release do. Its place for PD1, and PD10 beside PD9, are the model's choice (log 50). -/
def Obligations.PowerDomains : Prop :=
  ∀ (s : State) (ini : Ini) (v : Word) (d : Nat),
    let hold (k : Nat) : Fld := F.PWR.HOLD.hold.bit k
    (s.seqNext = some (d, true) → s.pdOn d = false ∧ s.wanted d = true ∧
      ∀ e, e ∈ seqOrder → s.pdOn e = false → s.wanted e = true → s.canRise e = true → seqOrder.idxOf d ≤ seqOrder.idxOf e) ∧
    (s.seqNext = some (d, false) → s.pdOn d = true ∧ s.wanted d = false ∧ s.pdHeld d = false ∧
      (∀ e, e ∈ seqOrder → s.pdOn e = false → s.wanted e = true → s.canRise e = false) ∧
      ∀ e, e ∈ seqOrder → s.pdOn e = true → s.wanted e = false → s.pdHeld e = false → seqOrder.idxOf e ≤ seqOrder.idxOf d) ∧
    (s.reaches ini R.PWR.DOMAIN → s.unhindered ini pagePWR → s.aon.seq = none → s.aon.pstate ≠ 4 →
      let u := s.setReg R.PWR.DOMAIN ((v &&& 0x3BFA) ||| (s.reg R.PWR.DOMAIN &&& 0xFFFFC405))
      ∃ t, exec (.domainReqWrite ini v) s = .next t ∧ t.reg R.PWR.DOMAIN = u.reg R.PWR.DOMAIN ∧ t.aon.seq = u.seqNext ∧ t.core0 = s.core0 ∧ t.core1 = s.core1 ∧ t.mem = s.mem ∧
        ∀ e, t.pdOn e = s.pdOn e) ∧
    (s.aon.seq = none → s.aon.pstate ≠ 4 → exec .pdWaitEnd s = .next { s with aon := { s.aon with seq := s.seqNext } }) ∧
    (1 ≤ d → d ≤ 13 → s.aon.seq = some (d, true) →
      ∃ t, exec .domainPowerUp s = .next t ∧ t.pdOn d = true ∧ (∀ e, e ≤ 13 → e ≠ d → t.pdOn e = s.pdOn e) ∧
        (∀ e, t.on (hold e) = s.on (hold e)) ∧
        (d = 2 → s.inReset = false → t.core0.started = true ∧ t.core0.world = .glass ∧ t.core0.pc = 0 ∧ t.core0.rom = some false) ∧
        (d = 3 → s.inReset = false → t.core1.started = true ∧ t.core1.world = .glass ∧ t.core1.pc = 0 ∧ t.core1.rom = some true) ∧
        (d = 9 → t.ent.scanning = true) ∧ (d = 10 → t.ent.testing = true)) ∧
    (1 ≤ d → d ≤ 13 → s.aon.seq = some (d, false) →
      ∃ t, exec .domainPowerDown s = .next t ∧ t.pdOn d = false ∧ (∀ e, e ≤ 13 → e ≠ d → t.pdOn e = s.pdOn e) ∧
        (d = 1 ∨ 11 ≤ d → t.on (hold d) = true) ∧ (d = 2 → t.core0 = Core.init) ∧ (d = 3 → t.core1 = Core.init) ∧
        (4 ≤ d → d ≤ 6 → ∀ a, (d = 4 → 0x20000000 ≤ a ∧ a < 0x20040000) → (d = 5 → 0x20040000 ≤ a ∧ a < 0x20080000) →
          (d = 6 → 0x28000000 ≤ a ∧ a < 0x28020000) → t.byte a = 0 ∧ t.tag (a / 16) = false) ∧
        (d = 13 → s.pdOn 13 = true → s.on (hold 13) = false → s.inReset = false → s.aon.pstate ≠ 4 → s.aon.entry = none →
          t.pin .hlIrqN = s.pin .hlIrqN ∧ ∀ n, t.pin (.gpio n) = s.pin (.gpio n))) ∧
    (s.on (hold d) = true → s.pdOn d = true → s.inReset = false → s.aon.pstate ≠ 4 → ∀ p o, p.domain = some d → 1 ≤ d → s.groupOn p = true →
      s.aon.pinHold.find? (fun e => decide (e.1 = p)) = some (p, o) → s.pin p = o) ∧
    (s.reaches ini R.PWR.HOLD → s.unhindered ini pagePWR → ∃ t, exec (.holdRelease ini v) s = .next t ∧
      t.mem = s.mem ∧ t.core0 = s.core0 ∧ t.core1 = s.core1 ∧ (s.gpioSees = false → s.changesOnly t [R.PWR.HOLD]) ∧
      ∀ e, e ≤ 13 → t.on (hold e) = (s.on (hold e) && !(s.pdOn e && v.getLsbD e)))

/-- Sleep and wake (R85 to R90, R173): entries, the reserve write with PD8 and PD9 up, the point of no return, the wakes. -/
def Obligations.SleepAndWake : Prop :=
  ∀ (s : State) (events : BitVec 9),
    let target := s.get F.PWR.SLEEP.target
    let starts := s.aon.pstate = 0 ∧ s.sweep = none ∧ s.aon.entry = none ∧ s.allStopped = true
    let e := events.toNat
    let held := s.aon.heldWake
    (starts → target = 0 → ∃ t, exec .sleepEntry s = .next t ∧ t.aon.pstate = 1 ∧ t.mem = s.mem ∧ t.core0 = s.core0 ∧ t.core1 = s.core1) ∧
    (starts → target ≠ 0 → s.on F.PWR.SLEEP.glass_ok = false → ∃ t, exec .sleepEntry s = .next t ∧ t.aon.pstate = 1 ∧ t.mem = s.mem ∧
      t.get F.PWR.SLEEP.refused = min 255 (s.get F.PWR.SLEEP.refused + 1) ∧ t.core0 = s.core0 ∧ t.core1 = s.core1) ∧
    (starts → target ≠ 0 → s.on F.PWR.SLEEP.glass_ok = true → ∃ t, exec .sleepEntry s = .next t ∧ t.aon.pstate = 0 ∧
      t.aon.entry = some target ∧ t.aon.committed = false ∧ t.aon.writing = false ∧ t.mem = s.mem ∧ t.core0 = s.core0 ∧ t.core1 = s.core1) ∧
    (∀ p, s.aon.pstate = 0 → s.sweep = none → s.aon.entry = some p → s.aon.committed = false → s.aon.writing = false →
      s.pdServes 8 = true → s.pdServes 9 = true → s.ent.chain < 64 → s.reserveWaits = false →
      exec .sleepEntry s = .next (State.settle { s with aon := { s.aon with writing := true } })) ∧
    (∀ p, s.aon.pstate = 0 → s.sweep = none → s.aon.entry = some p → s.aon.committed = false → s.aon.writing = true →
      ∃ t, exec .sleepEntry s = .next t ∧ t.aon.pstate = 0 ∧ t.aon.entry = some p ∧ t.aon.committed = true ∧ t.core0 = s.core0 ∧
        t.core1 = s.core1 ∧ ∀ d, d ≤ 13 → t.pdOn d = s.pdOn d) ∧
    (∀ p, s.aon.pstate = 0 → s.sweep = none → s.aon.entry = some p → s.aon.committed = true → s.aon.seq = none → s.seqNext = none →
      (∀ d, d ∈ seqOrder → s.pdOn d = true → d = 1 ∧ p = 2) →
      ∃ t, exec .sleepEntry s = .next t ∧ t.aon.pstate = p + 1 ∧ t.aon.entry = none ∧ t.mem = s.mem) ∧
    (∀ p, s.aon.pstate = 0 → s.aon.entry = some p → s.aon.committed = false → s.wakeEvents 1 e ≠ 0 →
      ∃ t, exec (.wakeEvent events) s = .next t ∧ t.aon.entry = none ∧ (s.core0.started = true → t.core0 = { s.core0 with wfi := false }) ∧
        (s.core1.started = true → t.core1 = { s.core1 with wfi := false }) ∧
        t.on F.PWR.WAKE_CAUSE.abandoned = true ∧ (t.reg R.PWR.WAKE_CAUSE).toNat % 512 = s.wakeEvents 1 e ∧
        (s.aon.writing = false → t.mem = s.mem) ∧ (∀ d, d ≤ 13 → t.pdOn d = s.pdOn d) ∧
        ∀ d, d = 8 ∨ d = 9 → s.aon.raised.testBit d = true → s.pdOn d = true ∨ s.pdRising d = true → t.pdReq d = true) ∧
    (∀ p, s.aon.pstate = 0 → s.aon.entry = some p → s.aon.committed = true →
      ∃ t, exec (.wakeEvent events) s = .next t ∧ t.aon.entry = some p ∧ t.aon.committed = true ∧
        t.aon.heldWake = held ||| s.wakeEvents (p + 1) e ∧ t.reg R.PWR.WAKE_CAUSE = s.reg R.PWR.WAKE_CAUSE ∧ t.mem = s.mem) ∧
    (s.aon.pstate ≠ 0 → held = 0 → s.wakeEvents s.aon.pstate e ≠ 0 →
      ∃ t, exec (.wakeEvent events) s = .next t ∧ t.aon.heldWake = s.wakeEvents s.aon.pstate e ∧ t.aon.pstate = s.aon.pstate ∧
        (t.reg R.PWR.WAKE_CAUSE).toNat % 512 = s.wakeEvents s.aon.pstate e ∧ t.on F.PWR.WAKE_CAUSE.abandoned = false ∧ t.mem = s.mem) ∧
    (s.aon.pstate = 1 → held ≠ 0 → ∃ t, exec .dozeWake s = .next t ∧ t.aon.pstate = 0 ∧ t.aon.heldWake = 0 ∧
      (s.core0.started = true → t.core0 = { s.core0 with wfi := false }) ∧
      (s.core1.started = true → t.core1 = { s.core1 with wfi := false }) ∧ t.mem = s.mem) ∧
    ((s.aon.pstate = 2 ∨ s.aon.pstate = 3) → held ≠ 0 → ∃ t, exec .hibernateWake s = .next t ∧ t.aon.pstate = 0 ∧ t.aon.heldWake = 0 ∧
      t.sweepDone = 2 ^ 64 - 1 ∧ t.sweep = none ∧ t.mem = s.mem ∧ t.get F.PWR.WAKE_CAUSE.from = s.aon.pstate - 1 ∧
      t.get F.PWR.DOMAIN.req = (s.get F.PWR.WAKE_DOMAINS.domains ||| 5 ||| (if s.pdOn 1 then 2 else 0)))

/-- A system reset (R97 to R99): the cause is recorded and counted, the SRAM and core 1 are lost, the time base goes on, the life-cycle state
is latched anew, and core 0 starts the boot ROM unless RESET_N or TEST holds the reset. Firmware's request is cause 0x04. Power-on reset
(R107): everything but the stored contents is at its reset value, the life-cycle state is latched, core 0 starts the boot ROM; leaving
SHIP is one with cause 0x02 (R54). TEST high is the model's held reset (R46; log 59), and in SHIP changes its level alone. During a reset
every pin outside PD0 whose I/O group is present is in its reset state (R45). -/
def Obligations.SystemAndPowerOnReset : Prop :=
  (∀ (s : State) (ini : Ini) (c : Nat),
    let after (t : State) (cause : Nat) : Prop :=
      t.get F.SYS.RST_CAUSE.cause = cause ∧ t.get F.SYS.RST_CAUSE.scope = 1 ∧
        t.get F.SYS.RST_CAUSE.sys_count = min 255 (s.get F.SYS.RST_CAUSE.sys_count + 1) ∧
        t.reg R.SYS.RST_HIST = BitVec.ofNat 32 ((s.reg R.SYS.RST_HIST).toNat * 256 + s.get F.SYS.RST_CAUSE.cause) ∧
        t.aon.time = s.aon.time ∧ t.aon.pstate = 0 ∧ t.core1 = Core.init ∧ t.flash.lcRec = s.flash.lcRec ∧ t.lcState = s.lcLatched % 8 ∧
        t.reg R.PWR.DOMAIN = State.reset.reg R.PWR.DOMAIN ∧ t.pending = s.pending ∧
        (∀ a, (0x20000000 ≤ a ∧ a < 0x20080000) ∨ (0x28000000 ≤ a ∧ a < 0x28020000) → t.byte a = 0 ∧ t.tag (a / 16) = false) ∧
        (s.flash.op = none → s.ldg.posted = [] → ∀ a, a < 0x20000000 → t.byte a = s.byte a) ∧
        if s.inReset then t.core0 = { Core.init with powered := true }
        else t.core0.executing = true ∧ t.core0.world = .glass ∧ t.core0.pc = 0 ∧ t.core0.rom = some false
    (3 < c → c ≤ 0x0E → c ≠ 5 → c ≠ 7 → c ≠ 9 → s.aon.pstate ≠ 4 → ∃ t, exec (.systemReset [⟨c, none⟩]) s = .next t ∧ after t c) ∧
    (s.reaches ini R.SYS.RST_REQ → s.unhindered ini pageSYS → ∃ t, exec (.softSys ini) s = .next t ∧ after t 4)) ∧
  (∀ (s : State) (vbat : Bool) (present band : BitVec 4) (straps : BitVec 2),
    let after (t : State) (cause : Nat) : Prop :=
      t.get F.SYS.RST_CAUSE.cause = cause ∧ t.get F.SYS.RST_CAUSE.scope = 0 ∧ t.aon.time = 0 ∧ t.aon.pstate = 0 ∧ t.core1 = Core.init ∧
        t.get F.PWR.IOGRP.present = present.toNat ∧ t.on F.PWR.PATH.vbat_ok = vbat ∧ t.lcState = t.lcLatched % 8 ∧ t.aon.straps = straps.toNat ∧
        t.slots = [] ∧ t.tags = [] ∧ (∀ a, 0x20000000 ≤ a → a < 0x30000000 → t.byte a = 0) ∧ t.pending = s.pending ∧
        (s.lc.xfer = none → t.flash.lcRec = s.flash.lcRec) ∧
        (s.flash.op = none → s.lc.xfer = none → s.ldg.cmd = none → s.ldg.posted = [] → s.cry.refill = none → s.aon.writing = false →
          s.logQueue = [] → ∀ a, a < 0x20000000 ∨ (0x30000000 ≤ a ∧ a < 0x40000000) → t.byte a = s.byte a) ∧
        t.core0.executing = !s.aon.testHigh ∧ (s.aon.testHigh = false → t.core0.world = .glass ∧ t.core0.pc = 0 ∧ t.core0.rom = some false)
    (∀ stage, ∃ t, exec (.powerOnReset vbat present band straps stage) s = .next t ∧ after t 1) ∧
    (s.aon.pstate = 4 → ∃ t, exec (.shipWake vbat present band straps) s = .next t ∧ after t 2) ∧
    (∀ d p, s.inReset = true → s.aon.pstate ≠ 4 → p.domain = some d → 1 ≤ d → s.groupOn p = true → s.pin p = p.atReset) ∧
    (∀ high, s.aon.pstate = 4 → exec (.testPinChange high) s = .next { s with aon := { s.aon with testHigh := high } }) ∧
    (s.aon.testHigh = false → s.aon.pstate ≠ 4 → ∃ t, exec (.testPinChange true) s = .next t ∧ t.aon.testHigh = true ∧ t.core0.executing = false ∧
      t.core1.executing = false) ∧
    (s.aon.testHigh = true → s.on F.SYS.RSTPIN.held = false → s.aon.pstate ≠ 4 →
      ∃ t, exec (.testPinChange false) s = .next t ∧ t.aon.testHigh = false ∧ t.core0.started = true ∧ t.core0.rom = some false ∧ t.core0.pc = 0))

/-- A core reset (R100, R101): the core loses what it held and starts the boot ROM's restart path while its domain is powered and no reset is
held; the other core is not touched. The reset pin (R102 to R106): glitches are counted and reported, a low level holds a reset of cause 0x03, a stuck pin
raises its event, the release ends the held reset. -/
def Obligations.CoreResetAndResetPin : Prop :=
  (∀ (s : State) (ini : Ini) (c : CoreId) (cause : Nat),
    let after (t : State) (cause : Nat) : Prop :=
      t.get F.SYS.RST_CAUSE.cause = cause ∧ t.get F.SYS.RST_CAUSE.scope = 2 + coreNum c ∧ t.core (otherCore c) = s.core (otherCore c) ∧
        t.get F.SYS.RST_CAUSE.sys_count = s.get F.SYS.RST_CAUSE.sys_count ∧ (t.core c).dcache = [] ∧ (t.core c).posted = [] ∧
        (t.core c).resv = none ∧ (∀ r : Fin 32, (t.core c).rd r = 0) ∧ (t.core c).powered = (s.core c).powered ∧
        (t.core c).executing = ((s.core c).powered && !s.inReset) ∧
        ((s.core c).powered = true → s.inReset = false → (t.core c).world = .glass ∧ (t.core c).pc = 0 ∧ (t.core c).rom = some true) ∧
        ((s.core c).dcache.all (fun l => decide (l.st ≠ .modified)) = true → t.mem = s.mem ∧ t.tags = s.tags)
    s.colHeldBy c = false →
      (cause = 5 ∨ (7 ≤ cause ∧ cause ≤ 9) → s.aon.pstate ≤ 1 → ∃ t, exec (.coreReset [⟨cause, some c⟩]) s = .next t ∧ after t cause) ∧
      (s.reaches ini R.SYS.RST_REQ → s.unhindered ini pageSYS → ∃ t, exec (.softCore ini c) s = .next t ∧ after t 5)) ∧
  (∀ s : State,
    let masked := s.on F.SYS.RSTPIN.masked
    let held := s.on F.SYS.RSTPIN.held
    s.aon.pstate ≠ 4 →
      (masked = false → s.on F.SYS.RSTPIN.level = true → exec .resetPinGlitch s =
        .next ({ ((s.inc F.SYS.RSTPIN.glitch_cnt).irq pageSYS 1) with cloReport := s.cloReport ++ [(30, 0)] }.settle)) ∧
      (masked = false → held = false → ∃ t, exec .pinReset s = .next t ∧ t.on F.SYS.RSTPIN.level = false ∧ t.on F.SYS.RSTPIN.held = true ∧
        t.get F.SYS.RST_CAUSE.cause = 3 ∧ t.get F.SYS.RST_CAUSE.scope = 1 ∧ t.core0.executing = false ∧ t.core1.executing = false) ∧
      (masked = true → exec .pinReset s = .next (s.put F.SYS.RSTPIN.level 0)) ∧
      (held = true → s.on F.SYS.RSTPIN.stuck = false → ∃ t, exec .resetPinStuck s = .next t ∧ t.on F.SYS.RSTPIN.stuck = true ∧
        t.on ((F.HDR.IRQ_RAW.raw.onPage pageSYS).bit 0) = true ∧ t.mem = s.mem ∧ t.core0 = s.core0) ∧
      (held = true → ∃ t, exec .resetPinRelease s = .next t ∧ t.on F.SYS.RSTPIN.level = true ∧ t.on F.SYS.RSTPIN.held = false ∧
        (s.aon.testHigh = false → t.core0.started = true ∧ t.core0.rom = some false ∧ t.core0.pc = 0 ∧ t.core0.world = .glass)) ∧
      (held = false → exec .resetPinRelease s = .next (s.put F.SYS.RSTPIN.level 1).settle))

/-- The boot ROM (R109 to R120): the cold path enters an image only from a slot that verifies, a first or second failure resets the Y880 with
cause 0x0B, the third halts it, and RETIRED boots nothing; the warm path, which waits for the DRBG (R326), and the restart paths enter the
booted image. -/
def Obligations.BootPaths : Prop :=
  ∀ (s : State) (samples : List (List Bool)) (raw : BitVec 6144) (ledgerBad : Bool),
    let rom := s.core0.executing = true ∧ s.core0.rom = some false
    let cold := rom ∧ s.on F.SYS.RESUME.valid = false
    let tries := s.get F.SYS.BOOT_STAT.fail_cnt
    let m := ((((s.put F.SYS.BOOT_STAT.code_a 0xFF).put F.SYS.BOOT_STAT.code_b 0xFF).put F.SYS.BOOT_STAT.cause 0).bootEntropy samples raw)
    let u := m.1.memkeyLoad.fillFifo
    let p := if u.get F.OPT.CFG.pref_slot = 1 then 1 else 0
    let first (k : Nat) : Nat := if k = 0 then u.get F.OPT.SLOTS.a_first else u.get F.OPT.SLOTS.b_first
    let last (k : Nat) : Nat := if k = 0 then u.get F.OPT.SLOTS.a_last else u.get F.OPT.SLOTS.b_last
    let verdict (k : Nat) : Nat := u.verifySlot (first k) (last k)
    let up := ((((s.bootPower 7).bootPower 4).bootPower 6).bootPower 8).bootPower 9
    let able := m.2 = true ∧ ledgerBad = false ∧ (u.lcState = lcBLANK ∨ u.on F.SYS.BOOT_STAT.option_default = false)
    let boots (k : Nat) : Prop := ∃ t, exec (.coldBoot samples raw ledgerBad) s = .next t ∧ t.core0.rom = none ∧
      t.core0.world = (if u.loadsGlass (blockAddr (first k % 64)) then .glass else .field) ∧ t.get F.SYS.BOOT_STAT.slot = k ∧
      t.get F.SYS.BOOT_IMG.first_blk = first k % 64 ∧ t.on F.SYS.BOOT_IMG.valid = true ∧ t.on F.SYS.RESUME.valid = true ∧
      t.get F.SYS.BOOT_STAT.fail_cnt = 0
    let fails3 (cause : Nat) : Prop := ∃ t, exec (.coldBoot samples raw ledgerBad) s = .next t ∧
      (tries < 2 → t.get F.SYS.BOOT_STAT.fail_cnt = tries + 1 ∧ t.get F.SYS.RST_CAUSE.cause = 0x0B) ∧
      (tries = 2 → t.get F.SYS.BOOT_STAT.fail_cnt = 3 ∧ t.on F.SYS.BOOT_STAT.halted = true ∧ t.core0.executing = false ∧
        t.get F.SYS.BOOT_STAT.cause = cause)
    (cold → tries < 3 → s.lcState ≠ lcRETIRED →
      (∀ k, able → k = p ∨ (k = 1 - p ∧ verdict p ≠ 0) → verdict k = 0 → boots k) ∧
      (able → verdict p ≠ 0 → verdict (1 - p) ≠ 0 → fails3 0) ∧ (m.2 = false → fails3 9)) ∧
    (cold → tries < 3 → s.lcState = lcRETIRED → ∃ t, exec (.coldBoot samples raw ledgerBad) s = .next t ∧ t.core0.executing = false ∧ t.mem = s.mem) ∧
    (rom → s.on F.SYS.RESUME.valid = true → up.drbgWaits = true → exec .warmResume s = .next up.settle) ∧
    (∀ size, rom → s.on F.SYS.RESUME.valid = true → up.drbgWaits = false → (s.segs s.imageBase).all (segOk size) = true →
      ∃ t, exec .warmResume s = .next t ∧ t.core0.rom = none ∧ t.core0.resv = none ∧ t.core0.world = if s.loadsGlass s.imageBase then .glass else .field) ∧
    (s.core0.executing = true → s.core0.rom = some true → s.on F.SYS.BOOT_IMG.valid = true →
      ∃ t, exec (.coreRestart .core0) s = .next t ∧ t.core0.rom = none ∧ t.core0.world = .field ∧ t.core0.mask = 0 ∧ t.core1 = s.core1 ∧ t.mem = s.mem ∧
        t.core0.pc = (s.entryPcc s.imageBase (s.hdr s.imageBase hdrFieldResume 4) .field).2) ∧
    (s.core1.executing = true → s.core1.rom = some true → s.on F.SYS.BOOT_IMG.valid = true →
      let e := s.hdr s.imageBase hdrCore1Entry 4
      ∃ t, exec .core1Start s = .next t ∧ exec (.coreRestart .core1) s = .next t ∧ t.core1.rom = none ∧ t.core0 = s.core0 ∧ t.mem = s.mem ∧
        (e ≠ 0 → t.core1.world = .field ∧ t.core1.pc = (s.entryPcc s.imageBase e .field).2) ∧
        (e = 0 → t.core1.wfi = true ∧ t.on (F.PWR.DOMAIN.req.bit 3) = false))

/-- Life-cycle transitions (R126, R127, R130 to R132, R134 to R137, R139). Debug in FIELDED (R140 to R142): the challenge, the response and the
end of the grant. A token, a challenge and a response wait for PD8 and PD9 (R136). -/
def Obligations.LifeCycleAndDebug : Prop :=
  (∀ (s : State) (ini : Ini) (v : Word) (target method : Nat),
    let st := s.lcState
    let asked := s.reaches ini R.LC.ADVANCE ∧ F.LC.ADVANCE.key.get v = 0x4C43 ∧ F.LC.ADVANCE.target.get v = target
    let idle := s.lc.xfer = none ∧ s.lc.job = none
    let result (t : State) (code : Nat) : Prop := t.get F.LC.ADV_STAT.result = code ∧ t.lc.xfer = none ∧
      t.on ((F.HDR.IRQ_RAW.raw.onPage pageLC).bit 1) = true
    let fail := s.counter cntLC_FAIL
    let base := s.counter cntLC_FAILBASE
    let token (d : Nat) : Prop := idle ∧ tokenDigest st target = some d ∧ s.on F.SYS.BOOT_STAT.option_default = false ∧ s.onlyRetire = false
    let ready := s.pdServes 8 = true ∧ s.pdServes 9 = true ∧ s.cry.run = none ∧ fail.1 < 2 ^ 64 - 1 ∧ fail.2 < 2 ^ 32 - 1 ∧ base.1 ≤ fail.1 ∧
      base.2 < 2 ^ 32 - 1
    let zero (t : State) : Prop := ∀ k, k < 8 → t.reg (R.LC.TOKEN + 4 * k) = 0
    let counted (t : State) : Prop := (t.counter cntLC_FAIL).1 = fail.1 + 1 ∧ zero t
    let good (d : Nat) : Prop := sha256 (s.regBytes R.LC.TOKEN 8) = s.regBytes (R.OPT.TOKD + 32 * d) 8
    (asked → idle → plainSuccessor st target = true → (target ≠ lcRETIRED → s.on F.SYS.BOOT_STAT.option_default = false ∧ s.onlyRetire = false) →
      (target = lcFIELDED → s.on F.SYS.BOOT_STAT.unsigned = false) →
      exec (.lcAdvancePlain ini v) s = State.done { s with lc := { s.lc with xfer := some (target, lcPLAIN) } }) ∧
    (asked → idle → target < 6 → plainSuccessor st target = false → tokenDigest st target = none →
      ∃ t, exec (.lcAdvancePlain ini v) s = .next t ∧ result t rcSTATE ∧ t.mem = s.mem) ∧
    (asked → ∀ d, token d → s.lc.backoff = 0 → ready →
      (good d → ∃ t, exec (.lcAdvanceToken ini v .clean) s = .next t ∧ counted t ∧ t.lc.xfer = some (target, lcTOKEN) ∧
        (t.counter cntLC_FAILBASE).1 = fail.1 + 1) ∧
      (¬ good d → ∃ t, exec (.lcAdvanceToken ini v .clean) s = .next t ∧ counted t ∧ result t rcAUTH ∧
        (t.counter cntLC_FAILBASE).1 = base.1 ∧ t.lc.backoff = 32768 * backoffSecs t.failCount)) ∧
    (asked → ∀ d (f : EngineFate), token d → s.lc.backoff = 0 → s.pdServes 8 = true → f.inc.bad = true →
      ∃ t, exec (.lcAdvanceToken ini v f) s = .next t ∧ result t rcINTERNAL ∧ zero t ∧ t.mem = s.mem) ∧
    (asked → ∀ d (f : EngineFate), token d → s.lc.backoff = 0 → s.pdServes 8 = false →
      ∃ t, exec (.lcAdvanceToken ini v f) s = .next t ∧ t.lc.job = some (.token target d f false) ∧ t.lcBusy = true ∧ t.mem = s.mem) ∧
    (asked → ∀ d f, token d → 0 < s.lc.backoff → ∃ t, exec (.lcAdvanceToken ini v f) s = .next t ∧ result t rcLOCKED ∧ zero t ∧ t.mem = s.mem) ∧
    (asked → ∀ f, s.lc.xfer ≠ none → s.lc.job = none → exec (.lcAdvanceToken ini v f) s = (s.put F.LC.ADV_STAT.result rcBUSY).done ∧
      exec (.lcAdvancePlain ini v) s = (s.put F.LC.ADV_STAT.result rcBUSY).done) ∧
    (s.lc.xfer = some (target, method) → s.lc.join = false → s.flash.op = none → s.flash.lcRec.length < 63 → target < 6 →
      ∃ t, exec .lcTransition s = .next t ∧ t.lcState = target ∧ t.lc.xfer = none ∧ t.get F.SYS.RST_CAUSE.cause = 0x0E ∧ t.slots = [] ∧
        t.flash.lcRec = s.flash.lcRec ++
          [⟨target, method, s.flash.lcRec.length, s.aon.time, if st ≤ lcCHECKED then 0 else s.get F.SYS.SEC_VER.operator, true⟩]) ∧
    (s.lc.backoff ≤ 1 → exec .lcBackoffEnd s = .next { s with lc := { s.lc with backoff := 0 } }) ∧
    (1 < s.lc.backoff → exec .lcBackoffEnd s = .next s)) ∧
  (∀ (s : State) (ini : Ini),
    let here := s.reaches ini R.LC.DBG_CTRL
    let probe := here ∧ ini = .probe ∧ s.lc.job = none
    let fail := s.counter cntLC_FAIL
    let base := s.counter cntLC_FAILBASE
    let key := s.regBytes R.LC.DBG_KEY 16
    let good := sha256 key = s.regBytes R.OPT.DBGD 8 ∧ ecdsaVerifyMsg key (s.regBytes R.LC.CHAL 8) (s.regBytes R.LC.DBG_SIG 16) = true
    let tries := probe ∧ s.on F.LC.DBG_CTRL.chal_valid = true ∧ s.lc.backoff = 0 ∧ s.aon.time < s.lc.chalTime + 327680 ∧
      s.pdServes 8 = true ∧ s.pdServes 9 = true ∧ s.cry.run = none ∧ fail.1 < 2 ^ 64 - 1 ∧ fail.2 < 2 ^ 32 - 1 ∧ base.1 ≤ fail.1 ∧ base.2 < 2 ^ 32 - 1
    let ends (i : Instr) (t : State) (code : Nat) : Prop := exec i s = .next t ∧ t.get F.LC.DBG_CTRL.result = code
    (probe → s.lcState ≠ lcFIELDED → ∃ t, ends (.dbgReq ini) t rcSTATE ∧ t.mem = s.mem ∧
      t.get F.LC.DBG_CTRL.chal_valid = s.get F.LC.DBG_CTRL.chal_valid) ∧
    (probe → s.lcState = lcFIELDED → s.pdServes 9 = false → ∃ t, exec (.dbgReq ini) s = .next t ∧ t.lc.job = some .challenge ∧
      t.reg R.LC.DBG_CTRL = s.reg R.LC.DBG_CTRL ∧ t.mem = s.mem) ∧
    (probe → s.lcState = lcFIELDED → s.pdServes 9 = true → s.entState ≠ entFAILED → s.ent.inst = true → s.get F.ENT.REQCNT.since < 1024 →
      ∃ t, ends (.dbgReq ini) t rcOK ∧ t.on F.LC.DBG_CTRL.chal_valid = true ∧ t.lc.chalTime = s.aon.time ∧ t.mem = s.mem ∧
        t.regBytes R.LC.CHAL 8 = (s.ent.generate 16).1 ++ bytesLE 8 Config.uid.toNat ++ bytesLE 4 s.aon.time ++ bytesLE 4 2) ∧
    (tries → good → ∃ t, ends (.dbgGo ini .clean) t rcOK ∧ t.on F.LC.DBG_CTRL.chal_valid = false ∧ t.on F.LC.DBG_CTRL.granted = true ∧
      t.get F.LC.STATE.probe = 2 ∧ t.core0 = s.core0 ∧ t.core1 = s.core1) ∧
    (tries → ¬ good → ∃ t, ends (.dbgGo ini .clean) t rcAUTH ∧ t.on F.LC.DBG_CTRL.chal_valid = false ∧
      t.on F.LC.DBG_CTRL.granted = s.on F.LC.DBG_CTRL.granted ∧ t.get F.LC.STATE.probe = s.get F.LC.STATE.probe ∧
      (t.counter cntLC_FAIL).1 = fail.1 + 1 ∧ t.lc.backoff = 32768 * backoffSecs t.failCount) ∧
    (here → (ini = .probe ∨ s.iniWorld ini = .glass) → s.on F.LC.DBG_CTRL.granted = true →
      ∃ t, exec (.dbgRevoke ini) s = .next t ∧ t.on F.LC.DBG_CTRL.granted = false ∧ t.get F.LC.STATE.probe = probeLevelOf s.lcState ∧
        t.core0 = s.core0.unhalt ∧ t.core1 = s.core1.unhalt ∧ t.mem = s.mem))

/-- Probe frames (R143 to R146): a line reset lets the port listen again; a frame of bad parity silences it; a READ answers its code, value
and CRC-8; a WRITE stores its register only when its CRC-8 holds; RESET with its key is a system reset of cause 0x0C. The probe's memory
accesses (R145, R147): what the port may reach is read or written at ADDR, which moves on with autoinc; an access that stalls or runs past
its frame completes later and its word or failure waits, for a frame that still has the rights. -/
def Obligations.ProbeFramesAndAccesses : Prop :=
  (∀ (s : State) (reg : BitVec 6) (par : Bool) (op : BitVec 2) (v : Word) (crc : Byte) (low : BitVec 16),
    let up := s.prbListens = true
    let l := s.probeLevel
    let reply (code v : Nat) : Resp := ⟨[BitVec.ofNat 8 code] ++ bytesLE 4 v ++ [BitVec.ofNat 8 (crc8 (bytesLE 4 v))], 0⟩
    let counted (t : State) : Prop := t.get F.PRB.CNT.frames = satAdd F.PRB.CNT.frames.max (s.get F.PRB.CNT.frames) 1 ∧ t.prb.attached = true
    let open' : List (BitVec 6 × Nat) :=
      [(0x00, prbPID), (0x01, l + 8 * s.get F.LC.DBG_CTRL.granted), (0x04, b2n s.prb.autoinc), (0x0C, s.prb.err)]
    let closed : List (BitVec 6 × Nat) := [(0x05, b2n s.prb.csel), (0x06, 0), (0x07, s.prbCstat), (0x08, s.prb.rsel), (0x0B, 0)]
    let stores : List (BitVec 6 × Prb) :=
      [(0x05, { s.prb with csel := v.getLsbD 0, attached := true }), (0x08, { s.prb with rsel := v.toNat % 2 ^ 15, attached := true })]
    let good := crc8 (bytesLE 4 v.toNat) = crc.toNat
    (s.pdOn 13 = true → exec .prbLineReset s = .next { s with prb := { s.prb with deaf := false, attached := false } }.settle) ∧
    (up → op ≠ 2 → prbParity op reg par = false → ∃ t, exec (.prbRead op reg par) s = .next t ∧ t.prb = { s.prb with deaf := true } ∧
      t.resp = ⟨[0xFF], 0⟩ ∧ t.mem = s.mem ∧ t.core0 = s.core0 ∧ t.core1 = s.core1) ∧
    (up → prbParity 1 reg par = true → ∀ e, e ∈ open' ∨ (2 ≤ l ∧ e ∈ closed) → e.1 = reg →
      ∃ t, exec (.prbRead 1 reg par) s = .next t ∧ t.resp = reply rcOK e.2 ∧ counted t ∧ t.prb = { s.prb with attached := true } ∧ t.mem = s.mem ∧
        t.core0 = s.core0 ∧ t.core1 = s.core1) ∧
    (up → prbParity 1 reg par = true → l < 2 → ∀ e ∈ closed, e.1 = reg →
      ∃ t, exec (.prbRead 1 reg par) s = .next t ∧ t.resp = reply rcAUTH 0 ∧ t.cloReport = s.cloReport ++ [(31, 0)] ∧
        t.get F.PRB.CNT.refused = satAdd F.PRB.CNT.refused.max (s.get F.PRB.CNT.refused) 1 ∧ t.mem = s.mem) ∧
    (up → prbParity 2 reg par = true → good → 2 ≤ l → ∀ e ∈ stores, e.1 = reg →
      ∃ t, exec (.prbWrite reg par v crc) s = .next t ∧ t.resp = ⟨[0], 0⟩ ∧ counted t ∧ t.prb = e.2 ∧ t.mem = s.mem ∧ t.core0 = s.core0 ∧
        t.core1 = s.core1) ∧
    (up → prbParity 2 2 par = true → good → s.prb.run = none → s.prb.wfail = none →
      ∃ t, exec (.prbWrite 2 par v crc) s = .next t ∧ t.resp = ⟨[0], 0⟩ ∧ counted t ∧ t.prb = { s.prb with addr := v.toNat, attached := true } ∧
        t.mem = s.mem) ∧
    (up → prbParity 2 reg par = true → ¬ good → reg.toNat ≤ 0x0C → reg ≠ 3 → reg ≠ 6 → reg ≠ 9 → reg ≠ 0xB →
      ∃ t, exec (.prbWrite reg par v crc) s = .next t ∧ t.resp = ⟨[BitVec.ofNat 8 rcCRC], 0⟩ ∧ t.prb.addr = s.prb.addr ∧ t.prb.csel = s.prb.csel ∧
        t.prb.rsel = s.prb.rsel ∧ t.prb.autoinc = s.prb.autoinc ∧ t.mem = s.mem ∧ t.core0 = s.core0 ∧ t.core1 = s.core1) ∧
    (up → 2 ≤ l → ∃ t, exec (.prbReset low) s = .next t ∧ t.get F.SYS.RST_CAUSE.cause = 0x0C ∧ t.get F.SYS.RST_CAUSE.scope = 1 ∧
      t.core1 = Core.init)) ∧
  (∀ (s : State) (v : Word) (g : Integ),
    let served := s.prbServed
    let a := s.prb.addr
    let last := s.prb.last
    let u : State := { served with prb := { served.prb with last := a } }
    let free := s.prbListens = true ∧ s.prb.run = none ∧ s.prb.word = none ∧ s.prb.bad = none ∧ s.prb.wfail = none ∧ a % 4 = 0
    (∀ x n, free → s.probeMay false a = true → u.probeLoad a g = (x, .val n) →
      exec (.prbDataRead false g) s = .next (x.prbAdvance.prbReadEnd rcOK n.toNat).settle) ∧
    (∀ x, free → s.probeMay false a = true → u.probeLoad a g = (x, .stall) →
      exec (.prbDataRead false g) s = .next ({ x with prb := { x.prb with run := some none } }.prbReadEnd rcBUSY 0).settle) ∧
    (free → s.probeMay false a = true → ∃ t, exec (.prbDataRead true g) s = .next t ∧ t.prb.run = some none ∧ t.prb.addr = a ∧ t.mem = s.mem ∧
      t.resp.data.head? = some (BitVec.ofNat 8 rcBUSY)) ∧
    (∀ n, s.prbListens = true → s.prb.run = none → s.prb.word = some n → last % 4 = 0 → s.probeMay false last = true →
      exec (.prbDataRead false g) s = .next (({ served with prb := { served.prb with word := none } }).prbReadEnd rcOK n).settle) ∧
    (∀ n, s.prbListens = true → s.prb.word = some n → last % 4 = 0 → s.probeMay false last = false → regionOf last = .sramF →
      ∃ t, exec (.prbDataRead false g) s = .next t ∧ t.prb.word = some n ∧ t.resp.data.head? = some (BitVec.ofNat 8 rcAUTH) ∧ t.mem = s.mem) ∧
    (∀ x, free → s.probeMay true a = true → s.risingAt a = false → u.probeStore a v g = (x, none) →
      exec (.prbDataWrite v false g) s = .next (x.prbAdvance.prbWriteEnd rcOK).settle) ∧
    (free → s.probeMay true a = true → ∃ t, exec (.prbDataWrite v true g) s = .next t ∧ t.prb.run = some (some v) ∧ t.prb.addr = a ∧
      t.mem = s.mem ∧ t.resp = ⟨[0], 0⟩) ∧
    (free → s.probeMay true a = false → regionOf a = .sramF → ∃ t, exec (.prbDataWrite v false g) s = .next t ∧ t.mem = s.mem ∧ t.tags = s.tags ∧
      t.resp = ⟨[BitVec.ofNat 8 rcAUTH], 0⟩) ∧
    (∀ x n, s.prb.run = some none → ({ s with prb := { s.prb with run := none } }).probeLoad a g = (x, .val n) →
      exec (.prbAccessDone g) s = .next { x.prbAdvance with prb := { x.prbAdvance.prb with word := some n.toNat } }.settle) ∧
    (∀ x w, s.prb.run = some (some w) → s.risingAt a = false → ({ s with prb := { s.prb with run := none } }).probeStore a w g = (x, none) →
      exec (.prbAccessDone g) s = .next x.prbAdvance.settle) ∧
    (s.probeLevel < 2 → regionOf a ≠ .pages → s.probeMay false a = false ∧ s.probeMay true a = false))

/-- Debug control of the cores (R148, R149): halt, step, resume and the registers of a halted core, at probe level 2 for the Field and level 3
for the Glasshouse. -/
def Obligations.ProbeCores : Prop :=
  ∀ (s : State) (v : Word) (d : CoreId),
    let c := s.prbCore
    let k := s.core c
    let l := s.probeLevel
    let up := s.prbListens = true ∧ 2 ≤ l
    let ok (i : Instr) (t : State) (k' : Core) : Prop := exec i s = .next t ∧ t.resp = ⟨[0], 0⟩ ∧ t.core c = k' ∧
      t.core (otherCore c) = s.core (otherCore c) ∧ t.mem = s.mem ∧ t.tags = s.tags
    let bank := bitAt s.prb.rsel 14
    let n := s.prb.rsel % 2 ^ 12
    let word := s.prb.rsel / 2 ^ 12 % 4
    let mine := up ∧ k.halted = true ∧ (bank = true → l = 3)
    let b := if bank then k.glass else k.field
    let reply (x : Nat) : Resp := ⟨[0] ++ bytesLE 4 x ++ [BitVec.ofNat 8 (crc8 (bytesLE 4 x))], 0⟩
    (up → k.powered = true → k.halted = false → k.stalled.isSome = true → ∃ t, ok .prbHalt t { k with haltPending := true }) ∧
    (up → k.powered = true → k.halted = false → k.stalled = none → (k.world = .field ∨ l = 3) →
      ∃ t, ok .prbHalt t (t.core c) ∧ (t.core c).halted = true ∧ (t.core c).w = k.w ∧ (t.core c).pc = k.pc) ∧
    (up → k.powered = true → k.halted = false → k.world = .glass → l < 3 → ∃ t, ok .prbHalt t { k with haltPending := true }) ∧
    ((s.core d).haltDue = true → (s.core d).stalled = none → ∃ t, exec (.prbHaltTaken d) s = .next t ∧ (t.core d).halted = true ∧ (t.core d).w = (s.core d).w ∧
      (t.core d).pc = (s.core d).pc ∧ t.core (otherCore d) = s.core (otherCore d) ∧ t.mem = s.mem) ∧
    (up → k.halted = true → ∃ t, ok .prbStep t { k with stepping := true }) ∧
    (up → k.halted = true → ∃ t, ok .prbResume t { k with halted := false, haltPending := false, stepping := false }) ∧
    (∀ r : Fin 32, mine → n = r.val →
      ∃ t, exec .prbRdataRead s = .next t ∧ t.resp = reply (k.rd r).toNat ∧ t.core0 = s.core0 ∧ t.core1 = s.core1 ∧ t.mem = s.mem) ∧
    (∀ i : Fin 8, mine → n = 0x100 + i.val → ∃ t, exec .prbRdataRead s = .next t ∧ t.core0 = s.core0 ∧ t.core1 = s.core1 ∧ t.mem = s.mem ∧
      t.resp = reply (b.c[i].bits.toNat / 2 ^ (32 * word) % 2 ^ 32)) ∧
    (∀ r : Fin 32, mine → n = r.val → ∃ t, ok (.prbRdataWrite v) t (k.wr r v)) ∧
    (mine → n = 0x200 → ∃ t, ok (.prbRdataWrite v) t { k with pc := v }) ∧
    (∀ i : Fin 8, mine → n = 0x100 + i.val → ∃ t, ok (.prbRdataWrite v) t (t.core c) ∧
      let b' := if bank then (t.core c).glass else (t.core c).field
      b'.c[i].tag = false ∧ (t.core c).w = k.w ∧ (∀ j : Fin 8, j ≠ i → b'.c[j] = b.c[j]) ∧
        ∀ m, m < 4 → b'.c[i].bits.toNat / 2 ^ (32 * m) % 2 ^ 32 = if m = word then v.toNat else b.c[i].bits.toNat / 2 ^ (32 * m) % 2 ^ 32) ∧
    (up → k.halted = false → n < 32 → bank = false → ∃ t, exec (.prbRdataWrite v) s = .next t ∧ t.resp = ⟨[BitVec.ofNat 8 rcSTATE], 0⟩ ∧
      t.core0 = s.core0 ∧ t.core1 = s.core1)

/-- The entropy block (R321 to R332): the health tests exclude sources, tests and restarts, seeds, reseeds, requests and who waits for them, and
the software port. -/
def Obligations.EntropyBlock : Prop :=
  ∀ (s : State) (ini : Ini) (v : Word) (k : Fin 4) (recent window : List Bool) (samples : List (List Bool)) (raw : BitVec 6144) (c : CoreId),
    let free := s.reaches ini R.ENT.CTRL ∧ s.unhindered ini pageENT
    let ok := s.get F.ENT.STAT.src_ok
    let since := s.get F.ENT.REQCNT.since
    let left (m : Nat) : Nat := ((numsFrom 4 0).filter fun j => m.testBit j).length
    let fails (j : Nat) : Bool := rctFails (samples.getD j []) || aptFails (samples.getD j [])
    let good := ((numsFrom 4 0).filter fun j => !fails j).length
    let seeded := s.pdOn 10 = true ∧ s.ent.testing = false ∧ 2 ≤ left ok ∧ s.ent.seed = none
    let health : Fld := ⟨R.ENT.HEALTH, 8 * k.val + 7, 8 * k.val⟩
    (s.pdOn 10 = true → s.ent.testing = false → ok.testBit k = true →
      ((rctFails recent || aptFails window) = false → exec (.healthTestFail k recent window) s = .next s) ∧
      ((rctFails recent || aptFails window) = true → ∃ t, exec (.healthTestFail k recent window) s = .next t ∧
        t.get F.ENT.STAT.src_ok = ok - 2 ^ k.val ∧ t.on (eventBit pageENT 0) = true ∧ t.get health = min 255 (s.get health + 1) ∧ t.mem = s.mem ∧
        (left (ok - 2 ^ k.val) < 2 → s.ent.failed = false → t.entState = entFAILED ∧ t.ent.inst = false ∧ t.ent.fifo = []) ∧
        (2 ≤ left (ok - 2 ^ k.val) → t.entState = s.entState ∧ t.ent = s.ent))) ∧
    (free → ∃ t, exec (.entRestart ini v) s = .next t ∧ t.entState = entSTARTUP ∧ t.get F.ENT.STAT.src_ok = 0 ∧ t.mem = s.mem ∧
      t.ent = { Ent.off s.ent.chain s.ent.booted false with stalled := s.ent.stalled, waiting := s.ent.waiting, testing := true }) ∧
    (free → F.ENT.CTRL.restart.get v = 0 → ∃ t, exec (.testNow ini v) s = .next t ∧
      t.entState = (if s.entState = entRUN then entTEST else s.entState) ∧ t.ent = { s.ent with testing := true } ∧ t.mem = s.mem) ∧
    (s.ent.testing = true → ∃ t, exec (.entTestDone samples) s = .next t ∧ t.ent.testing = false ∧ t.on (eventBit pageENT 2) = true ∧
      (∀ j, j < 4 → (t.get F.ENT.STAT.src_ok).testBit j = !fails j) ∧ (s.lc.job = none → ¬ DrbgUser.keyStore ∈ s.ent.waiting → t.mem = s.mem) ∧
      (good < 2 → s.ent.failed = false → t.entState = entFAILED) ∧
      (2 ≤ good → t.entState = if s.entState = entTEST then entRUN else s.entState)) ∧
    (seeded → s.entState = entSTARTUP → exec (.seedReady raw) s =
      .next (((State.put { s with ent := { (s.ent.instantiate (condition raw)) with bg := false, chain := 0, booted := true } }
        F.ENT.STAT.state entRUN).put F.ENT.REQCNT.since 0).serve.settle)) ∧
    (seeded → s.entState = entRUN → exec (.seedReady raw) s = .next (State.serve { s with ent := { s.ent with seed := some (condition raw) } }).settle) ∧
    (∀ n, s.ent.seed = some n → s.ent.inst = true → (s.ent.bg = true ∨ since = 1024) → exec .reseed s =
      .next (((State.put { s with ent := { (s.ent.update n) with seed := none, bg := false, chain := 0 } } F.ENT.REQCNT.since 0).inc
        F.ENT.REQCNT.reseeds).irq pageENT 3).serve.settle) ∧
    (s.lc.job = none → s.ent.waiting = [] → s.ent.fifo = [] → s.entState = entRUN → s.ent.inst = true → since < 1024 →
      s.serve.ent.fifo.length = 16 ∧ s.serve.get F.ENT.REQCNT.since = since + 1) ∧
    (s.lc.job = none → s.ent.waiting ≠ [] → s.drbgWaits = true → s.serve.ent = s.ent) ∧
    ((s.core c).executing = true → s.pdOn 9 = true →
      (s.ent.inst = true → since < 1024 → ∃ t, exec (.jitterDrbgRequest c) s = .next t ∧
        t.ent = (s.ent.generate 64).2 ∧ t.get F.ENT.REQCNT.since = since + 1 ∧ t.mem = s.mem ∧ t.core0 = s.core0 ∧ t.core1 = s.core1) ∧
      (s.drbgWaits = true → exec (.jitterDrbgRequest c) s = .next (s.drbgWait (.jitter c)))) ∧
    (s.readable ini R.ENT.DATA →
      (∀ d ds, s.ent.fifo = d :: ds → ∃ t, exec (.entDataRead ini) s = .next t ∧ t.resp = ⟨bytesLE 4 d.toNat, 0⟩ ∧
        (ds ≠ [] → t.ent.fifo = ds) ∧ t.mem = s.mem) ∧
      (s.ent.fifo = [] → s.entState ≠ entRUN → s.on F.ENT.CTRL.mode = true → ∃ t, exec (.entDataRead ini) s = .next t ∧
        t.resp = ⟨[], busPAGE⟩ ∧ t.get F.ENT.WAIT.no_data = min 65535 (s.get F.ENT.WAIT.no_data + 1)) ∧
      (s.ent.fifo = [] → s.entState ≠ entRUN → s.on F.ENT.CTRL.mode = false → (∀ x ∈ s.ent.stalled, x.ini ≠ ini) →
        ∃ t, exec (.entDataRead ini) s = .next t ∧ t.ent.stalled = s.ent.stalled ++ [⟨ini, s.iniWorld ini, none, 2850⟩])) ∧
    (∀ x xs, s.ent.stalled = x :: xs →
      let u := State.noData { s with ent := { s.ent with stalled := xs } } x.ini x.world
      (1 < x.left → exec .entWaitTimeout s = .next s) ∧
      (x.left ≤ 1 → x.off = none → x.ini ≠ .probe → exec .entWaitTimeout s = .next (u.answer [] busPAGE).settle) ∧
      (x.left ≤ 1 → x.off = none → x.ini = .probe →
        exec .entWaitTimeout s = .next (State.settle { u with prb := { u.prb with run := none, bad := some busPAGE } })) ∧
      (∀ o, x.left ≤ 1 → x.off = some o → x.ini = coreIni c → (s.core c).stalled.isSome = true → exec .entWaitTimeout s =
        .next (((u.modCore c fun k => { k with stalled := none }).raise c (fltBus busPAGE o R.ENT.DATA)).stallOver c).settle))

/-- A service slot that goes to the engine takes the next job (R334, R339, R393): one that fails a check runs to its code and makes nothing, one
that passes runs with what its operation computes; while the DRBG cannot serve, the job waits (R326); the row of another operation leaves the
machine as it is. No judgement of a job, a descriptor, a ring, flash or counter command, a cartridge's status or a management write answers a
code from 0x10 to 0xFF (R38). -/
def Obligations.CipherJobs : Prop :=
  (∀ (s : State) (n op arg : Nat) (w : World) (r : JobRec) (d : Desc) (data : List Byte),
    ∀ c ∈ [s.jobCheck n w r, s.judgeDesc n d, s.hostJudge n d, s.cartJudge d, statusCode arg, s.ringVerdict n op, (s.flcJudge op).1,
      (s.cntJudge op n arg).1, cntRights op n, s.mgpRules n op data, s.mgpJudge n op data (decide (arg = 0))], isResult c = true) ∧
  ∀ (s x y z : State) (n : Nat) (d : Desc) (r : JobRec) (g : Integ) (ps : List Pulse) (aux prev data : List Byte) (o : JobOut),
    let rows : List (Nat × Instr × Integ × List Pulse) :=
      [(opAES, .aes g, g, []), (opTDEA, .tdea g, g, []), (opHASH, .hash g, g, []), (opHMAC, .hmac g, g, []),
        (opECDSA, .ecdsaP256 g ps, g, ps), (opED25519, .ed25519 g, g, []), (opECDH, .ecdhP256 g ps, g, ps),
        (opX25519, .x25519 g ps, g, ps), (opKEYGEN, .keygen, .ok, []), (opDERIVE, .derive g, g, []), (opWRAP, .wrap, .ok, []),
        (opUNWRAP, .unwrap g, g, []), (opLOAD, .load g, g, []), (opZERO_SLOT, .zeroSlot, .ok, []), (opCPN_HOLD, .cpnHold, .ok, []),
        (opCPN_DROP, .cpnDrop, .ok, [])]
    ∀ e ∈ rows, s.offersJob n d r e.2.2.1 x →
      (r.op = e.1 → ∀ u, x.jobServed r u → u.jobCheck n (x.ringWorld n) r ≠ rcOK →
        ∃ t, exec e.2.1 s = .next t ∧ t.mem = u.mem ∧ t.slots = u.slots ∧
          t.cry.run = some ⟨n, d, r.op, r.mode, u.jobCheck n (x.ringWorld n) r, 0, r.outAddr, [], none, none⟩) ∧
      (r.op = e.1 → x.jobInput n r e.2.2.1 y aux prev data → y.jobRun n (x.ringWorld n) r aux prev data e.2.2.2 = some (z, o) →
        ∃ t, exec e.2.1 s = .next t ∧ t.mem = z.mem ∧ t.slots = z.slots ∧ t.cry.last = n ∧
          t.cry.run = some ⟨n, d, r.op, r.mode, o.code, o.detail, r.outAddr, o.out, o.slot, o.ctx.map fun c => (r.ctxAddr, c)⟩) ∧
      (s.drbgWaits = true → exec e.2.1 s = .next (s.drbgWait .cipher)) ∧
      (r.op ≠ e.1 → s.drbgWaits = false → exec e.2.1 s = .next s)

/-- What the operations compute (R336, R343 to R349), of a job that passes the checks: digests and verdicts, the slots made and cleared,
coupons held and dropped. A coupon that a job takes is consumed before the job's result exists, so no job finds it usable again (R347).
The engine at work (R340, R345, R349, R350): a job's end, a boundary of a public-key job, coupon refill, the pool scan and zeroisation. -/
def Obligations.CipherResultsAndEngine : Prop :=
  (∀ (y z : State) (n : Nat) (w : World) (r : JobRec) (aux data : List Byte) (ps : List Pulse) (o : JobOut),
    y.jobRun n w r aux [] data ps = some (z, o) →
    let key := (y.slot r.slot).key
    let whole := r.first = true ∧ r.last = true ∧ r.inv = false
    let makes (usage : Nat) (k : List Byte) : Option (Nat × Slot) :=
      some (r.dst, ⟨attrWord r.dstType (decide (w = .field) || r.attr.testBit 4) usage (r.attr.testBit 13) k.length, k⟩)
    (r.op = opHASH → whole → o = ⟨rcOK, 0, ((if r.mode = 0 then sha256Kind else sha512Kind).hash data).take (if r.mode = 0 then 32 else 64), none, none⟩) ∧
    (r.op = opHMAC → whole →
      o = ⟨rcOK, 0, ((if r.mode = 0 then sha256Kind else sha512Kind).hmac key data).take (if r.mode = 0 then 32 else 64), none, none⟩) ∧
    (r.op = opAES → r.mode = 5 → whole → o = ⟨rcOK, 0, (aesCmac key data).take (if r.par 0 = 0 then 16 else r.par 0), none, none⟩) ∧
    (r.op = opAES → r.mode = 0 → r.first = true → r.last = true →
      o = ⟨rcOK, 0, ecbMode (if r.inv then aesDec key else aesEnc key) 16 data, none, none⟩) ∧
    (r.op = opED25519 → r.inv = false → o = ⟨rcOK, 0, edSign key data, none, none⟩) ∧
    (r.op = opECDSA → r.inv = true → z = y ∧ o.out = [] ∧
      (o.code = rcOK ↔ ecdsaVerify (pointBE aux) (natBE (data.take 32)) (natBE ((data.drop 32).take 32)) (natBE (data.drop 64)) = true)) ∧
    (r.op = opDERIVE → o.code = rcOK → z = y ∧ o.out = [] ∧
      o.slot = makes (r.usage &&& (y.slot r.slot).usage) (kdfCounter key (aux ++ [0] ++ data) r.dstLen)) ∧
    (r.op = opLOAD → o.code = rcOK → z = y ∧ o.out = [] ∧ o.slot = makes r.usage data) ∧
    (r.op = opKEYGEN → o.code = rcOK ∧ ∃ k, o.slot = makes r.usage k ∧ o.out = publicKey r.dstType k) ∧
    (r.op = opZERO_SLOT → z = y ∧ o = ⟨rcOK, 0, [], some (r.slot, .empty), none⟩) ∧
    (r.op = opCPN_DROP → z.heldOf w = none ∧ o = ⟨rcOK, 0, [], none, none⟩ ∧ z.mem = y.mem) ∧
    (r.op = opCPN_HOLD → o.code = rcOK → y.heldOf w = none → ∃ h, z.heldOf w = some h ∧ h.idx ∈ y.cpnChoices (y.jobKind r)) ∧
    (∀ (x : State) (h : Held), y.jobCoupon n w r ps = (x, rcOK, some h) → x.cpnUsable h.idx = false ∧
      x.get F.CRY.CPN_CNT.consumed = min 65535 (y.get F.CRY.CPN_CNT.consumed + 1))) ∧
  (∀ (s : State) (ini : Ini) (j : Job) (cycles : Word) (g : Integ),
    let higher := ∃ n, 32 ≤ n ∧ n < 48 ∧ s.jobReady n = true ∧ s.ringClass n < s.ringClass j.ring
    let pk := s.cry.run = some j ∧ j.publicKey = true
    let stepped := s.drbgTake.drbgServed .cipher
    let scanned := (s.scanBad 256).2
    (s.cry.run = some j → s.cry.suspended = [] → ∃ t, exec (.cipherJobDone cycles g) s = .next t ∧ t.cry.run = none ∧
      t.get F.CRY.JOBCNT.jobs = min 65535 (s.get F.CRY.JOBCNT.jobs + 1) ∧ (j.status ≠ rcOK → t.slots = s.slots) ∧
      (j.status = rcOK → j.out = [] → j.ctx = none → t.slots = match j.slot with | some (k, v) => tabSet .empty k v s.slots | none => s.slots)) ∧
    (pk → s.drbgWaits = true → exec .pkStepBoundary s = .next (s.drbgWait .cipher).serve.settle) ∧
    (pk → s.drbgWaits = false → ¬ higher → exec .pkStepBoundary s = .next stepped.serve.settle) ∧
    (∀ x b y h, pk → s.drbgWaits = false → higher → s.cry.suspended.length < 3 →
      stepped.dmaWrite .cipher (s.ringWorld j.ring) j.desc.back (j.desc.w0 + 4)
        (bytesLE 1 rcDEFERRED ++ bytesLE 1 (j.detail ||| 4)) = (x, b) →
      (State.descFault { x with cry := { x.cry with run := none } } j.ring true j.desc.addr j.desc.back) = (y, h) →
      (h ≠ 0 → exec .pkStepBoundary s = .next (y.ringHalt j.ring h j.desc.addr).serve.settle) ∧
      (h = 0 → (∀ k ∈ s.cry.suspended, s.ringClass j.ring ≤ s.ringClass k.ring) → ∃ t, exec .pkStepBoundary s = .next t ∧ t.cry.run = none ∧
        t.cry.suspended = s.cry.suspended ++ [{ j with detail := j.detail ||| 4 }] ∧ (t.waitOf j.ring (s.cidx j.ring)).deferred = true ∧
        t.get F.CRY.JOBCNT.deferrals = min 65535 (s.get F.CRY.JOBCNT.deferrals + 1))) ∧
    (∀ k i, s.cry.run = none → s.cry.refill = none → s.pdOn 8 = true → s.cry.suspended = [] → s.nextJobRing = none → s.ent.scanning = false →
      s.lcDue = false → s.drbgWaits = false → s.refillKind = some k → s.refillRecord = some i →
      ∃ t, exec .couponRefill s = .next t ∧ t.cry = { s.cry with refill := some (k, i) } ∧
        t.mem = s.mem ∧ s.cpnUsable i = false ∧ ∀ m, m < i → s.cpnUsable m = true) ∧
    (∀ k i, s.cry.refill = some (k, i) → s.cry.run = none → s.pdOn 8 = true → s.pdOn 9 = true → s.slotValid 1 = true → s.zgen < 2 ^ 32 → k < 256 →
      ∃ t, exec (.couponFilled (List.replicate 5 .clean)) s = .next t ∧ t.cry.refill = none ∧ t.cpnUsable i = true ∧ t.cpnKind i = k) ∧
    (s.ent.scanning = true → exec .couponPoolScan s =
      .next { scanned with ent := { scanned.ent with scanning := false }, cry := { scanned.cry with unread := (s.scanBad 256).1 } }) ∧
    (s.ent.scanning = false → exec .couponPoolScan s = .next s) ∧
    (s.reaches ini R.KEY.CTRL → s.unhindered ini pageKEY → ∃ t, exec (.zeroise ini) s = .next t ∧ t.slots = [] ∧ t.cry.held = [] ∧
      t.cry.refill = none ∧ t.cry.run = s.cry.run.map Job.abort ∧ t.on F.KEY.STAT.zeroised = true ∧ ∀ i, i < 256 → t.cpnUsable i = false))

/-- Detections of one CK26 cycle (R352 to R365): the alarm of every source that finds what it measures outside its limits and fires on a working
twin is latched, and of no other; a chip reset response is a system reset of cause 0x0A, which waits for the log entries of its handling and
at most t_CLORSP (R364), severe reaches the cores it aims at, zeroise clears every key slot; bursts come once a second (R357). Built-in tests
and response writes (R366 to R372): a test of a twin starts only while the other twin works and the source's clock runs; its end clears or
marks the twin and the source; a write of RESPn keeps what a floor demands. -/
def Obligations.ClocheDetectionsAndTests : Prop :=
  (∀ (s : State) (ds : List Det) (reading : BitVec 16),
    let q := reading.toInt + 256
    let out := 4 * (s.get F.CLO.TEMP.t_hi : Int) < q ∨ q < 4 * (s.get F.CLO.TEMP.t_lo : Int)
    let fired (n : Nat) : Prop := (s.aon.pstate ≤ 1 ∨ n < 16 ∨ 22 < n) ∧ s.cloWatches n = true ∧
      ∃ d ∈ ds, d.src.val = n ∧ s.cloSees d = true ∧ ((d.a && s.twinA n) || (d.b && s.twinB n)) = true
    let answers (b : Nat) : Prop := ∃ n, n < 32 ∧ fired n ∧ (s.cloResponse n).testBit b = true
    (s.cloReport = [] → ∃ t, exec (.clocheDetect ds) s = .next t ∧ t.cloReport = [] ∧
      (∀ n, n < 32 → ((t.get F.CLO.ALARM.alarm).testBit n = true ↔ (s.get F.CLO.ALARM.alarm).testBit n = true ∨ fired n)) ∧
      (answers rspZERO → t.slots = []) ∧
      (answers rspCHIP → ¬ answers rspRETIRE → ¬ answers rspLOG → s.cloWait = none →
        t.get F.SYS.RST_CAUSE.cause = 0x0A ∧ t.get F.SYS.RST_CAUSE.scope = 1) ∧
      (answers rspCHIP → answers rspLOG → s.cloWait = none → s.logQueue.length < 8 → t.reg R.SYS.RST_CAUSE = s.reg R.SYS.RST_CAUSE ∧
        ∃ w, t.cloWait = some w ∧ w.chip = true ∧ w.ticks = 60 ∧ w.entries = t.logQueue.length) ∧
      (answers rspRETIRE → ¬ answers rspCHIP → ¬ answers rspCORE → s.cloWait = none → s.lcState ≠ lcRETIRED →
        t.lc.xfer = some (lcRETIRED, lcCLOCHE)) ∧
      (¬ answers rspCHIP → ¬ answers rspCORE → ∀ c, (s.core c).powered = true →
        (∃ d ∈ ds, fired d.src.val ∧ (s.cloResponse d.src.val).testBit rspSEVERE = true ∧ d.src.val ≠ 23 ∧ aimsAt d c = true) →
        ((t.core c).severePending).isSome = true) ∧
      ((∀ n, n < 32 → ¬ fired n) → t.mem = s.mem ∧ t.slots = s.slots ∧ t.lc = s.lc ∧ t.logQueue = s.logQueue)) ∧
    (∀ w, s.cloWait = some w → w.chip = true → w.retire = false → w.entries ≤ 1 ∨ w.ticks ≤ 1 →
      (w.entries ≤ 1 → s.cloLogged.get F.SYS.RST_CAUSE.cause = 0x0A) ∧ (w.ticks ≤ 1 → s.cloTick.get F.SYS.RST_CAUSE.cause = 0x0A)) ∧
    (s.burstDue = false → exec (.clocheBurst reading ds) s = .next s) ∧
    ((s.aon.pstate = 2 ∨ s.aon.pstate = 3) → s.burstDue = true → ∃ t, exec (.clocheBurst reading ds) s = .next t ∧
      t.get F.CLO.TEMP.reading = reading.toNat ∧ t.cloSecond = s.aon.time / 32768 + 1 ∧ (out → (s.twinA 19 || s.twinB 19) = true → (t.get F.CLO.ALARM.alarm).testBit 19 = true)) ∧
    (s.aon.pstate ≤ 1 → ∃ t, exec (.clocheTempSample reading) s = .next t ∧ t.get F.CLO.TEMP.reading = reading.toNat ∧
      (out → t.cloReport = s.cloReport ++ [(19, 0)]) ∧ (¬ out → t.cloReport = s.cloReport) ∧
      s.changesOnly { t with cloReport := s.cloReport } [R.CLO.TEMP]) ∧
    (s.pdOn 9 = true → s.drbgWaits = true → exec .clocheGeneratorReseed s = .next (s.drbgWait .cloche)) ∧
    (s.pdOn 9 = true → s.ent.inst = true → s.get F.ENT.REQCNT.since < 1024 → ∃ t, exec .clocheGeneratorReseed s = .next t ∧
      t.cloGen = natLE (s.ent.generate 4).1 ∧ t.ent = (s.ent.generate 4).2 ∧ t.mem = s.mem ∧
      t.get F.ENT.REQCNT.since = s.get F.ENT.REQCNT.since + 1)) ∧
  (∀ (s : State) (ini : Ini) (v : Word) (n : Fin 32) (twinB detected : Bool),
    let free (a : Nat) : Prop := s.reaches ini a ∧ s.unhindered ini pageCLO
    let able (k : Nat) : Bool := !(cloClock k && !s.cloClockRuns k)
    let own := if twinB then F.CLO.BIST_B.run else F.CLO.BIST_A.run
    let mark := if twinB then F.CLO.TWFAIL_B.fail else F.CLO.TWFAIL_A.fail
    let other := if twinB then F.CLO.TWFAIL_A.fail else F.CLO.TWFAIL_B.fail
    let bit (t : State) (f : Fld) : Bool := (t.get f).testBit n.val
    let starts (t : State) (f : Fld) (can : Nat → Bool) : Prop :=
      ∀ k, k < 32 → (t.get f).testBit k = ((s.get f).testBit k || (v.getLsbD k && can k && able k))
    let rsp := F.CLO.RESP.resp.idx 4 n
    let sens := F.CLO.RESP.sens.idx 4 n
    let en := F.CLO.RESP.en.idx 4 n
    let floors := s.on F.LC.STATE.floors
    let f := s.floorWord n
    let wantR := if (n.val = 26 ∨ n.val = 27) ∧ v.getLsbD 6 = false then v.toNat % 512 ||| 32 else v.toNat % 512
    let wantE := v.toNat / 2 ^ 16 % 2
    let wantQ := if cloClock n ∧ v.toNat / 2 ^ 12 % 16 ≤ 8 then v.toNat / 2 ^ 12 % 16 else s.get sens
    let badR := floors && decide ((f % 512) &&& (511 ^^^ wantR) ≠ 0)
    let badE := floors && f.testBit 9 && decide (wantE = 0)
    let badQ := floors && sensWeak n wantQ f
    (free R.CLO.BIST_A → ∃ t, exec (.bistA ini v) s = .next t ∧ starts t F.CLO.BIST_A.run s.twinB ∧ t.mem = s.mem ∧ t.core0 = s.core0 ∧ t.core1 = s.core1) ∧
    (free R.CLO.BIST_B → ∃ t, exec (.bistB ini v) s = .next t ∧ starts t F.CLO.BIST_B.run s.twinA ∧ t.mem = s.mem ∧ t.core0 = s.core0 ∧ t.core1 = s.core1) ∧
    (bit s own = true → ∃ t, exec (.bistDone n twinB detected) s = .next t ∧ bit t own = false ∧ bit t mark = !detected ∧ bit t other = bit s other ∧
      (detected = true → bit t F.CLO.DEAD.dead = false) ∧ (detected = false → bit s other = true → bit t F.CLO.DEAD.dead = true)) ∧
    (free (R.CLO.RESP + 4 * n) → ∃ t, exec (.cloRespWrite ini n v) s = .next t ∧ t.get rsp = (if badR then s.get rsp else wantR) ∧
      t.get en = (if badE then s.get en else wantE) ∧ t.get sens = (if badQ then s.get sens else wantQ) ∧
      t.get F.CLO.REFUSE.floor = (if badR || badE || badQ then min 255 (s.get F.CLO.REFUSE.floor + 1) else s.get F.CLO.REFUSE.floor) ∧
      t.mem = s.mem ∧ t.core0 = s.core0 ∧ t.core1 = s.core1))

/-- The ring commands and index writes (R376, R377, R386 to R392): each command's result in each state of the ring, the checks of ENABLE, what
DISABLE clears, the pidx that a ring takes, configuration registers that only a DISABLED ring takes, and the completion groups (R397,
R398). Frames that clients still hold for a ring go with DISABLE (the model's choice; log 65). -/
def Obligations.RingCommands : Prop :=
  ∀ (s : State) (ini : Ini) (n : Fin 96) (v : Word),
    let f (x : Fld) : Fld := x.ring n
    let w := s.iniWorld ini
    let open_ : Prop := s.unhindered ini pageRING ∨ s.on (f F.RING.CFG.world) = false
    let ctl := s.reaches ini (R.RING.CTL + 32 * n) ∧ open_
    let idx := s.reaches ini (R.RING.IDX + 32 * n) ∧ open_
    let st := s.ringState n
    let ends (i : Instr) (t : State) : Prop := exec i s = t.done
    let tells (t : State) (code : Nat) : State := t.put (f F.RING.CTL.result) code
    let refused (i : Instr) : Prop := ends i (tells (s.inc (f F.RING.REFUSE.state)) rcSTATE)
    let stride := s.ringSlen n >>> s.get (f F.RING.CFG.lsize)
    let ok : Prop := s.ringClient n ≠ clNONE ∧ s.ringSbase n + s.ringSlen n ≤ 2 ^ 32 ∧
      (s.ringFixed n = true → clientRx (s.ringClient n) = true ∧ 64 ≤ stride ∧ stride % 16 = 0)
    let p := v.toNat % 65536
    let span := if s.ringFixed n then (s.cidx n + 65536 - p) % 65536 else (p + 65536 - s.cidx n) % 65536
    (ctl →
      (st = ringDISABLED → ok → ends (.enable ini n) (tells (s.put (f F.RING.CTL.state) ringRUN) rcOK)) ∧
      (st = ringDISABLED → ¬ ok → ends (.enable ini n) (tells s rcRANGE)) ∧
      (st = ringRUN ∨ st = ringPAUSED ∨ st = ringHALTED → refused (.enable ini n)) ∧
      (st = ringRUN → ends (.pause ini n) (tells (s.put (f F.RING.CTL.state) ringPAUSING) rcOK)) ∧
      (st = ringDISABLED ∨ st = ringPAUSED ∨ st = ringHALTED → refused (.pause ini n)) ∧
      (st = ringPAUSED → ends (.resume ini n) (tells (s.put (f F.RING.CTL.state) ringRUN) rcOK)) ∧
      (st = ringDISABLED ∨ st = ringRUN ∨ st = ringHALTED → refused (.resume ini n)) ∧
      (st = ringDISABLED → ends (.disable ini n) (tells s rcOK)) ∧
      (st = ringRUN → refused (.disable ini n)) ∧
      (st = ringPAUSED ∨ st = ringHALTED → ∃ t, exec (.disable ini n) s = .next t ∧ t.ringState n = ringDISABLED ∧ t.pidx n = 0 ∧
        t.cidx n = 0 ∧ t.get (f F.RING.CTL.halt_cause) = 0 ∧ t.get (f F.RING.CTL.result) = rcOK ∧
        t.trl.rx = s.trl.rx.filter (fun x => decide (x.ring ≠ n.val)) ∧ t.trl.cur = s.trl.cur ∧
        t.trl.waits = s.trl.waits.filter (fun x => decide (x.ring ≠ n.val)) ∧ t.trl.shown = s.trl.shown.filter (fun e => decide (e.1 ≠ n.val)) ∧
        s.changesOnly { t with trl := s.trl } [R.RING.CTL + 32 * n, R.RING.IDX + 32 * n]) ∧
      (st = ringPAUSING → ∀ i ∈ [Instr.enable ini n, .pause ini n, .resume ini n, .disable ini n], ends i (tells s rcBUSY)) ∧
      ends (.clrcnt ini n) (tells ((s.setReg (R.RING.DEFER + 32 * n) 0).setReg (R.RING.REFUSE + 32 * n) 0) rcOK)) ∧
    (st = ringPAUSING → (∀ e, s.trl.cur = some e → e.1 ≠ n.val) → (∀ j, s.cry.run = some j → j.ring ≠ n.val) →
      (∀ j ∈ s.cry.suspended, j.ring ≠ n.val) → (∀ j, s.gcb.job = some j → j.ring ≠ n.val) →
      exec (.ringPaused n) s = .next (s.put (f F.RING.CTL.state) ringPAUSED)) ∧
    (idx →
      (st ≠ ringHALTED → span ≤ s.ringEntries n → ends (.idxWrite ini n v) (s.put (f F.RING.IDX.pidx) p)) ∧
      (st ≠ ringHALTED → s.ringEntries n < span → ends (.idxWrite ini n v)
        (((tells s rcBOUNDS).fault pageRING 0x12 (iniCode ini) w true (R.RING.IDX + 32 * n)).inc (f F.RING.REFUSE.bounds))) ∧
      (st = ringHALTED → ends (.idxWrite ini n v) ((tells s rcSTATE).inc (f F.RING.REFUSE.state)))) ∧
    (s.reaches ini (R.RING.IDX + 32 * n) → w = .field → s.on (f F.RING.CFG.world) = true → p ≠ s.pidx n → ends (.idxWrite ini n v)
      ((s.fault pageRING causeWORLD (iniCode ini) .field true (R.RING.IDX + 32 * n)).inc (F.HDR.OWNER.world_refused.onPage pageRING))) ∧
    (∀ which : Fin 4,
      let a := R.RING.CFG + 32 * n + 4 * which
      s.reaches ini a → s.unhindered ini pageRING →
      (st ≠ ringDISABLED → ends (.ringCfgWrite ini n which v)
        ((s.fault pageRING 0x10 (iniCode ini) w true a).inc (f F.RING.REFUSE.state))) ∧
      (st = ringDISABLED → which ≠ 0 → ends (.ringCfgWrite ini n which v) (s.setReg a v)) ∧
      (st = ringDISABLED → which = 0 →
        let got (x : Fld) : Nat := (f x).get v
        let goodL : Prop := 3 ≤ got F.RING.CFG.lsize ∧ got F.RING.CFG.lsize ≤ 12
        let cipher : Prop := 32 ≤ n.val ∧ n.val < 48
        let goodC : Prop := cipher ∨ (got F.RING.CFG.client ≠ 8 ∧ got F.RING.CFG.client < 11)
        let goodI : Prop := got F.RING.CFG.irq ≠ 3
        ∃ t, exec (.ringCfgWrite ini n which v) s = .next t ∧
          (∀ x ∈ [F.RING.CFG.class, F.RING.CFG.world, F.RING.CFG.group, F.RING.CFG.fixed], t.get (f x) = got x) ∧
          (goodL → t.get (f F.RING.CFG.lsize) = got F.RING.CFG.lsize) ∧
          (¬ goodL → t.get (f F.RING.CFG.lsize) = s.get (f F.RING.CFG.lsize)) ∧
          (goodC → ¬ cipher → t.get (f F.RING.CFG.client) = got F.RING.CFG.client) ∧
          (¬ goodC ∨ cipher → t.get (f F.RING.CFG.client) = s.get (f F.RING.CFG.client)) ∧
          (goodI → t.get (f F.RING.CFG.irq) = got F.RING.CFG.irq) ∧ (¬ goodI → t.get (f F.RING.CFG.irq) = s.get (f F.RING.CFG.irq)) ∧
          t.get (f F.RING.CFG.keep) = (if 24 ≤ n.val ∧ n.val < 28 then got F.RING.CFG.keep else s.get (f F.RING.CFG.keep)) ∧
          (goodL ∧ goodC ∧ goodI → s.changesOnly t [a]) ∧
          (¬ (goodL ∧ goodC ∧ goodI) → s.on (F.HDR.FAULT.valid.onPage pageRING) = false →
            t.get (F.HDR.FAULT.cause.onPage pageRING) = 0x11))) ∧
    (∀ g : Fin 32,
      (s.pdOn 11 = true → s.get (F.RING.GCFG.holdoff_us.idx 8 g) ≠ 0 → s.get (F.RING.GSTAT.pending.idx 8 g) ≠ 0 →
        (s.get (F.RING.GCFG.holdoff_us.idx 8 g) ≤ s.holdTicks g + 1 →
          exec (.groupHoldoffExpire g) s = .next (s.put (F.RING.GSTAT.active.idx 8 g) 1).settle) ∧
        (s.holdTicks g + 1 < s.get (F.RING.GCFG.holdoff_us.idx 8 g) → exec (.groupHoldoffExpire g) s = .next s)) ∧
      (s.reaches ini (R.RING.GSTAT + 8 * g) → s.unhindered ini pageRING ∨ s.on (F.RING.GCFG.world.idx 8 g) = false →
        ends (.gstatAck ini g) { (s.setReg (R.RING.GSTAT + 8 * g) 0) with
          trl := { s.trl with holds := s.trl.holds.filter fun e => decide (e.1 ≠ g.val) } }))

/-- The choice of a service slot (R393): a ring that may be served such that none has a higher effective class, and of equal ones the first in
ascending order after the ring served last. Ageing raises a network or bulk ring whose head has waited longer than SCHED.age_us to class
Glasshouse (1), nothing to gantry (0), and is off with age_us 0. A paused or pausing ring starts nothing but what a mailbox still offers
(R391, R512). -/
def Obligations.ServiceChoice : Prop :=
  ∀ (s : State) (aged : List (Fin 96)) (n : Nat), s.nextRing aged = some n →
    let turn (k : Nat) : Nat := (k + 191 - s.trl.last) % 96
    let age := s.get F.TRL.SCHED.age_us
    s.mayServe n = true ∧ s.eligible n = true ∧ (s.trl.last < 96 → n < 96) ∧
    (s.ringClient n = clCIPHER → s.nextJobRing = some n) ∧ (s.ringClient n ≠ clHOST → s.ringState n = ringRUN) ∧
    (∀ k, k < 96 → s.mayServe k = true → s.effClass aged n ≤ s.effClass aged k) ∧
    (∀ k, k < 96 → s.trl.last < 96 → s.mayServe k = true → s.effClass aged k = s.effClass aged n → turn n ≤ turn k) ∧
    (∀ k, s.effClass aged k = 0 ↔ s.ringClass k = 0) ∧
    (∀ k, s.effClass aged k ≤ s.ringClass k) ∧
    (∀ k, 2 ≤ s.ringClass k → age ≠ 0 → age < (s.waitOf k (s.cidx k)).ticks → s.effClass aged k = 1) ∧
    (∀ k, age = 0 ∨ (s.waitOf k (s.cidx k)).ticks < age → s.effClass aged k = s.ringClass k)

/-- What a write-back leaves (R379, R386, R396): words 1 to 3 of the descriptor, and word 0 in a fixed ring alone; cidx one on; no other byte
of memory. A descriptor in a device region halts its ring with DESC_REGION, one outside SRAM with DESC_BUS, and cidx stays. A descriptor
service and its end (R381 to R385, R391, R393, R394): the slot's ring is served after the eligible descriptors that lose are deferred. A
receive descriptor that R381 refuses completes at once; else it takes its client's oldest frame. A transmit frame goes to its client whole, or every
descriptor of it completes with RANGE or ABORTED and nothing is sent. -/
def Obligations.DescriptorService : Prop :=
  (∀ (s : State) (n : Nat) (d : Desc) (code ret flags w3 cbyte i : Nat) (g : Integ),
    let first := if s.ringFixed n then d.addr else d.addr + 4
    let t := s.completeDesc n d code ret flags w3 cbyte
    let u := (s.fetchDesc n i g).1
    let halted (x : State) (cause : Nat) : Prop := x.ringState n = ringHALTED ∧ x.get (F.RING.CTL.halt_cause.ring n) = cause ∧
      x.cidx n = s.cidx n ∧ x.on (eventBit pageTRL 0) = true ∧ x.mem = s.mem ∧ x.on (F.RING.GSTAT.halt.idx 8 (s.get (F.RING.CFG.group.ring n))) = true
    n < 96 →
    ((s.descFault n true d.addr d.back).2 = 0 → d.addr % 16 = 0 → code < 256 → flags < 4 → cbyte < 256 →
      t.cidx n = (s.cidx n + 1) % 65536 ∧ t.pidx n = s.pidx n ∧
      t.loadN (d.addr + 4) 4 = d.len + 2 ^ 16 * (ret % 65536) ∧ t.loadN (d.addr + 8) 4 % 1024 = code + 2 ^ 8 * flags ∧
      t.loadN (d.addr + 12) 4 = w3 % 2 ^ 32 ∧ (s.ringFixed n = true → t.loadN d.addr 4 = d.w0 % 2 ^ 32) ∧
      ∀ a, a < first ∨ d.addr + 16 ≤ a → t.byte a = s.byte a) ∧
    (isDevice d.addr = true → halted t 1) ∧
    (isDevice d.addr = false → hasTags d.addr = false → halted t 2) ∧
    (isDevice d.addr = false → (s.descFault n true d.addr d.back).2 ≠ 0 → halted t 2) ∧
    (s.ringFixed n = false → isDevice (s.descAddr n i) = true → (s.fetchDesc n i g).2 = none ∧ halted u 1) ∧
    (s.ringFixed n = false → isDevice (s.descAddr n i) = false → (s.descFault n false (s.descAddr n i) g).2 ≠ 0 →
      (s.fetchDesc n i g).2 = none ∧ halted u 2) ∧
    (s.ringFixed n = true → s.fetchDesc n i g =
      (s, some ⟨s.descAddr n i, (s.ringSbase n + s.ringStride n * (i % s.ringEntries n)) % 2 ^ 32, min (s.ringStride n) 65535, 0, 0, 0, g⟩))) ∧
  (∀ (s : State) (aged : List (Fin 96)) (g : Integ) (ps : List Pulse) (n : Nat),
    let x := s.slotTo aged n
    let c := s.ringClient n
    let serves (t : State) : Prop := exec (.descriptorService aged g ps) s = .next t.settle
    let ends (t : State) : Prop := exec (.descriptorComplete g) s = .next (t.ringPaused n).settle
    let idle : State := { s with trl := { s.trl with cur := none } }
    (x.trl.last = n ∧ ∀ k i, k < 96 → s.eligible k = true → s.effClass aged n < s.effClass aged k → i ∈ s.openEntries k →
      (x.waitOf k i).deferred = true) ∧
    (s.pdOn 11 = true → s.trl.cur = none → s.nextRing aged = some n →
      (∀ y, x.fetchDesc n (x.cidx n) g = (y, none) → clientRx c = true ∨ c = clCART ∨ c = clHOST → serves y) ∧
      (∀ y d, x.fetchDesc n (x.cidx n) g = (y, some d) →
        let e : Desc := { d with code := y.judgeDesc n d }
        (clientRx c = true → e.code = rcOK → serves { y with trl := { y.trl with cur := some (n, [e]) } }) ∧
        (clientRx c = true → e.code ≠ rcOK → serves (y.completeDesc n e e.code 0 0 d.w3 d.cbyte)) ∧
        (c = clCART → serves (y.cartOffer n e e.code)) ∧
        (c = clHOST → serves (y.hostShow n e))) ∧
      (∀ y d ds, clientTx c = true → x.fetchDescs n g (x.txSpan n) (x.cidx n) = (y, some (d :: ds)) →
        serves { y with trl := { y.trl with cur := some (n, d :: ds) } }) ∧
      (∀ y, c = clCIPHER → x.takeJob n none g ps = some y → serves y)) ∧
    (∀ d fr u k, s.trl.cur = some (n, [d]) → clientTx c = false → s.trl.rx.find? (fun e => decide (e.ring = n)) = some fr →
      State.dmaWriteLen .port (s.ringWorld n) g ((fr.bytes.take d.len).length + 1) idle d.w0 (fr.bytes.take d.len) = (u, k) →
      let flags := b2n (decide (d.len < fr.bytes.length)) + 2 * b2n fr.err
      let y : State := { u with trl := { u.trl with rx := u.trl.rx.erase fr } }
      (k = (fr.bytes.take d.len).length → ends (y.completeDesc n { d with back := g } rcOK fr.bytes.length flags fr.word3 fr.cbyte)) ∧
      (k ≠ (fr.bytes.take d.len).length → ends (y.completeDesc n { d with back := g } rcABORTED k flags fr.word3 fr.cbyte))) ∧
    (∀ d ds, s.trl.cur = some (n, d :: ds) → clientTx c = true → s.txStalls n (d :: ds) = true →
      exec (.descriptorComplete g) s = .next s.settle) ∧
    (∀ d ds, s.trl.cur = some (n, d :: ds) → clientTx c = true → s.txStalls n (d :: ds) = false →
      let all := (d :: ds).map fun e => { e with back := g }
      let len := (all.map Desc.len).foldl (· + ·) 0
      let takes : Prop := if c = clRADIO_TX then 0 < len ∧ len ≤ 1024 else 14 ≤ len ∧ len ≤ 1518
      (d.sop = false ∨ 16 < all.length → ends (idle.completeAll n (all.map fun e => (e, rcRANGE, 0)))) ∧
      (d.sop = true → all.length ≤ 16 → (∃ e ∈ all, e.code ≠ rcOK) →
        ends (idle.completeAll n (all.map fun e => (e, if e.code = rcOK then rcABORTED else e.code, 0)))) ∧
      (d.sop = true → all.length ≤ 16 → (∀ e ∈ all, e.code = rcOK) → ¬ takes →
        ends (idle.completeAll n (all.map fun e => (e, rcRANGE, 0)))) ∧
      (∀ u b rets, d.sop = true → all.length ≤ 16 → (∀ e ∈ all, e.code = rcOK) → takes → idle.txGather n g all = (u, b, rets, true) →
        rets = all.map Desc.len ∧ b.length = len ∧
        ends ((u.txHand c { d with back := g } b).completeAll n (all.map fun e => (e, rcOK, e.len)))) ∧
      (∀ u b rets, d.sop = true → all.length ≤ 16 → (∀ e ∈ all, e.code = rcOK) → takes → idle.txGather n g all = (u, b, rets, false) →
        ends (u.completeAll n ((all.zip rets).map fun e => (e.1, rcABORTED, e.2))))))

/-- A frame's classification (R402, R404 to R406, R414): the radio port first, then ETH0, then ETH1, each in order; a frame that fails to
parse, or meets bypass, takes its port's default action, any other the action of its lowest-numbered matching rule, and the default where
none matches. The actions on a classified frame (R407 to R413): DROP leaves everything, PUNT delivers to the ring that the word names, by
the frame's hash or not, with the descriptor words of R413, FORWARD fills the egress port's buffer, COPY does both, and mirror delivers
one copy more. A frame and its reply have one hash. -/
def Obligations.FrameClassificationAndActions : Prop :=
  (∀ (s : State), s.Inv → s.pdOn 11 = true →
    (s.rin = [] → exec .frameClassify s = .next s.settle) ∧
    (s.rin ≠ [] → (∀ f ∈ s.rin, f.port < 3) → ∃ f before after, s.rin = before ++ f :: after ∧ (∀ x ∈ before, x.port ≠ f.port) ∧
      (f.port ≠ 2 → ∀ x ∈ s.rin, x.port ≠ 2) ∧ (f.port = 1 → ∀ x ∈ s.rin, x.port ≠ 0) ∧
      let p := f.parse
      let q := ({ s with rin := before ++ after }).inc (F.RDL.FRAMES.frames.port f.port)
      let dflt := s.get (F.RDL.DFLT.action.idx 4 f.port)
      let key := s.rdlKey f p
      let takes (t : State) (act rule : Nat) : Prop := exec .frameClassify s = .next (t.applyAction f p act rule).settle
      let hits (n : Nat) : Prop := actEn (s.rule n).act = true ∧
        ∀ e ∈ key.zip ((s.rule n).value.zip (s.rule n).mask), (e.1 ^^^ e.2.1) &&& e.2.2 = 0
      (f.err = true → p.cause = 8) ∧
      (p.cause ≠ 0 → takes (((q.inc (F.RDL.PFAIL.count.port f.port)).put (F.RDL.PFAIL.last.port f.port) p.cause).irq pageRDL 1) dflt 0xFF) ∧
      (p.cause = 0 → s.on F.RDL.CTRL.bypass = true → takes q dflt 0xFF) ∧
      (p.cause = 0 → s.on F.RDL.CTRL.bypass = false → (∀ n, ¬ hits n) → takes q dflt 0xFF) ∧
      (∀ n, p.cause = 0 → s.on F.RDL.CTRL.bypass = false → hits n → (∀ m, m < n → ¬ hits m) →
        takes ((q.inc (F.RDL.HITS.hits.port f.port)).inc (ruleHits n)) (s.rule n).act n))) ∧
  (∀ (s : State) (f : InFrame) (p : Parsed) (act rule : Nat),
    let h := s.rdlHash f p
    let done := s.applyAction f p act rule
    let n := actRing act + (if actHash act then h % 2 ^ actGsize act else 0)
    let e := actEgress act
    let only (prim : Nat) : Prop := actPrimary act = prim ∧ actMirror act = false
    let takesCpu (t : State) (m : Nat) : Prop := (t.ringClient m = clETH0_RX ∨ t.ringClient m = clETH1_RX ∨ t.ringClient m = clRADIO_RX) ∧
      (t.ringWorld m = .glass → actGlass act = true)
    let frame (m : Nat) (mirror : Bool) : RxFrame := ⟨m, s.ringBytes f, f.word + 65536 * actTag act + 2 ^ 24 * rule,
      p.cause + 16 * b2n mirror + 32 * b2n (decide (actPrimary act = actCOPY)), f.err⟩
    let held (t : State) (x : RxFrame) : State := { t with trl := { t.trl with rx := t.trl.rx ++ [x] } }
    let refused (t : State) (m : Nat) : State :=
      ((((t.inc (F.RING.REFUSE.full.ring m)).irq pageTRL 1).inc (F.RDL.LOSS.cpu_refused.port f.port)).irq pageRDL 0)
    let astray (t : State) : State := (t.inc (F.RDL.LOSS.misroute.port f.port)).irq pageRDL 2
    f.port < 3 →
    (only actDROP → done = s) ∧
    (only actPUNT → ¬ takesCpu s n → done = astray s) ∧
    (only actPUNT → takesCpu s n → s.ringTakes n = true → done = held s (frame n false)) ∧
    (only actPUNT → takesCpu s n → s.ringTakes n = false → done = refused s n) ∧
    (only actFORWARD → e = f.port → done = s.inc (F.RDL.LOSS.hairpin.port f.port)) ∧
    (only actFORWARD → e ≠ f.port → s.egressReady e = false → done = s.inc (F.RDL.LOSS.fwd_lost.port f.port)) ∧
    (∀ b, only actFORWARD → e ≠ f.port → e < 2 → s.egressReady e = true → s.converted f e = some b →
      done = s.setEth e { s.eth e with fwd := (s.eth e).fwd ++ [b] }) ∧
    (∀ b, only actFORWARD → f.port ≠ 2 → e = 2 → s.egressReady 2 = true → s.converted f 2 = some b →
      ∃ t, done = { s with radio := { s.radio with fwd := some t } } ∧ t.payload = b ∧ t.type = s.get F.RLP.CTRL.fwd_type ∧
        t.addr = s.get F.RLP.ADDR.addr ∧ t.armed = false) ∧
    (only actCOPY → ∃ t, t = s.forward f e ∧ t.trl = s.trl ∧
      (takesCpu s n → s.ringTakes n = true → done = held t (frame n false)) ∧
      (takesCpu s n → s.ringTakes n = false → done = refused t n) ∧
      (¬ takesCpu s n → done = astray t)) ∧
    (actPrimary act = actDROP → actMirror act = true →
      let m := (s.reg R.RDL.MIRROR).toNat
      let k := actRing m + h % 2 ^ actGsize m
      let fits : Prop := s.ringClient k = clMIRROR ∧ (s.ringWorld k = .glass → actGlass m = true)
      (¬ fits → done = astray s) ∧ (fits → s.ringTakes k = true → done = held s (frame k true)) ∧
      (fits → s.ringTakes k = false → done = refused s k)) ∧
    (p.cause ≠ 0 → h = 0) ∧
    (s.rdlHash f { p with src := p.dst, dst := p.src, sport := p.dport, dport := p.sport } = h))

/-- The rule commands (R415) and the action registers (R407, R417): what WRITE stores in the named rule, what it refuses, READ, DISABLE, and
the words that DFLT and MIRROR take. -/
def Obligations.RuleTable : Prop :=
  ∀ (s : State) (ini : Ini) (v : Word),
    let w := s.iniWorld ini
    let n := s.get F.RDLT.SEL.rule
    let a := s.get F.RDLT.ACT.action
    let cmd := s.reaches ini R.RDLT.CMD
    let group (x : Nat) : Prop := actRing x % 2 ^ actGsize x = 0 ∧ actRing x + 2 ^ actGsize x ≤ 96
    let good (x : Nat) : Prop := actGsize x ≤ 3 ∧ (actPrimary x = actFORWARD ∨ actPrimary x = actCOPY → actEgress x ≠ 3) ∧ bitsOf x 22 17 = 0 ∧
      (actPrimary x = actCOPY ∨ actPrimary x = actPUNT → group x)
    let refused (i : Instr) : Prop := ∃ t, exec i s = .next t ∧ t.get F.RDLT.RES.code = rcRANGE ∧ t.rules = s.rules ∧
      t.get F.RDLT.RES.refused = satAdd F.RDLT.RES.refused.max (s.get F.RDLT.RES.refused) 1 ∧
      (s.on (F.HDR.FAULT.valid.onPage pageRDLT) = false → t.get (F.HDR.FAULT.cause.onPage pageRDLT) = 0x10)
    (cmd → n ≤ 127 → good a → ∃ t, exec (.write ini) s = .next t ∧ t.get F.RDLT.RES.code = rcOK ∧ t.get (ruleHits n) = 0 ∧
      (∀ m, m ≠ n → t.rule m = s.rule m) ∧ (t.rule n).mask = (numsFrom 5 0).map (fun k => (s.reg (R.RDLT.MSK + 4 * k)).toNat) ∧
      (t.rule n).value = (numsFrom 5 0).map (fun k => (s.reg (R.RDLT.VAL + 4 * k) &&& s.reg (R.RDLT.MSK + 4 * k)).toNat) ∧
      actGlass (t.rule n).act = decide (w = .glass) ∧ (∀ k, k < 32 → k ≠ 23 → (t.rule n).act.testBit k = a.testBit k) ∧
      s.changesOnly { t with rules := s.rules } [R.RDLT.RES, (ruleHits n).addr]) ∧
    (cmd → 127 < n ∨ ¬ good a → refused (.write ini)) ∧
    (cmd → n ≤ 127 → (s.rule n).value.length = 5 → (s.rule n).mask.length = 5 → ∃ t, exec (.read ini) s = .next t ∧ t.rules = s.rules ∧
      t.get F.RDLT.RES.code = rcOK ∧ t.reg R.RDLT.ACT = BitVec.ofNat 32 (s.rule n).act ∧
      (∀ k, k < 5 → t.reg (R.RDLT.VAL + 4 * k) = BitVec.ofNat 32 ((s.rule n).value.getD k 0) ∧
        t.reg (R.RDLT.MSK + 4 * k) = BitVec.ofNat 32 ((s.rule n).mask.getD k 0))) ∧
    (cmd → 127 < n → refused (.read ini)) ∧
    (cmd → n ≤ 127 → ∃ t, exec (.ruleDisable ini) s = .next t ∧ t.get F.RDLT.RES.code = rcOK ∧ actEn (t.rule n).act = false ∧
      (∀ k, k ≠ 3 → (t.rule n).act.testBit k = (s.rule n).act.testBit k) ∧ (t.rule n).value = (s.rule n).value ∧
      (t.rule n).mask = (s.rule n).mask ∧ (∀ m, m ≠ n → t.rule m = s.rule m) ∧ s.changesOnly { t with rules := s.rules } [R.RDLT.RES]) ∧
    (cmd → 127 < n → refused (.ruleDisable ini)) ∧
    (∀ k : Fin 4,
      let r := R.RDL.DFLT + 4 * k
      let x := v.toNat
      let glass : Word := if w = .glass then 0x00800000 else 0
      s.reaches ini r →
      (k < 3 → good x → exec (.dfltWrite ini k v) s = (s.setReg r ((v &&& 0xFF01FFF7) ||| glass)).done) ∧
      (k = 3 → actGsize x ≤ 3 → group x → exec (.dfltWrite ini k v) s = (s.setReg r ((v &&& 0x00003FF0) ||| glass)).done) ∧
      ((k < 3 ∧ ¬ good x) ∨ (k = 3 ∧ ¬ (actGsize x ≤ 3 ∧ group x)) →
        exec (.dfltWrite ini k v) s = (s.fault pageRDL 0x10 (iniCode ini) w true r).done))

/-- The wake sieve (R418 to R423): with PD11 off it decides the oldest frame that waits by its lowest-numbered matching rule or the default,
counts, stores and wakes; a WAKE frame evicts QUEUE frames, and one that does not fit is lost; with PD11 on the queue, then the frames
behind it, go to Riddle. A frame whose length field is wrong counts as a runt and is ignored (R444). -/
def Obligations.WakeSieve : Prop :=
  ∀ (s : State) (b : List Byte) (bs : List (List Byte)),
    let q := s.sieve.queue
    let age := s.get F.RLP.SV_QCFG.age
    let old (slack : Nat) : Prop := ∃ x xs, q = x :: xs ∧ age ≠ 0 ∧ x.since + 32 * age ≤ s.aon.time + slack
    let cond : Prop := q ≠ [] ∧ (s.get F.RLP.SV_QCFG.count ≤ q.length ∨ s.sieve.aged = true ∨ old 0 ∨ s.sieve.lost = true)
    let rest : State := { s with sieve := { s.sieve with waiting := bs } }
    let dec (t : State) (d : Nat) : Prop := exec .sieveDecide s = .next
      (if d = 1 then ((t.inc F.RLP.SV_CNT0.queue).sieveStore b false).sieveCheck
        else if d = 2 then (((t.inc F.RLP.SV_CNT0.wake).sieveStore b true).wakeEvent 0x20).sieveCheck
        else t.inc F.RLP.SV_CNT1.ignore).settle
    let hit (n : Nat) : Prop := s.sieveHit n (s.sieveKey b) = true
    let sound := (parseRadio b).cause = 0
    (s.sieveCond = true ↔ cond) ∧
    (s.sieve.waiting = b :: bs → s.pdOn 11 = false → s.pdOn 1 = true →
      (¬ sound → dec ((rest.inc (rlpErr 1)).irq pageRLP 4) 0) ∧
      (sound → s.on F.RLP.SV_CFG.en = false → dec rest 2) ∧
      (sound → s.on F.RLP.SV_CFG.en = true → (∀ n, n < 16 → ¬ hit n) → dec rest (s.get F.RLP.SV_CFG.dflt)) ∧
      (∀ n, n < 16 → sound → s.on F.RLP.SV_CFG.en = true → hit n → (∀ m, m < n → ¬ hit m) →
        dec (rest.inc (sieveHits n)) (s.get (F.RLP.SV_RULE.decision.idx 32 n)))) ∧
    (s.pdOn 11 = true → exec .sieveDecide s = .next s.settle) ∧
    (∀ wake, queueFits q b.length = true →
      (s.sieveStore b wake).sieve.queue = q ++ [⟨b, wake, s.aon.time⟩] ∧ (s.sieveStore b wake).sieve.lost = s.sieve.lost) ∧
    (queueFits q b.length = false → (s.sieveStore b false).sieve.queue = q ∧ (s.sieveStore b false).sieve.lost = true ∧
      (s.sieveStore b false).get F.RLP.SV_CNT1.lost = satAdd F.RLP.SV_CNT1.lost.max (s.get F.RLP.SV_CNT1.lost) 1 ∧
      (s.sieveStore b false).on (eventBit pageRLP 16) = true) ∧
    (queueFits q b.length = false → (∀ x ∈ q, x.wake = true) → (s.sieveStore b true).sieve.queue = q ∧ (s.sieveStore b true).sieve.lost = true) ∧
    (∀ x xs, q = x :: xs → x.wake = false → queueFits q b.length = false → queueFits xs b.length = true →
      (s.sieveStore b true).sieve.queue = xs ++ [⟨b, true, s.aon.time⟩] ∧ (s.sieveStore b true).sieve.lost = true) ∧
    (∀ x, old 1 → x = { s with sieve := { s.sieve with aged := true } } →
      exec .sieveAgeExpire s = .next (x.wakeEvent 0x40).settle) ∧
    (¬ old 1 → exec .sieveAgeExpire s = .next s.settle) ∧
    (s.pdOn 11 = true → exec .sieveHandoff s =
      .next { s with rin := s.rin ++ (q.map QFrame.bytes ++ s.sieve.waiting).map radioFrame, sieve := ⟨[], [], false, false⟩ })

/-- What an Ethernet port does with a received frame (R428 to R432): which destinations it accepts, the checks in their order, what pass_bad
hands on marked in error, the FIFO's room, the frame that Riddle sees and its timestamp. A port that does not run sees nothing, and a
frame too short for a destination address is a runt (the model's reading; log 63). What an Ethernet port sends and when its clock goes
(R433, R434, R436), and MDIO with its link polls (R437 to R439). -/
def Obligations.EthernetPorts : Prop :=
  (∀ (s : State) (p : Fin 2) (b : List Byte) (whole rxer : Bool) (ticks : Word),
    let f (x : Fld) : Fld := x.ethPort p
    let ends (t : State) : Prop := exec (.ethRxFrame p b whole rxer ticks) s = .next t.settle
    let error (t : State) (k : Nat) : State := (t.inc (ethErr p k)).irq (pageETH0 + p) 2
    let da := frameNum b 0 6
    let mine : Prop := s.on (f F.ETH.CTRL.promisc) = true ∨ da = 2 ^ 32 * s.get (f F.ETH.MAC_HI.addr) + s.get (f F.ETH.MAC_LO.addr) ∨
      da = 2 ^ 48 - 1 ∨ (s.on (f F.ETH.CTRL.mcast) = true ∧ (frameByte b 0).testBit 0 = true)
    let fcs := crc32 (b.take (b.length - 4)) = natLE (b.drop (b.length - 4))
    let stamp := (BitVec.ofNat 32 s.stampNow - ticks).toNat
    let room := s.ethFifo p + b.length ≤ 2048
    let seen := if s.on (f F.ETH.CTRL.keep_fcs) then b else b.take (b.length - 4)
    let handed (t : State) (err : Bool) : State :=
      { ((t.inc (f F.ETH.RXCNT.frames)).put (f F.ETH.RXTS.ts) stamp) with rin := s.rin ++ [⟨p, seen, err, stamp / 16 % 65536⟩] }
    let lossy (t : State) : State := (t.inc (f F.ETH.ERR2.overrun)).irq (pageETH0 + p) 2
    let bad := s.on (f F.ETH.CTRL.pass_bad)
    let sized := 64 ≤ b.length ∧ b.length ≤ 1522
    (s.ethRuns p = false → ends s) ∧
    (s.ethRuns p = true →
      (b.length < 6 → ends (error s 1)) ∧
      (6 ≤ b.length → ¬ mine → ends (s.inc (f F.ETH.RXDROP.filtered))) ∧
      (6 ≤ b.length → mine → b.length < 64 → ends (error s 1)) ∧
      (mine → 1522 < b.length → ends (error s 2)) ∧
      (mine → sized → whole = false ∨ ¬ fcs →
        (bad = false → ends (error s 0)) ∧ (bad = true → room → ends (handed (error s 0) true)) ∧ (bad = true → ¬ room → ends (lossy (error s 0)))) ∧
      (mine → sized → whole = true → fcs → rxer = true →
        (bad = false → ends (error s 3)) ∧ (bad = true → room → ends (handed (error s 3) true)) ∧ (bad = true → ¬ room → ends (lossy (error s 3)))) ∧
      (mine → sized → whole = true → fcs → rxer = false → (room → ends (handed s false)) ∧ (¬ room → ends (lossy s))))) ∧
  (∀ (s : State) (p : Fin 2) (ini : Ini) (v : Word),
    let f (x : Fld) : Fld := x.ethPort p
    let e := s.eth p
    let error (t : State) (k : Nat) : State := (t.inc (ethErr p k)).irq (pageETH0 + p) 2
    let sends (b : List Byte) (e' : EthPort) : Prop := exec (.ethTxFrame p) s =
      .next (((s.setEth p e').inc (f F.ETH.TXCNT.frames)).answer (ethWire b) 0)
    let cut (e' : EthPort) : Prop :=
      exec (.refclkLost p false true) s = .next ((((s.put (f F.ETH.STAT.ref_ok) 0).irq (pageETH0 + p) 4).setEth p e').inc (f F.ETH.ERR2.tx_abort)).settle
    let op := F.ETH.MDIO_CMD.op.get v
    let mdioPage := s.reaches ini R.ETH.MDIO_CMD
    let tells (code : Nat) : Prop := exec (.mdioCmd ini v) s = (s.put F.ETH.MDIO_RES.code code).done
    (s.ethRuns p = true →
      (∀ b, e.ring = some b → e.fwd = [] ∨ e.lastRing = false →
        sends b { e with ring := none, lastRing := true } ∧ cut { e with ring := none, lastRing := true }) ∧
      (∀ b bs, e.fwd = b :: bs → e.ring = none ∨ e.lastRing = true →
        sends b { e with fwd := bs, lastRing := false } ∧ cut { e with fwd := bs, lastRing := false }) ∧
      (e.ring = none → e.fwd = [] → exec (.ethTxFrame p) s = .next s)) ∧
    (∀ b, (ethWire b).length = max 60 b.length + 4 ∧ (ethWire b).take b.length = b ∧
      natLE ((ethWire b).drop (max 60 b.length)) = crc32 ((ethWire b).take (max 60 b.length)) % 2 ^ 32) ∧
    (s.pdOn 11 = true → s.on (f F.ETH.STAT.ref_ok) = true →
      exec (.refclkLost p false false) s = .next ((s.put (f F.ETH.STAT.ref_ok) 0).irq (pageETH0 + p) 4).settle ∧
      (s.on (f F.ETH.CTRL.en) = true →
        exec (.refclkLost p true false) s = .next (error ((s.put (f F.ETH.STAT.ref_ok) 0).irq (pageETH0 + p) 4) 3).settle)) ∧
    (s.pdOn 11 = true → exec (.refclkReturn p) s = .next (s.put (f F.ETH.STAT.ref_ok) 1)) ∧
    (mdioPage →
      (s.mdio.isSome = true → tells rcBUSY) ∧
      (s.mdio = none → op ≠ 1 → op ≠ 2 → tells rcRANGE) ∧
      (s.mdio = none → op = 1 ∨ op = 2 → exec (.mdioCmd ini v) s = State.done { s with mdio := some ⟨none, decide (op = 2),
        mdioBits (decide (F.ETH.MDIO_CMD.no_pre.get v = 0)) (decide (op = 2)) (F.ETH.MDIO_CMD.phy.get v) (F.ETH.MDIO_CMD.reg.get v)
          (F.ETH.MDIO_CMD.data.get v)⟩ })) ∧
    (∀ (data : BitVec 16) (ack : Bool) (bits : List Bool),
      let quiet : State := { s with mdio := none }
      let ends (t : State) : Prop := exec (.mdioDone data ack) s = .next (t.irq pageETH0 3).settle
      (s.mdio = some ⟨none, false, bits⟩ → ends (quiet.put F.ETH.MDIO_RES.code rcOK)) ∧
      (s.mdio = some ⟨none, true, bits⟩ → ack = true → ends ((quiet.put F.ETH.MDIO_RES.data data.toNat).put F.ETH.MDIO_RES.code rcOK)) ∧
      (s.mdio = some ⟨none, true, bits⟩ → ack = false → ends ((quiet.put F.ETH.MDIO_RES.data 0xFFFF).put F.ETH.MDIO_RES.code rcABSENT))) ∧
    (s.pdOn 11 = true → s.mdio = none → s.get (f F.ETH.POLL.interval) ≠ 0 →
      (1000 * s.get (f F.ETH.POLL.interval) ≤ e.polled + 1 → exec (.linkPoll p none) s = .next
        { s.setEth p { e with polled := 0 } with mdio := some ⟨some p, true, mdioBits true true (s.get (f F.ETH.POLL.phyad)) 1 0⟩ }.settle) ∧
      (e.polled + 1 < 1000 * s.get (f F.ETH.POLL.interval) → exec (.linkPoll p none) s = .next s.settle)) ∧
    (∀ (link read : Bool) (bits : List Bool), s.mdio = some ⟨some p, read, bits⟩ →
      let was := s.on (f F.ETH.STAT.link)
      let t := ({ s with mdio := none }).putB (f F.ETH.STAT.link) link
      (link = was → exec (.linkPoll p (some link)) s = .next t.settle) ∧
      (link = true → was = false → exec (.linkPoll p (some link)) s = .next (t.irq (pageETH0 + p) 0).settle) ∧
      (link = false → was = true → exec (.linkPoll p (some link)) s = .next (t.irq (pageETH0 + p) 1).settle)))

/-- What the radio link port does with a received frame (R443 to R446, R451) and RL_WAKE: lost where the front end is not armed or a frame was
being sent when it started, the checks in their order, the beacon's reference, and the way to Riddle or to the sieve (R418, R423). The slot windows and
transmission (R447 to R456): arming, the test of the predicted start and end against the window, what holding a frame back records, the
sequence number a sent frame takes, and its end. The exact integer bounds of R452 and R454 are stated in ticks of 125 ns. -/
def Obligations.RadioPort : Prop :=
  (∀ (s : State) (b crc : List Byte) (whole : Bool) (ticks : Word),
    let ends (t : State) : Prop := exec (.rlRxFrame (b ++ crc) whole ticks) s = .next t.settle
    let error (k : Nat) : State := (s.inc (rlpErr k)).irq pageRLP 4
    let len := (b ++ crc).length
    let armed := s.pdOn 1 = true ∧ (s.radio.wake = true ∨ (s.aon.pstate = 0 ∧ s.on F.RLP.CTRL.rx_en = true))
    let sized := 8 ≤ len ∧ len ≤ 1032 ∧ whole = true
    let during := s.duringSend (s.reg R.RLP.ST_NOW - ticks) = true
    let good := armed ∧ ¬ during ∧ sized ∧ crc.length = 2 ∧ crc16 b = frameNum crc 0 2
    let named := frameNum b 4 2 = b.length - 6
    let beacon := s.on F.RLP.BCN_MATCH.en = true ∧ named ∧
      (frameByte b 0 ^^^ s.get F.RLP.BCN_MATCH.type) &&& s.get F.RLP.BCN_MATCH.mask = 0
    let u := s.inc F.RLP.RXCNT.frames
    let straight := s.pdOn 11 = true ∧ s.sieve.queue = [] ∧ s.sieve.waiting = []
    let frame : InFrame := ⟨2, b, false, frameByte b 0 + 2 ^ 8 * frameByte b 3⟩
    (s.pdOn 1 = false → ends s) ∧
    (s.pdOn 1 = true → ¬ armed ∨ during → ends (error 3)) ∧
    (s.radio.sending.isSome = true → during) ∧
    (armed → ¬ during → len < 8 → ends (error 1)) ∧
    (armed → ¬ during → 8 ≤ len → ¬ sized → ends (error 2)) ∧
    (armed → ¬ during → sized → crc.length = 2 → crc16 b ≠ frameNum crc 0 2 → ends (error 0)) ∧
    (good → ¬ beacon → straight → ends { u with rin := u.rin ++ [frame] }) ∧
    (good → ¬ beacon → ¬ straight → ends { u with sieve := { u.sieve with waiting := u.sieve.waiting ++ [b] } }) ∧
    (good → beacon → ∃ t, exec (.rlRxFrame (b ++ crc) whole ticks) s = .next t ∧ t.reg R.RLP.BCN_TIME = s.reg R.RLP.ST_NOW - ticks ∧
      t.get F.RLP.BCN_INFO.seq = frameByte b 3 ∧ t.get F.RLP.BCN_INFO.addr = frameNum b 1 2 ∧ t.on F.RLP.STAT.ref_valid = true ∧
      t.on (eventBit pageRLP 3) = true ∧
      t.get F.RLP.RXCNT.beacons = satAdd F.RLP.RXCNT.beacons.max (s.get F.RLP.RXCNT.beacons) 1 ∧
      (straight → t.rin = s.rin ++ [frame]) ∧ (¬ straight → t.sieve.waiting = s.sieve.waiting ++ [b])) ∧
    (s.pdOn 1 = false ∨ s.radio.wake = true → exec .rlWake s = .next { s with radio := { s.radio with wake := true } }) ∧
    (s.pdOn 1 = true → s.radio.wake = false → exec .rlWake s = .next ({ s with radio := { s.radio with wake := true } }.trig 2)) ∧
    exec .rlWakeFall s = .next { s with radio := { s.radio with wake := false } }) ∧
  (∀ (s : State) (x : RadioTx) (fwd : Bool),
    let off : Int := s.get F.RLP.SLOT_OFF.off
    let len : Int := s.get F.RLP.SLOT_LEN.len
    let guard : Int := s.get F.RLP.SLOT_LEN.guard
    let rate : Int := s.get F.RLP.CTRL.rate
    let open_ := off + guard
    let close := off + len - guard
    let n : Int := x.payload.length
    let start := s.txStart x
    let holds (t : State) (y : RadioTx) (cause : Nat) : Prop :=
      t.get F.RLP.TX_STAT.result = rcTIMEOUT ∧ t.get F.RLP.TX_STAT.cause = cause ∧ t.get F.RLP.TX_STAT.seq = 0 ∧
      t.get F.RLP.TXCNT.slot_miss = satAdd F.RLP.TXCNT.slot_miss.max (s.get F.RLP.TXCNT.slot_miss) 1 ∧ t.on (eventBit pageRLP 1) = true ∧
      t.get F.RLP.TXSEQ.next = s.get F.RLP.TXSEQ.next ∧
      (if fwd then t.radio.fwd else t.radio.ring) = (if s.on F.RLP.SLOT_CFG.retry then some { y with waits := true } else none)
    let slack : Int := if s.ck06 then 8 else 245
    let ready := s.pdOn 1 = true ∧ s.radio.sending = none ∧ s.on F.RLP.STAT.ref_valid = true ∧ x.armed = true ∧ x.waits = false ∧
      (if fwd then s.radio.fwd = some x ∧ ∀ y, s.radio.ring = some y → y.armed = false ∨ y.waits = true else s.radio.ring = some x)
    let cold := s.pdOn 1 = true ∧ x.armed = false ∧
      (if fwd then s.radio.fwd = some x ∧ ∀ y, s.radio.ring = some y → y.armed = true else s.radio.ring = some x)
    let y : RadioTx := { x with armed := true, armedAt := s.slotNow }
    let cookie (t : State) : Prop := fwd = false → t.reg R.RLP.TX_COOKIE = BitVec.ofNat 32 x.cookie
    (∀ d : Int, 1000000 * (d - 1) < close * s.get F.RLP.SLOT_CFG.tol → close * s.get F.RLP.SLOT_CFG.tol ≤ 1000000 * d →
      (s.txFits x = true ↔ 2 * guard < len ∧ open_ < close - d ∧ rate * start + rate * 32 + 64 * (n + 8) ≤ rate * (close - d))) ∧
    (open_ ≤ start ∧ s.fromRef ((x.armedAt + 1) % 2 ^ 32) ≤ start ∧ s.fromRef s.slotNow ≤ start) ∧
    (ready → s.fromRef s.slotNow + slack < start → exec .slotWindowTest s = .next s.settle) ∧
    (ready → start ≤ s.fromRef s.slotNow + slack → s.txFits x = true → ∃ t, exec .slotWindowTest s = .next t ∧ t.radio.sending = some (s.get F.RLP.TXSEQ.next, fwd) ∧
      t.get F.RLP.TXSEQ.next = (s.get F.RLP.TXSEQ.next + 1) % 256 ∧ t.resp = ⟨x.bytes (s.get F.RLP.TXSEQ.next), 0⟩ ∧
      t.reg R.RLP.TX_WHEN = s.reg R.RLP.BCN_TIME + BitVec.ofInt 32 start ∧ t.radio.ring = s.radio.ring ∧ t.radio.fwd = s.radio.fwd) ∧
    (ready → start ≤ s.fromRef s.slotNow + slack → s.txFits x = false → ∃ t, exec .slotWindowTest s = .next t ∧ holds t x 1) ∧
    (cold → s.on F.RLP.STAT.ref_valid = true → ∃ t, exec .rlTxArm s = .next t ∧ cookie t ∧
      (if fwd then t.radio.fwd else t.radio.ring) = some y ∧ s.changesOnly { t with radio := s.radio } [R.RLP.TX_COOKIE]) ∧
    (cold → s.on F.RLP.STAT.ref_valid = false → ∃ t, exec .rlTxArm s = .next t ∧ cookie t ∧ holds t y 2) ∧
    (∀ (i : Instr) (result cause bit seq : Nat),
      (i, result, cause, bit) ∈ [(Instr.rlTxEnd, rcOK, 0, 0), (.wClose, rcABORTED, 4, 2), (.rlClkLost, rcABORTED, 5, 2)] →
      s.radio.sending = some (seq, fwd) → seq < 256 → (i = .wClose → close ≤ s.fromRef s.slotNow + slack) →
      ∃ t, exec i s = .next t ∧ t.get F.RLP.TX_STAT.result = result ∧ t.get F.RLP.TX_STAT.cause = cause ∧ t.get F.RLP.TX_STAT.seq = seq ∧
        t.on (eventBit pageRLP bit) = true ∧ t.radio.sending = none ∧ (if fwd then t.radio.fwd else t.radio.ring) = none ∧
        (if fwd then t.radio.ring else t.radio.fwd) = (if fwd then s.radio.ring else s.radio.fwd) ∧
        t.get F.RLP.TXSEQ.next = s.get F.RLP.TXSEQ.next ∧
        t.get F.RLP.TXCNT.sent = (if result = rcOK then satAdd F.RLP.TXCNT.sent.max (s.get F.RLP.TXCNT.sent) 1 else s.get F.RLP.TXCNT.sent)) ∧
    (s.fromRef s.slotNow + slack < close → exec .wClose s = .next s.settle) ∧
    (s.on F.RLP.STAT.ref_valid = true →
      8000 * s.get F.RLP.SLOT_CFG.bcn_max ≤ (s.reg R.RLP.ST_NOW - s.reg R.RLP.BCN_TIME).toNat + s.slotSlack → (if fwd then s.radio.fwd = some x ∧ s.radio.ring = none else s.radio.ring = some x ∧ s.radio.fwd = none) →
      ∃ t, exec .referenceExpire s = .next t ∧ t.on F.RLP.STAT.ref_valid = false ∧
        (x.armed = true → x.waits = false → s.radio.sending = none → holds t x 3) ∧
        (x.armed = false ∨ x.waits = true → t.radio = s.radio)))

/-- The cartridge's presence and supply (R461, R462, R487 to R489): what each write of CTRL and each event does in each host state. -/
def Obligations.CartridgeSupply : Prop :=
  ∀ (s : State) (ini : Ini) (v : Word) (r : CartReply) (g : Integ),
    let host := s.gcbHost
    let closed : Prop := 2 ≤ s.get F.GCB.STAT.state
    let on (f : Fld) : Prop := f.get v = 1
    let pwr := s.get F.GCB.CTRL.pwr
    let oc := s.on F.GCB.STAT.oc = true
    let plain : Prop := ¬ on F.GCB.CTRL.resume ∧ ¬ on F.GCB.CTRL.oc_clr
    let word (x : Nat) : Word := (s.reg R.GCB.CTRL &&& ~~~3) ||| (F.GCB.CTRL.pwr.put x v &&& 3)
    let ends (i : Instr) (t : State) : Prop := exec i s = t.done
    let refused (t : State) (cause : Nat) : Prop := t.get F.GCB.CTRL.pwr = pwr ∧ t.reg R.GCB.STAT = s.reg R.GCB.STAT ∧
      t.get F.GCB.CNT1.state = satAdd F.GCB.CNT1.state.max (s.get F.GCB.CNT1.state) 1 ∧
      (s.on (F.HDR.FAULT.valid.onPage pageGCB) = false → t.get (F.HDR.FAULT.cause.onPage pageGCB) = cause)
    let off (t : State) : State := (t.put F.GCB.STAT.state 0).put F.GCB.STAT.busy 0
    let free := s.reaches ini R.GCB.CTRL
    let still : Prop := F.GCB.CTRL.pwr.get v = pwr ∧ (pwr = 1 ∨ ¬ closed)
    (free → plain → pwr = 0 → host = gcbOFF → ¬ oc → s.on (F.PWR.IOGRP.present.bit 2) = true →
      ∃ t, exec (.gcbPwrOn ini v) s = .next t ∧ t.get F.GCB.STAT.state = gcbPOWERING ∧ t.get F.GCB.STAT.width = 0 ∧
        t.get F.GCB.STAT.speed = 0 ∧ t.reg R.GCB.CTRL = word 1 ∧ s.changesOnly t [R.GCB.CTRL, R.GCB.STAT]) ∧
    (free → plain → pwr = 0 → host = gcbABSENT ∨ (host = gcbOFF ∧ (oc ∨ s.on (F.PWR.IOGRP.present.bit 2) = false)) →
      ∃ t, exec (.gcbPwrOn ini v) s = .next t ∧ refused t 0x10) ∧
    (free → plain → pwr = 1 ∨ closed → ends (.gcbPwrOn ini v) (s.setReg R.GCB.CTRL (word 1))) ∧
    (free → plain → closed → s.get F.GCB.STAT.state ≠ gcbON ∨ (s.gcb.job = none ∧ s.on F.GCB.STAT.busy = false) →
      ends (.gcbPwrOff ini v) (off (s.setReg R.GCB.CTRL (word 0)))) ∧
    (free → plain → ¬ closed ∨ (s.get F.GCB.STAT.state = gcbON ∧ (s.gcb.job ≠ none ∨ s.on F.GCB.STAT.busy = true)) →
      ends (.gcbPwrOff ini v) (s.setReg R.GCB.CTRL (word 0))) ∧
    (free → ¬ on F.GCB.CTRL.oc_clr → still →
      (host = gcbSTOPPED → ends (.gcbResume ini v) ((s.setReg R.GCB.CTRL (word pwr)).put F.GCB.STAT.state gcbON)) ∧
      (host ≠ gcbSTOPPED → ∃ t, exec (.gcbResume ini v) s = .next t ∧ refused t 0x11)) ∧
    (free → ¬ on F.GCB.CTRL.resume → still →
      ends (.ocClr ini v) ((s.put F.GCB.STAT.oc 0).setReg R.GCB.CTRL (word pwr))) ∧
    (s.get F.GCB.STAT.state = gcbPOWERING → exec .gcbPowerReady s = .next ((s.put F.GCB.STAT.state gcbON).irq pageGCB 0).settle) ∧
    (s.gcb.present = false →
      let x : State := { s with gcb := { s.gcb with present := true } }
      exec .cartridgeInsert s = .next ((if s.pdOn 12 then x.irq pageGCB 2 else x).wakeEvent 2).settle) ∧
    (s.gcb.present = true →
      let x : State := { s with gcb := { s.gcb with present := false } }
      let y := (((off x).put F.GCB.CTRL.pwr 0).inc F.GCB.CNT1.removals).irq pageGCB 3
      (s.pdOn 12 = true → exec (.cartridgeRemove r g) s = .next ((y.cartReply (some rcABORTED) r g).wakeEvent 2).settle) ∧
      (s.pdOn 12 = false → exec (.cartridgeRemove r g) s = .next (x.wakeEvent 2).settle))

/-- The command frames of a cartridge descriptor (R465, R475, R481, R484, R489): each command's row sends its frame where the descriptor in
progress names its index, the host is ON and DAT0 is free; RESET, which has no response, completes at once; a multi-block command uses the
pending count up. A row that cannot occur leaves the state (the model's reading; log 64). Which cartridge descriptors the host takes
(R480, R485, R486): the checks before anything is sent, and what a completion with a code other than OK makes of a host that is ON. -/
def Obligations.CartridgeCommands : Prop :=
  (∀ (s : State) (j : CartJob) (i : Instr) (index : Nat) (again : Bool),
    (i, index, again) ∈ [(Instr.cartReset, 0, false), (.hello, 1, false), (.helloRetry, 1, true), (.setBus, 2, false), (.readId, 3, false),
      (.cartStatus, 4, false), (.setCount, 5, false), (.readSingle, 6, false), (.readMulti, 7, false), (.writeSingle, 8, false),
      (.writeMulti, 9, false), (.cartStop, 10, false), (.rpaRequest, 16, false), (.rpaResult, 17, false), (.lockCtrl, 18, false)] →
    let ready : Prop := s.gcb.job = some j ∧ j.sent = false ∧ j.held = none ∧ j.retry = again ∧ j.desc.cbyte % 64 = index ∧
      (s.on F.GCB.STAT.busy = false ∨ index = 4) ∧ s.get F.GCB.STAT.state = gcbON
    let head := bytesBE 1 (64 + index) ++ bytesBE 4 j.desc.w3
    let x := (s.inc F.GCB.CNT0.commands).answer (head ++ bytesBE 1 (2 * crc7 head + 1)) 0
    let ends (t : State) : Prop := exec i s = .next t.settle
    (ready → index = 0 →
      ends ((((x.put F.GCB.COUNT.count 0).put F.GCB.STAT.width 0).put F.GCB.STAT.speed 0).cartDone j.ring j.desc rcOK 0)) ∧
    (ready → index = 7 ∨ index = 9 → ends { (x.put F.GCB.COUNT.count 0) with
      gcb := { s.gcb with job := some { j with sent := true, stop := decide (s.get F.GCB.COUNT.count = 0) } } }) ∧
    (ready → index ≠ 0 → index ≠ 7 → index ≠ 9 → ends { x with gcb := { s.gcb with job := some { j with sent := true, stop := false } } }) ∧
    ((∀ j', s.gcb.job = some j' → j'.sent = true ∨ j'.retry ≠ again ∨ j'.desc.cbyte % 64 ≠ index) → ends s)) ∧
  (∀ (s : State) (n : Nat) (d : Desc) (code ret : Nat),
    let i := d.cbyte % 64
    let count := s.get F.GCB.COUNT.count
    let plain : Prop := i ∈ [0, 1, 2, 4, 5, 10]
    let ins : Prop := i ∈ [3, 6, 7, 17]
    let outs : Prop := i ∈ [8, 9, 16, 18]
    let fine : Prop := d.cbyte / 64 = 0 ∧ ((plain ∧ d.dirIn = true ∧ d.len = 4) ∨
      (((ins ∧ d.dirIn = true) ∨ (outs ∧ d.dirIn = false)) ∧
        (if i = 3 then d.len = 32 else if i = 18 then d.len = 64
          else if i = 7 ∨ i = 9 then d.len % 512 = 0 ∧ (count = 0 ∨ d.len = 512 * count) else d.len = 512)))
    let t := s.cartDone n d code ret
    (fine → s.cartJudge d = rcOK) ∧ (¬ fine → s.cartJudge d = rcRANGE) ∧
    (2 ≤ s.get F.GCB.STAT.state → fine → s.cartOffer n d rcOK = { s with gcb := { s.gcb with job := some ⟨n, d, false, false, false, none⟩ } }) ∧
    (s.get F.GCB.STAT.state < 2 → s.cartOffer n d rcOK = s.completeDesc n d rcABSENT 0 0 d.w3 d.cbyte) ∧
    (n < 96 → code < 256 → code ≠ rcOK → s.get F.GCB.STAT.state = gcbON → s.on F.GCB.CTRL.pwr = true →
      t.get F.GCB.STAT.state = gcbSTOPPED ∧ t.get F.GCB.STOP_AT.ring = n ∧ t.get F.GCB.STOP_AT.index = s.cidx n ∧
        t.get F.GCB.STOP_AT.code = code ∧ t.on F.GCB.STOP_AT.valid = true ∧ t.on (eventBit pageGCB 1) = true ∧ t.gcb.job = none ∧
        (code = rcSTATE → t.get F.GCB.CNT1.state = satAdd F.GCB.CNT1.state.max (s.get F.GCB.CNT1.state) 1)) ∧
    (n < 96 → s.get F.GCB.STAT.state = gcbON → s.on F.GCB.CTRL.pwr = true →
      (s.cartDone n d rcOK ret).get F.GCB.STAT.state = gcbON ∧ (s.cartDone n d rcOK ret).gcb.job = none))

/-- How a cartridge descriptor ends (R481 to R484, R489, R494): the codes of R482 in their order, what is written to the buffer, and ret_len. -/
def Obligations.CartridgeReplies : Prop :=
  ∀ (s : State) (g : Integ) (j : CartJob) (f : BitVec 48) (blocks : List CartBlock) (tokens : List CartToken),
    let d := { j.desc with back := g }
    let i := d.cbyte % 64
    let w := s.ringWorld j.ring
    let wide := decide (s.get F.GCB.STAT.width = 1)
    let word := f.toNat / 256 % 2 ^ 32
    let good : Prop := crc7 (bytesBE 5 (f.toNat / 256)) = f.toNat / 2 % 128 ∧ f.toNat % 2 = 1
    let x := s.setReg R.GCB.RESP (BitVec.ofNat 32 word)
    let ends (t : State) : Prop := exec (.cartResponse ⟨some f, blocks, tokens⟩ g) s = .next t.settle
    let silent (t : State) : Prop := exec (.cartTimeout ⟨none, [], []⟩ g) s = .next t.settle
    let done (t : State) (code ret : Nat) : State := t.cartDone j.ring d code ret
    let stopped (t : State) : State := t.cartSendFrame 10 0
    let plain : Prop := i ∈ [1, 2, 4, 5, 10]
    let blk := if i = 3 then 32 else if i = 18 then 64 else 512
    let need := d.len / blk
    let waits : Prop := s.gcb.job = some j ∧ j.sent = true ∧ j.held = none
    let sc := statusCode word
    let early : Prop := i = 1 ∧ word.testBit 15 = false
    (∀ n : Nat, let c := statusCode n
      (n.testBit 30 = true ∨ n.testBit 29 = true → c = rcRANGE) ∧
      (n.testBit 30 = false → n.testBit 29 = false →
        (n.testBit 28 = true → c = rcSTATE) ∧
        (n.testBit 28 = false → n.testBit 31 = true → c = rcBOUNDS) ∧
        (n.testBit 28 = false → n.testBit 31 = false → n.testBit 27 = true → c = rcLOCKED) ∧
        (n.testBit 28 = false → n.testBit 31 = false → n.testBit 27 = false → n.testBit 26 = true ∨ n.testBit 23 = true → c = rcAUTH) ∧
        (n / 2 ^ 26 = 0 → n.testBit 23 = false →
          (n.testBit 24 = true → c = rcWORN) ∧ (n.testBit 24 = false → n.testBit 25 = true → c = rcABORTED) ∧
          (n.testBit 24 = false → n.testBit 25 = false → c = rcOK)))) ∧
    (waits → plain →
      (¬ good → ends (done s rcCRC 0)) ∧
      (∀ u k, good → State.dmaWriteLen .cart w g 5 x d.w0 (bytesLE 4 word) = (u, k) →
        (sc ≠ rcOK → ends (done u sc k)) ∧
        (sc = rcOK → ¬ early → k < 4 → ends (done u rcABORTED k)) ∧
        (sc = rcOK → ¬ early → k = 4 → ends (done (if i = 2 then (u.put F.GCB.STAT.width (d.w3 % 2)).put F.GCB.STAT.speed (d.w3 / 2 % 4)
          else if i = 5 then u.put F.GCB.COUNT.count (d.w3 % 65536) else u) rcOK 4))) ∧
      (good → sc = rcOK → early → ends { x with gcb := { s.gcb with job := some { j with sent := false, retry := true } } }) ∧
      silent (done s rcTIMEOUT 0)) ∧
    (∀ pre rest u k, waits → i ∈ [3, 6, 7, 17] → blocks = pre ++ rest → (∀ b ∈ pre, cartBlockGood wide blk b = true) → pre.length ≤ need →
      good → State.dmaWriteLen .cart w g (d.len + 1) x d.w0 (pre.map CartBlock.data).flatten = (u, k) →
      let all := pre.length = need
      let halt (t : State) : State := if i = 7 then stopped t else t
      (all → sc = rcOK → k = blk * need → ends (done (if i = 7 ∧ j.stop = true then stopped u else u) rcOK k)) ∧
      (all → sc = rcOK → k < blk * need → ends (done (halt u) rcABORTED k)) ∧
      (all → sc ≠ rcOK → sc ≠ rcABORTED → ends (done u sc k)) ∧
      (∀ b bs, ¬ all → rest = b :: bs → cartBlockGood wide blk b = false → ends (done (halt u) rcCRC k)) ∧
      (¬ all → rest = [] → sc = rcOK → ends (done u rcTIMEOUT k)) ∧
      (¬ all → rest = [] → sc ≠ rcOK → sc ≠ rcABORTED → i ≠ 17 → ends (done u sc k))) ∧
    (waits → i ∈ [8, 9, 16, 18] → good → sc = rcOK → x.dmaStalls d.w0 d.len = true → ends x) ∧
    (∀ m rest u data, waits → i ∈ [8, 9, 16, 18] → tokens = List.replicate m CartToken.accepted ++ rest → m ≤ need → good → sc = rcOK →
      x.dmaStalls d.w0 d.len = false → State.dmaLoad x .cart w g d.w0 d.len = (u, data, true) →
      let halt (t : State) : State := if i = 9 then stopped t else t
      let last : State := (if i = 9 ∧ j.stop = true then stopped u else u).put F.GCB.STAT.busy 1
      (m = need → s.on F.GCB.CTRL.busy_wait = false → ends (done last rcOK (blk * need))) ∧
      (m = need → s.on F.GCB.CTRL.busy_wait = true → ends { last with gcb := { u.gcb with job := some { j with held := some (rcOK, blk * need) } } }) ∧
      (∀ ts, m < need → rest = CartToken.crcFailure :: ts → ends (done (halt u) rcCRC (blk * m))) ∧
      (∀ ts, m < need → rest = CartToken.progFailure :: ts → ends (done (halt u) rcABORTED (blk * m))) ∧
      (m < need → rest = [] → ends u)) ∧
    (waits → i ∈ [8, 9, 16, 18] → tokens = [] → (¬ good → ends (done (if i = 9 then stopped s else s) rcCRC 0)) ∧
      (good → sc ≠ rcOK → sc ≠ rcABORTED → ends (done x sc 0))) ∧
    (s.gcb.job = some j → j.sent = false → j.held = none → silent (done s rcTIMEOUT 0)) ∧
    (∀ code ret, s.gcb.job = some j → j.held = some (code, ret) → silent (done s rcTIMEOUT ret)) ∧
    (∀ code ret, s.pdOn 12 = true → s.gcb.job = some j → j.held = some (code, ret) →
      exec .cartBusyEnd s = .next ((s.put F.GCB.STAT.busy 0).cartDone j.ring j.desc code ret).settle) ∧
    (s.pdOn 12 = true → s.gcb.job = none → exec .cartBusyEnd s = .next (s.put F.GCB.STAT.busy 0).gcbOffCheck.settle) ∧
    (s.gcb.job = none → exec (.cartTimeout ⟨none, [], []⟩ g) s = .next s.settle)

/-- The judgement of a MSG_WRITE (R507, R510, R512, R513, R517): the first line of R513 that applies gives the code in LASTWR; only the last
line delivers, and sets INSEQ and the interrupt. Mode 3 and the frame count are taken at the frame's start. A descriptor whose `in`
disagrees is passed over by `mbDesc`. The other host link frames (R507, R509 to R511, R514 to R517) and the doorbell: what each answers,
and what it leaves. -/
def Obligations.HostLink : Prop :=
  (∀ (s : State) (quad mode3 : Bool) (body : List Byte) (g : Integ),
    let x := (s.putB F.HLK.STAT.mode3 mode3).inc F.HLK.CNT0.frames
    let m := frameByte body 0
    let n := 56 + m
    let seq := frameByte body 1
    let len := frameNum body 2 2
    let ends (t : State) : Prop := exec (.msgWrite quad mode3 body g) s = .next t
    let ignored : Prop := (quad = true ∧ s.on F.HLK.CTRL.quad_en = false) ∨ 7 < m
    let tells (t : State) (code : Nat) (dup : Bool) : Prop := t.get F.HLK.LASTWR.code = code ∧ t.get F.HLK.LASTWR.mbox = m ∧
      t.get F.HLK.LASTWR.seq = seq ∧ t.on F.HLK.LASTWR.dup = dup ∧
      (code ≠ rcOK → t.on (F.HLK.HOSTIRQ.raw.bit 2) = true ∧ t.on (eventBit pageHLK 2) = true)
    let line1 : Prop := s.mbOut m = true ∨ (4 ≤ body.length ∧ len = 0)
    let whole : Prop := 6 + len ≤ body.length
    let op : Byte := if quad then 0x82 else 0x02
    let crcOk : Prop := crc16 (op :: body.take (4 + len)) = frameNum body (4 + len) 2
    let known : Prop := (s.get F.HLK.INSEQ_V.valid).testBit m = true ∧ s.get (mbSeq R.HLK.INSEQ m) = seq
    let ours : List Nat := [R.HLK.STAT, R.HLK.CNT0, R.HLK.CNT1, R.HLK.CNT2, R.HLK.LASTWR, R.HLK.HOSTIRQ, R.HDR.IRQ_RAW + pageBase pageHLK]
    let more (f : Fld) (t : State) : Prop := t.get f = satAdd f.max (s.get f) 1
    (s.mbPosted m = false → s.mbDesc m g = (s, none)) ∧
    (∀ d, s.mbPosted m = true → s.trl.shown.find? (fun e => decide (e.1 = n)) = some (n, d) →
      s.mbDesc m g = (s, some { d with back := if g = .ok then d.back else g })) ∧
    (∀ v d, s.mbPosted m = true → s.trl.shown.find? (fun e => decide (e.1 = n)) = none → (s.slotTo [] n).fetchDesc n (s.cidx n) g = (v, some d) →
      v.hostJudge n d = rcOK → s.mbDesc m g = ({ v with trl := { v.trl with shown := v.trl.shown ++ [(n, d)] } }, some d)) ∧
    (∀ d, d.dirIn = s.mbOut m → s.hostJudge n d = rcRANGE) ∧
    (s.hlkServes = false → ends s) ∧
    (s.hlkServes = true → ignored → ends (x.inc F.HLK.CNT1.bad_frame).settle) ∧
    (s.hlkServes = true → ¬ ignored → body ≠ [] →
      (line1 → ∃ t, ends t ∧ tells t rcRANGE false ∧ s.changesOnly t ours) ∧
      (¬ line1 → ¬ whole → ∃ t, ends t ∧ tells t rcABORTED false ∧ (∀ k, k < 8 → t.get (mbSeq R.HLK.INSEQ k) = s.get (mbSeq R.HLK.INSEQ k))) ∧
      (¬ line1 → whole → ¬ crcOk → ∃ t, ends t ∧ (∀ k, k < 8 → t.get (mbSeq R.HLK.INSEQ k) = s.get (mbSeq R.HLK.INSEQ k)) ∧
        ((tells t rcCRC false ∧ t.cidx n = (x.mbDesc m g).1.cidx n) ∨ (tells t rcABORTED false ∧ (x.mbDesc m g).2.isSome = true))) ∧
      (¬ line1 → whole → crcOk → known → ∃ t, ends t ∧ tells t rcOK true ∧ more F.HLK.CNT2.dup t ∧ s.changesOnly t ours) ∧
      (¬ line1 → whole → crcOk → ¬ known →
        (∀ u, x.mbDesc m g = (u, none) → ∃ t, ends t ∧ tells t rcREFUSED_QUOTA false ∧ more F.HLK.CNT1.quota t ∧ t.mem = u.mem) ∧
        (∀ u d, x.mbDesc m g = (u, some d) → d.len < len → ∃ t, ends t ∧ (tells t rcBOUNDS false ∨ tells t rcABORTED false) ∧
          (∀ k, k < 8 → t.get (mbSeq R.HLK.INSEQ k) = s.get (mbSeq R.HLK.INSEQ k))) ∧
        (∀ u d w k, x.mbDesc m g = (u, some d) → len ≤ d.len →
          State.dmaWriteLen .host (u.ringWorld n) g (len + 1) u d.w0 ((body.drop 4).take len) = (w, k) →
          (k = len → ∃ t, ends t ∧ tells t rcOK false ∧ t.get (mbSeq R.HLK.INSEQ m) = seq ∧ (t.get F.HLK.INSEQ_V.valid).testBit m = true ∧
            t.on (eventBit pageHLK 0) = true ∧ t.mem = (w.completeDesc n d rcOK len 0 d.w3 seq).mem ∧
            t.cidx n = (w.completeDesc n d rcOK len 0 d.w3 seq).cidx n) ∧
          (k ≠ len → ∃ t, ends t ∧ tells t rcABORTED false ∧ t.mem = (w.completeDesc n d rcABORTED k 0 d.w3 d.cbyte).mem))))) ∧
  (∀ (s : State) (ini : Ini) (quad mode3 : Bool) (body : List Byte) (missing : List Nat) (g : Integ),
    let x := (s.putB F.HLK.STAT.mode3 mode3).inc F.HLK.CNT0.frames
    let m := frameByte body 0
    let n := 56 + m
    let seq := frameByte body 1
    let ignored : Prop := (quad = true ∧ s.on F.HLK.CTRL.quad_en = false) ∨ 7 < m
    let sent (op : Byte) (b : List Byte) (late : Bool) (t : State) : Prop :=
      let c := crc16 (op :: BitVec.ofNat 8 m :: b)
      t.resp = ⟨b ++ bytesBE 2 (if late then c ^^^ 0xFFFF else c), 0⟩
    let opRead : Byte := if quad then 0x83 else 0x03
    let opAck : Byte := if quad then 0x84 else 0x04
    let reads (t : State) : Prop := exec (.msgRead quad mode3 body missing g) s = .next t
    let acks (t : State) : Prop := exec (.msgAck quad mode3 body) s = .next t
    let clears (t : State) : Prop := exec (.irqClr mode3 body) s = .next t
    let code (t : State) (c : Nat) : Prop := t.get F.HLK.LASTRD.code = c ∧
      (c ≠ rcOK → t.on (F.HLK.HOSTIRQ.raw.bit 2) = true ∧ t.on (eventBit pageHLK 2) = true)
    let ours : List Nat := [R.HLK.STAT, R.HLK.CNT0, R.HLK.CNT2, R.HLK.LASTRD, R.HLK.HOSTIRQ, R.HDR.IRQ_RAW + pageBase pageHLK]
    let more (f : Fld) (t : State) : Prop := t.get f = satAdd f.max (s.get f) 1
    let next := (s.get (mbSeq R.HLK.OUTSEQ m) + 1) % 256
    let ackOk : Prop := 4 ≤ body.length ∧ crc16 (opAck :: body.take 2) = frameNum body 2 2
    let clrOk : Prop := 3 ≤ body.length ∧ crc16 (0x05 :: body.take 1) = frameNum body 1 2
    (s.hlkServes = true →
      (∃ t b, exec (.status 0x01 mode3) s = .next t ∧ t.resp = ⟨b ++ bytesBE 2 (crc16 (0x01 :: b)), 0⟩ ∧ b.length = 16 ∧
        (b.getD 0 0).getLsbD 7 = false ∧ (b.getD 0 0).getLsbD 0 = s.on F.HLK.CTRL.ready ∧ (b.getD 0 0).getLsbD 1 = s.on F.HLK.CTRL.quad_en ∧
        (b.getD 0 0).getLsbD 2 = s.hlkUnderrun ∧ (b.getD 1 0).toNat = s.get F.HLK.CTRL.session ∧ (b.getD 2 0).toNat = s.get F.HLK.LASTWR.code ∧
        (b.getD 4 0).toNat = s.get F.HLK.LASTWR.seq ∧ (b.getD 8 0).toNat = s.get F.HLK.LASTRD.code ∧
        (∀ k, k < 8 → (b.getD 5 0).getLsbD k = (!s.mbOut k && s.mbPosted k) ∧ (b.getD 6 0).getLsbD k = (s.mbOut k && s.mbPosted k)) ∧
        (b.drop 9).all (· = 0) = true ∧ s.changesOnly t [R.HLK.STAT, R.HLK.CNT0]) ∧
      (∀ op : Byte, op.toNat ∉ [1, 2, 0x82, 3, 0x83, 4, 0x84, 5] → exec (.status op mode3) s = .next (x.inc F.HLK.CNT1.bad_frame)) ∧
      (ignored → reads (x.inc F.HLK.CNT1.bad_frame).settle ∧ acks (x.inc F.HLK.CNT1.bad_frame).settle) ∧
      (¬ ignored → body ≠ [] → s.mbOut m = false → ∃ t, reads t ∧ sent opRead [0, 0, 0] false t ∧ code t rcRANGE ∧ s.changesOnly { t with hlkUnderrun := s.hlkUnderrun } ours) ∧
      (∀ u, ¬ ignored → body ≠ [] → s.mbOut m = true →
        let y : State := { x with hlkUnderrun := false }.put F.HLK.LASTRD.mbox m
        (y.mbDesc m g = (u, none) → ∃ t, reads t ∧ sent opRead [0, 0, 0] false t ∧ code t rcABSENT) ∧
        (∀ d v b, y.mbDesc m g = (u, some d) → u.dmaLoad .host (u.ringWorld n) g d.w0 d.len = (v, b, true) →
          let head := bytesBE 1 next ++ bytesBE 2 d.len
          let missing := if u.dmaStalls d.w0 d.len then numsFrom d.len 0 else missing
          ((∀ k ∈ missing, d.len ≤ k) → ∃ t, reads t ∧ sent opRead (head ++ b) false t ∧ code t rcOK ∧ t.hlkUnderrun = false ∧
            t.cidx n = u.cidx n ∧ t.mem = v.mem ∧ t.get (mbSeq R.HLK.OUTSEQ m) = s.get (mbSeq R.HLK.OUTSEQ m)) ∧
          ((∃ k ∈ missing, k < d.len) → ∃ t c, reads t ∧ sent opRead (head ++ c) true t ∧ c.length = d.len ∧
            (∀ k, k < d.len → c.getD k 0 = if k ∈ missing then 0xFF else b.getD k 0) ∧ t.hlkUnderrun = true ∧ more F.HLK.CNT2.underrun t ∧
            t.on (F.HLK.HOSTIRQ.raw.bit 2) = true ∧ t.cidx n = u.cidx n)) ∧
        (∀ d v b, y.mbDesc m g = (u, some d) → u.dmaLoad .host (u.ringWorld n) g d.w0 d.len = (v, b, false) →
          ∃ t, reads t ∧ code t rcABORTED ∧ t.mem = (v.completeDesc n d rcABORTED b.length 0 d.w3 d.cbyte).mem ∧
            sent opRead (bytesBE 1 next ++ bytesBE 2 d.len ++ b ++ List.replicate (d.len - b.length) 0xFF) true t)) ∧
      (¬ ignored → ¬ ackOk → ∃ t, acks t ∧ code t rcCRC ∧ s.changesOnly t ours) ∧
      (∀ u d, ¬ ignored → ackOk → s.mbOut m = true → (x.put F.HLK.LASTRD.mbox m).mbDesc m .ok = (u, some d) → seq = next →
        let y := u.completeDesc n d rcOK d.len 0 d.w3 seq
        ∃ t, acks t ∧ code t rcOK ∧ t.get (mbSeq R.HLK.OUTSEQ m) = seq ∧ t.on (eventBit pageHLK 1) = true ∧ t.mem = y.mem ∧ t.cidx n = y.cidx n) ∧
      (∀ u o, ¬ ignored → ackOk → s.mbOut m = true → (x.put F.HLK.LASTRD.mbox m).mbDesc m .ok = (u, o) → o = none ∨ seq ≠ next →
        ∃ t, acks t ∧ code t rcSTATE ∧ more F.HLK.CNT2.state t ∧ t.mem = u.mem) ∧
      (¬ ignored → ackOk → s.mbOut m = false → ∃ t, acks t ∧ code t rcSTATE ∧ more F.HLK.CNT2.state t ∧ s.changesOnly t ours) ∧
      (¬ clrOk → ∃ t, clears t ∧ code t rcCRC ∧ t.get F.HLK.HOSTIRQ.raw = s.get F.HLK.HOSTIRQ.raw ||| 4 ∧ s.changesOnly t ours) ∧
      (clrOk → ∃ t, clears t ∧ code t rcOK ∧ s.changesOnly t ours ∧
        ∀ k, k < 4 → (t.get F.HLK.HOSTIRQ.raw).testBit k = ((s.get F.HLK.HOSTIRQ.raw).testBit k && !(decide (k ≠ 0) && m.testBit k)))) ∧
    (s.hlkServes = false → exec (.status 0x01 mode3) s = .next s ∧ reads s ∧ acks s ∧ clears s) ∧
    (s.reaches ini R.HLK.DOORBELL → exec (.doorbell ini) s = (s.put (F.HLK.HOSTIRQ.raw.bit 1) 1).done))

/-- Write transactions of the management port (R519 to R523, R525, R532, R533): the code of R523, the position and LASTWR that the transaction
leaves, and what an accepted one applies. An address match is wake event 2 (R534). Read transactions of the management port (R522 to
R527): the position bytes, the count that PEC allows and the PEC byte, LASTRD, the bytes of windows 0, 2, 3 and 4, the port's own latches,
and the words of a page window, which never fault on the page. -/
def Obligations.ManagementTransactions : Prop :=
  (∀ (s : State) (w p : Byte) (data : List Byte) (pec : Byte) (v : Word) (ini : Ini),
    let y := s.wakeEvent 4
    let n := data.length
    let after := (p.toNat + n) % 256
    let left (t : State) (w code after : Nat) : State :=
      { t with mgp := { t.mgp with window := w, pointer := after, lastWr := code + 256 * w + 65536 * after } }
    let does (b : List Byte) (t : State) : Prop := exec (.mgpWrite b) s = .next t.settle
    let body := w :: p :: data
    let z (code : Nat) : State := left y w.toNat code after
    let code := y.mgpRules w.toNat p.toNat data
    let bytes := if s.mgpPec then body ++ [pec] else body
    let good : Prop := s.mgpPec = true → pec.toNat = crc8 (BitVec.ofNat 8 s.mgpAddrW :: body)
    let whole := mgpBounds w.toNat p.toNat n
    let full := s.on F.MGP.MBIN_CTL.full
    let len := v.toNat % 256
    let posts (t : State) : Prop := exec (.inPost v) s = .next t.settle
    (s.mgpServes = false → exec (.mgpWrite body) s = .next s ∧ exec .mgpTimeout s = .next s ∧ exec (.inPost v) s = .next s ∧
      exec (.outAck v) s = .next s ∧ exec (.alertClr none v) s = .next s) ∧
    (s.mgpServes = true → exec .mgpTimeout s = .next (s.inc F.MGP.CNT.timeouts)) ∧
    (s.mgpServes = true → n ≤ 32 →
      (¬ good → does bytes ((z rcCRC).inc F.MGP.CNT.pec_err)) ∧
      (good → mgpWindow w.toNat = false → does bytes ((z rcRANGE).inc F.MGP.CNT.bad_window)) ∧
      (good → mgpWindow w.toNat = true → whole = false → does bytes (z rcBOUNDS)) ∧
      (good → mgpWindow w.toNat = true → whole = true → code ≠ rcOK → does bytes (z code)) ∧
      (good → mgpWindow w.toNat = true → whole = true → code = rcOK → does bytes ((z rcOK).mgpApply w.toNat p.toNat data))) ∧
    (s.mgpServes = true → s.mgpPec = false → mgpWindow w.toNat = true → does [w] (left y w.toNat rcOK 0)) ∧
    (s.mgpServes = true → does [] y) ∧
    (whole = true ↔ ∀ k, k < n → ∃ o, o = (p.toNat + k) % 256 ∧ mgpWritable w.toNat o = true ∧
      ((w = 3 ∧ o < 0x40) ∨ ∀ i, i < 4 → ∃ j, j < n ∧ o / 4 * 4 + i = (p.toNat + j) % 256)) ∧
    (p.toNat % 4 = 0 → mgpByteWise w.toNat p.toNat = false → s.mgpApply w.toNat p.toNat (bytesLE 4 v.toNat) = s.mgpStore w.toNat p.toNat v.toNat) ∧
    (s.mgpStore 0 0x10 v.toNat = s.put F.MGP.CFG.pec (v.toNat % 2) ∧
      s.mgpStore 2 0x10 v.toNat = { s with mgp := { s.mgp with cmd := v.toNat } } ∧ s.mgpStore 2 0x24 v.toNat = s.mgpGo ∧
      s.mgpStore 4 8 v.toNat = s.put F.MGP.ALERT.en (len ||| 1)) ∧
    (s.mgpServes = true →
      (full = true → posts (left y 3 rcBUSY 0x44)) ∧
      (full = false → len = 0 ∨ 64 < len → posts (left y 3 rcRANGE 0x44)) ∧
      (full = false → 1 ≤ len → len ≤ 64 →
        posts ((((left y 3 rcOK 0x44).put F.MGP.MBIN_CTL.full 1).put F.MGP.MBIN_CTL.len len).irq pageMGP 0)) ∧
      (s.on F.MGP.MBOUT_CTL.post = true →
        exec (.outAck v) s = .next (((left y 3 rcOK 0xC8).put F.MGP.MBOUT_CTL.post 0).irq pageMGP 1).settle) ∧
      (s.on F.MGP.MBOUT_CTL.post = false → exec (.outAck v) s = .next (left y 3 rcOK 0xC8).settle) ∧
      exec (.alertClr none v) s = .next ((left y 4 rcOK 8).put F.MGP.ALERT.alert (s.get F.MGP.ALERT.alert &&& (0xFF ^^^ len))).settle) ∧
    (s.reaches ini R.MGP.ALERT → s.unhindered ini pageMGP →
      exec (.alertClr (some ini) v) s = (s.setReg R.MGP.ALERT (s.reg R.MGP.ALERT &&& ~~~(v &&& 0xFF))).done)) ∧
  (∀ (s : State) (pos : List Byte) (k : Nat),
    let y := (s.wakeEvent 4).mgpPosition (pos.take 3)
    let w := y.mgp.window
    let p := y.mgp.pointer
    let n := if s.mgpPec then min k (mgpCount (pos.take 3)) else k
    let mark (t : State) (c : Nat) : State := { t with mgp := { t.mgp with lastRd := c + 256 * w } }
    let head := (if pos = [] then [] else BitVec.ofNat 8 s.mgpAddrW :: pos.take 3) ++ [BitVec.ofNat 8 (s.mgpAddrW + 1)]
    let start := if mgpWindow w then mark y rcOK else (mark y rcRANGE).inc F.MGP.CNT.bad_window
    let u := (State.mgpBytes n none start).1
    let bs := (State.mgpBytes n none start).2
    let plain (t : State) (o : Nat) : Word := if w = 0 then t.mgpWin0 o else if w = 2 then t.mgpWin2 o else if w = 3 then t.mgpWin3 o else t.mgpWin4 o
    let page := w - 0x20
    (s.mgpServes = true → exec (.mgpRead pos k) s = .next
      ((u.answer (bs ++ if n < k then BitVec.ofNat 8 (crc8 (head ++ bs)) :: List.replicate (k - n - 1) 0xFF else []) 0).settle)) ∧
    (s.mgpServes = false → exec (.mgpRead pos k) s = .next s) ∧
    (p < 256 → u.mgp.pointer = (p + n) % 256 ∧ u.mgp.window = w ∧ bs.length = n) ∧
    (∀ a b c : Byte, (pos = [a] → w = a.toNat ∧ p = 0) ∧ (pos = [a, b, c] → w = a.toNat ∧ p = b.toNat) ∧
      (pos = [a, b, c] → mgpCount (pos.take 3) = (if c = 0 then 32 else min c.toNat 32)) ∧ (pos = [a, b] → mgpCount (pos.take 3) = 32)) ∧
    (p < 256 → w = 0 ∨ w = 2 ∨ w = 3 ∨ w = 4 → ∀ j, j < n →
      let o := (p + j) % 256
      (bs.getD j 0).toNat = ((plain start (o / 4 * 4)).toNat / 2 ^ (8 * (o % 4))) % 256) ∧
    (mgpWindow w = false → (∀ j, j < n → bs.getD j 0 = 0xFF) ∧ u.mgp.lastRd = rcRANGE + 256 * w ∧ u.regs = start.regs) ∧
    (w = 1 → p % 4 = 0 → n = 4 →
      (p = 0x40 → u.mgp.timeHi = s.aon.time / 2 ^ 32 ∧ natLE bs = s.aon.time % 2 ^ 32 ∧ u.aon.timeLatch = y.aon.timeLatch) ∧
      (p = 0x44 → natLE bs = y.mgp.timeHi % 2 ^ 32) ∧
      (p = 0x48 → u.mgp.emHi = y.aon.emCount / 2 ^ 32 % 65536 ∧ natLE bs = y.aon.emCount % 2 ^ 32 ∧ u.aon.emLatch = y.aon.emLatch)) ∧
    (0x20 ≤ w → w < 0x40 → p % 4 = 0 → p < 0xCC → n = 4 →
      let on : Prop := pageDomain page = 0 ∨ y.pdOn (pageDomain page) = true
      let world := if 0 < y.mgp.session then World.glass else World.field
      (on → y.mayRead page world = true → bs = bytesLE 4 (start.regValue 0 (pageBase page + p)).toNat ∧ u.regs = start.regs) ∧
      (on → y.mayRead page world = false → bs = [0, 0, 0, 0] ∧ u.mgp.lastRd = rcAUTH + 256 * w ∧
        u.get F.MGP.CNT.refused = satAdd F.MGP.CNT.refused.max (start.get F.MGP.CNT.refused) 1 ∧
        ∀ a, a ≠ R.MGP.CNT → u.reg a = start.reg a) ∧
      (¬ on → bs = [0, 0, 0, 0] ∧ u.mgp.lastRd = rcABSENT + 256 * w ∧ ∀ a, a ≠ R.MGP.CNT → u.reg a = start.reg a)))

/-- The management port's authorised commands (R528 to R530): how a GO is judged, what every result leaves, what the five commands do, and the
ends of the session and of the back-off. RESULT.busy alone is set while a command computes (the model's reading; log 67). The firmware
side of the management port (R531 to R533) and controller mode (R535 to R537): the key, the mailbox, the firmware alert, and how a
controller transfer starts, is tried again and ends. What a refused post or length leaves is the model's reading (log 67). -/
def Obligations.ManagementCommands : Prop :=
  (∀ (s : State) (cmd code w : Nat) (late : Bool),
    let t := s.goEnd cmd code late
    let fails := s.get resFails
    let wait (n : Nat) : Nat := if n < 4 then s.mgp.backoff else 32768 * min 1024 (2 ^ (n - 3))
    let c := s.mgp.cmd % 256
    let arg := s.mgp.cmd / 256
    let known : Prop := (c = 4 ∧ 1 ≤ arg ∧ arg ≤ 3600) ∨ ((c = 1 ∨ c = 2 ∨ c = 3 ∨ c = 5) ∧ arg = 0)
    let mac := aesCmac (s.regBytes R.MGP.MKEY 4) (s.regBytes R.MGP.MNONCE 2 ++ s.regBytes R.MGP.MSEQ 1 ++ bytesLE 4 s.mgp.chalTime ++ bytesLE 4 s.mgp.cmd)
    let runs (k : Nat) (ok : Bool) : Prop := s.mgp.run = some (w, ok) ∧ w % 256 = k
    let ends (i : Instr) (t : State) : Prop := exec i s = .next t.settle
    let busyLc : Prop := s.lcBusy = true ∨ s.on F.LC.ADV_STAT.busy = true
    (code < 256 → cmd < 256 → t.get resCode = code ∧ t.get resCmd = cmd ∧ t.get resBusy = 0 ∧ t.reg R.MGP.MSEQ = s.reg R.MGP.MSEQ + 1 ∧
      t.mgp.chalTime = s.aon.time % 2 ^ 32 ∧ t.mgp.run = none ∧ t.on (eventBit pageMGP 2) = true ∧
      (code = rcAUTH → t.get resFails = min 255 (fails + 1) ∧ t.mgp.backoff = wait (min 255 (fails + 1)) ∧
        t.on (F.MGP.ALERT.alert.bit 7) = true ∧ t.on (eventBit pageMGP 4) = true) ∧
      (code ≠ rcAUTH → t.get resFails = (if late then 0 else fails) ∧ t.mgp.backoff = s.mgp.backoff)) ∧
    (¬ known → s.mgpGo = s.goEnd c rcRANGE false) ∧
    (known → 0 < s.mgp.backoff → s.mgpGo = s.goEnd c rcLOCKED false) ∧
    (known → s.mgp.backoff = 0 → s.on F.MGP.STAT.key_loaded = false → s.mgpGo = s.goEnd c rcABSENT false) ∧
    (known → s.mgp.backoff = 0 → s.on F.MGP.STAT.key_loaded = true →
      s.mgpGo = { s.put resBusy 1 with mgp := { s.mgp with run := some (s.mgp.cmd, decide (c = 5 ∨ s.mgp.mac = mac)) } }) ∧
    (runs 1 false → ends .sysReset (s.goEnd 1 rcAUTH true)) ∧ (runs 2 false → ends .rstpinMask (s.goEnd 2 rcAUTH true)) ∧
    (runs 3 false → ends .retire (s.goEnd 3 rcAUTH true)) ∧ (runs 4 false → ends .openSession (s.goEnd 4 rcAUTH true)) ∧
    (runs 1 true → ends .sysReset ((s.goEnd 1 rcOK true).resetMany [⟨0x0D, none⟩])) ∧
    (runs 2 true → s.on F.SYS.RSTPIN.stuck = false → ends .rstpinMask (s.goEnd 2 rcSTATE true)) ∧
    (runs 2 true → s.on F.SYS.RSTPIN.stuck = true → ∃ t, exec .rstpinMask s = .next t ∧ t.on F.SYS.RSTPIN.masked = true ∧
      t.on F.SYS.RSTPIN.held = false ∧ t.get resCode = rcOK ∧ (s.on F.SYS.RSTPIN.held = true → s.aon.testHigh = false → t.core0.started = true)) ∧
    (runs 3 true → s.get F.LC.STATE.state = 5 → ends .retire (s.goEnd 3 rcSTATE true)) ∧
    (runs 3 true → s.get F.LC.STATE.state ≠ 5 → busyLc → ends .retire (s.goEnd 3 rcBUSY true)) ∧
    (runs 3 true → s.get F.LC.STATE.state ≠ 5 → ¬ busyLc →
      ends .retire { (s.goEnd 3 rcOK true) with lc := { s.lc with xfer := some (5, 4) } }) ∧
    (runs 4 true → ∃ t, exec .openSession s = .next t ∧ t.mgp.session = 32768 * (w / 256) ∧ t.get resCode = rcOK) ∧
    (runs 5 true → ∃ t, exec .closeSession s = .next t ∧ t.mgp.session = 0 ∧ t.get resCode = rcOK) ∧
    (s.mgp.run = none → ∀ i ∈ [Instr.sysReset, .rstpinMask, .retire, .openSession, .closeSession], ends i s) ∧
    exec .mgpSessionExpire s = .next { s with mgp := { s.mgp with session := if s.mgp.session ≤ 1 then 0 else s.mgp.session } } ∧
    exec .mgpBackoffEnd s = .next { s with mgp := { s.mgp with backoff := if s.mgp.backoff ≤ 1 then 0 else s.mgp.backoff } }) ∧
  (∀ (s : State) (ini : Ini) (v : Word) (free : Bool) (len : Byte) (w : Nat) (got : List Byte) (pec : Byte) (acked : Fin 33),
    let may (a : Nat) : Prop := s.reaches ini a ∧ s.unhindered ini pageMGP
    let wl := F.MGP.MC_CMD.wlen.get v
    let rl := F.MGP.MC_CMD.rlen.get v
    let res := R.MGP.MC_RES
    let fin (t : State) (code : Nat) : State :=
      ((({ t with mgp := { t.mgp with mc := none } }).put F.MGP.MC_RES.code code).put F.MGP.MC_RES.busy 0).irq pageMGP 3
    let goes (t : State) : Prop := exec (.mcGo ini v free) s = .next t ∧ t.get F.MGP.MC_CMD.addr = F.MGP.MC_CMD.addr.get v ∧
      t.get F.MGP.MC_CMD.wlen = wl ∧ t.get F.MGP.MC_CMD.rlen = rl ∧ s.changesOnly { t with mgp := s.mgp } [R.MGP.MC_CMD, res]
    let ends (e : McEnd) (t : State) : Prop := exec (.mcDone e) s = .next t.settle
    let c := BitVec.ofNat 32 w
    let n := F.MGP.MC_CMD.rlen.get c
    let out (v : Word) : List Byte :=
      let a := 2 * F.MGP.MC_CMD.addr.get v
      let wl := F.MGP.MC_CMD.wlen.get v
      let rl := F.MGP.MC_CMD.rlen.get v
      let b := (if wl = 0 ∧ rl ≠ 0 then [] else BitVec.ofNat 8 a :: (s.regBytes R.MGP.MC_TX 8).take wl) ++ (if rl = 0 then [] else [BitVec.ofNat 8 (a + 1)])
      b ++ (if s.on F.MGP.MC_CFG.pec = true ∧ rl = 0 ∧ wl ≠ 0 then [BitVec.ofNat 8 (crc8 b)] else [])
    let rxOk (t : State) (l : List Byte) : Prop := ∀ i, i < l.length → i < 32 →
      t.get ⟨R.MGP.MC_RX + 4 * (i / 4), 8 * (i % 4) + 7, 8 * (i % 4)⟩ = (l.getD i 0).toNat
    (may (R.MGP.MKEY + 12) → exec (.mkeyLoad ini v) s = ((s.setReg (R.MGP.MKEY + 12) v).put F.MGP.STAT.key_loaded 1).done) ∧
    (may R.MGP.MBIN_CTL → exec (.take ini) s = ((s.put F.MGP.MBIN_CTL.full 0).put F.MGP.MBIN_CTL.len 0).done) ∧
    (may R.MGP.MBOUT_CTL → s.on F.MGP.MBOUT_CTL.post = true → exec (.mboutPost ini len) s = s.done) ∧
    (may R.MGP.MBOUT_CTL → s.on F.MGP.MBOUT_CTL.post = false → ∃ t, exec (.mboutPost ini len) s = .next t ∧ t.on F.MGP.MBOUT_CTL.post = true ∧
      t.get F.MGP.MBOUT_CTL.len = (if len = 0 ∨ 64 < len.toNat then s.get F.MGP.MBOUT_CTL.len else len.toNat) ∧
      s.changesOnly t [R.MGP.MBOUT_CTL]) ∧
    (may R.MGP.ALERT_FW → exec (.alertFw ini) s = (s.put (F.MGP.ALERT.alert.bit 6) 1).done) ∧
    (may R.MGP.MC_CMD → F.MGP.MC_CMD.go.get v = 0 → ∃ t, goes t ∧ t.reg res = s.reg res ∧ t.mgp = s.mgp) ∧
    (may R.MGP.MC_CMD → F.MGP.MC_CMD.go.get v = 1 →
      (32 < wl ∨ 32 < rl → ∃ t, goes t ∧ t.get F.MGP.MC_RES.code = rcRANGE ∧ t.mgp = s.mgp) ∧
      (wl ≤ 32 → rl ≤ 32 → s.mgp.mc.isSome = true → ∃ t, goes t ∧ t.get F.MGP.MC_RES.code = rcSTATE ∧ t.mgp = s.mgp) ∧
      (wl ≤ 32 → rl ≤ 32 → s.mgp.mc = none → ∃ t, goes t ∧ t.mgp = { s.mgp with mc := some (free, v.toNat) } ∧
        t.on F.MGP.MC_RES.busy = true ∧ t.get F.MGP.MC_RES.arb_lost = 0 ∧ (free = true → t.resp = ⟨out v, 0⟩))) ∧
    (s.mgp.mc = some (false, w) → exec .mcBusFree s = .next (({ s with mgp := { s.mgp with mc := some (true, w) } }).answer (out c) 0)) ∧
    (s.mgp.mc = some (true, w) →
      let x := s.inc F.MGP.MC_RES.arb_lost
      (x.get F.MGP.MC_RES.arb_lost ≤ s.get F.MGP.MC_CFG.retries → exec .mcRetry s = .next x) ∧
      (s.get F.MGP.MC_CFG.retries < x.get F.MGP.MC_RES.arb_lost → exec .mcRetry s = .next (fin x rcBUSY).settle)) ∧
    (s.mgp.mc = some (true, w) →
      ends (.absent acked) (fin (s.put F.MGP.MC_RES.wdone acked) rcABSENT) ∧ ends (.nack acked) (fin (s.put F.MGP.MC_RES.wdone acked) rcABORTED) ∧
      (got.length = n → n ≤ 32 →
        let bad : Prop := s.on F.MGP.MC_CFG.pec = true ∧ n ≠ 0 ∧ crc8 (s.mcBytes w got) ≠ pec.toNat
        ∃ t, exec (.mcDone (.complete got pec)) s = .next t ∧ (bad → t.get F.MGP.MC_RES.code = rcCRC) ∧
          (¬ bad → t.get F.MGP.MC_RES.code = rcOK) ∧ t.get F.MGP.MC_RES.rdone = n ∧ t.get F.MGP.MC_RES.wdone = F.MGP.MC_CMD.wlen.get c ∧
          t.get F.MGP.MC_RES.busy = 0 ∧ t.on (eventBit pageMGP 3) = true ∧ t.mgp = { s.mgp with mc := none } ∧ rxOk t got)) ∧
    (∀ b, s.mgp.mc = some (b, w) → n ≤ 32 → ∃ t, exec (.mcDone (.timeout acked got)) s = .next t ∧ t.get F.MGP.MC_RES.code = rcTIMEOUT ∧
      t.get F.MGP.MC_RES.wdone = acked ∧ t.get F.MGP.MC_RES.rdone = min n got.length ∧ t.mgp = { s.mgp with mc := none } ∧ rxOk t (got.take n)))

/-- The common trigger (R538 to R541): firmware's trigger and how events are merged, and what a firing leaves on every page: the pages that
take part capture their registers with the new sequence and a skew, a held or absent page keeps what it has. The skew while CK06 runs is
free (log 6). A monitor's sample (R542, R543): its bin, the extremes, the count and the sum, each saturating at all ones, where MON_SAT
says so first. -/
def Obligations.SnapshotsAndMonitors : Prop :=
  (∀ (s : State) (ini : Ini),
    let at_ (p r : Nat) : Nat := pageBase p + r
    let seq := (s.get F.SNAP.TRIG_STAT.seq + 1) % 65536
    let takes (p : Nat) : Prop := s.on (F.HDR.SNAP_CFG.en.onPage p) = true ∧ s.on (F.HDR.SNAP_CFG.held.onPage p) = false ∧
      (pageDomain p = 0 ∨ s.pdOn (pageDomain p) = true) ∧ (s.ck06 = true ∨ pageDomain p ≤ 1)
    let old (k : Nat) : Word := s.reg (at_ pageSNAP (R.HDR.SNAP + 4 * k))
    let fired (x t : State) (src : Nat) : Prop := t.get F.SNAP.TRIG_STAT.seq = seq ∧ t.aon.snapGap = true ∧ t.on (eventBit pageSNAP 0) = true ∧
      t.mem = s.mem ∧ ∃ (free : Nat) (skew : Nat → Nat), ∀ p, p < 32 →
        (takes p → (t.reg (at_ p R.HDR.SNAP_SEQ)).toNat = seq + 2 ^ 16 * skew p ∧ skew p ≤ 255 ∧ (s.ck06 = false → skew p = 255) ∧
          (s.ck06 = true → skew p ≤ 254) ∧ t.on (F.HDR.SNAP_CFG.held.onPage p) = s.on (F.HDR.SNAP_CFG.hold.onPage p) ∧
          (∀ e ∈ snapRegs p, t.reg (at_ p (R.HDR.SNAP + 4 * e.1)) = x.regValue free e.2)) ∧
        (¬ takes p → ∀ r, R.HDR.SNAP ≤ r → r < R.HDR.SNAP + 64 → t.reg (at_ p r) = s.reg (at_ p r)) ∧
        (¬ takes p → t.reg (at_ p R.HDR.SNAP_SEQ) = s.reg (at_ p R.HDR.SNAP_SEQ)) ∧
        (p = pageSNAP → takes p → old 0 = t.reg (at_ p (R.HDR.SNAP + 24)) ∧ old 1 = t.reg (at_ p (R.HDR.SNAP + 28)) ∧
          old 2 = t.reg (at_ p (R.HDR.SNAP + 32)) ∧ old 3 = t.reg (at_ p (R.HDR.SNAP + 36)) ∧
          (t.reg (at_ p R.HDR.SNAP)).toNat = s.aon.emCount % 2 ^ 32 ∧ (t.reg (at_ p (R.HDR.SNAP + 8))).toNat = s.aon.time % 2 ^ 32 ∧
          t.reg (at_ p (R.HDR.SNAP + 20)) = BitVec.ofNat 32 src)
    let free := s.reaches ini R.SNAP.TRIG
    let armed := s.on (Fld.bit ⟨R.SNAP.TRIG_EN, 10, 0⟩ 0) = true
    (free → armed → s.aon.snapGap = false →
      exec (.fire ini) s = State.done { s with aon := { s.aon with snapEvents := s.aon.snapEvents ||| 1 } }) ∧
    (free → armed → s.aon.snapGap = true → exec (.fire ini) s = State.done
      (({ s with aon := { s.aon with snapMerged := s.aon.snapMerged ||| 1 } }.inc F.SNAP.TRIG_STAT.merged).put F.SNAP.TRIG_STAT.pending 1)) ∧
    (s.aon.snapEvents ≠ 0 → s.aon.snapGap = false → ∃ x t, exec .snapFiring s = .next t ∧ t.aon.snapEvents = 0 ∧
      x = { ({ s with aon := { s.aon with snapEvents := 0 } }.put F.SNAP.TRIG_STAT.seq seq) with
        fresh := s.fresh + 64, aon := { s.aon with snapEvents := 0, snapGap := true } } ∧ fired x t s.aon.snapEvents) ∧
    (s.aon.snapEvents = 0 ∨ s.aon.snapGap = true → exec .snapFiring s = .next s.settle) ∧
    (s.aon.snapGap = true → s.aon.snapMerged = 0 → exec .snapMergedFire s = .next { s with aon := { s.aon with snapGap := false } }.settle) ∧
    (s.aon.snapGap = true → s.aon.snapMerged ≠ 0 → ∃ x t, exec .snapMergedFire s = .next t ∧ t.aon.snapMerged = 0 ∧
      t.get F.SNAP.TRIG_STAT.pending = 0 ∧ fired x t s.aon.snapMerged ∧
      x = { ((s.put F.SNAP.TRIG_STAT.pending 0).put F.SNAP.TRIG_STAT.seq seq) with
        fresh := s.fresh + 64, aon := { s.aon with snapGap := true, snapMerged := 0 } })) ∧
  (∀ (s : State) (p : Fin 32) (v : Word),
    let a (r : Nat) : Nat := pageBase p + r
    let sh := s.get (F.HDR.MON_SEL.bin_shift.onPage p)
    let low := s.get (F.HDR.MON_CTRL.bin_base.onPage p) * 2 ^ sh
    let x := v.toNat
    let k := if x < low + 2 ^ sh then 0 else if low + 15 * 2 ^ sh ≤ x then 15 else (x - low) / 2 ^ sh
    let was (r : Nat) : Nat := (s.reg (a r)).toNat
    let runs : Prop := (pageDomain p = 0 ∨ s.pdOn (pageDomain p) = true) ∧ s.on (F.HDR.MON_CTRL.run.onPage p) = true
    let sums (t : State) (r n : Nat) : Prop := (t.reg (a r)).toNat = min 0xFFFFFFFF (was r + n) ∧
      (was r < 0xFFFFFFFF → 0xFFFFFFFF ≤ was r + n → t.on (F.SNAP.MON_SAT.sat.bit p) = true ∧ t.on (eventBit pageSNAP 1) = true)
    (runs → ∃ t, exec (.monSample p v) s = .next t ∧ sums t (R.HDR.MON_BIN + 4 * k) 1 ∧ sums t R.HDR.MON_COUNT 1 ∧ sums t R.HDR.MON_SUM x ∧
      (t.reg (a R.HDR.MON_MIN)).toNat = min x (was R.HDR.MON_MIN) ∧ (t.reg (a R.HDR.MON_MAX)).toNat = max x (was R.HDR.MON_MAX) ∧
      s.changesOnly t [a (R.HDR.MON_BIN + 4 * k), a R.HDR.MON_COUNT, a R.HDR.MON_SUM, a R.HDR.MON_MIN, a R.HDR.MON_MAX, R.SNAP.MON_SAT,
        R.HDR.IRQ_RAW + pageBase pageSNAP]) ∧
    (¬ runs → exec (.monSample p v) s = .next s.settle))

/-- The event log and the trace (R545 to R551): what a log entry and a trace record look like in memory, the slot that firmware holds, the
queue's and the FIFO's ends, mode 1 before record 0, the LOST record, and the clear. In mode 1 a non-zero type byte of record 0 tells the
wrap (log 68). -/
def Obligations.LogAndTrace : Prop :=
  ∀ (s : State) (ini : Ini) (v : Word) (e : LogEntry) (es : List LogEntry) (r : TraceRec) (rs : List TraceRec) (passes : Fin 5),
    let slot := s.ldg.logSlot
    let a := 0x3001D000 + 16 * slot
    let i := s.get F.TRC.WPTR.next
    let b := 0x60000000 + 16 * i
    let held : Prop := s.on F.SNAP.LOG_CTRL.hold = true ∧ s.get F.SNAP.LOG_CTRL.hold_slot = slot
    let stamp (w : Word) (core : Nat) (world : World) : TraceRec :=
      ⟨0x30, core, worldCode world, w.toNat % 65536, w.toNat / 65536 % 65536, s.stampNow, s.aon.time⟩
    let logs : Prop := s.logQueue = e :: es ∧ s.pdOn 8 = true ∧ s.ldg.ready = true ∧ ∀ w, s.cloWait = some w → 1 < w.entries
    let waits (t : State) : Prop := t.cloWait = s.cloWait.map fun w => { w with entries := w.entries - 1 }
    let traces : Prop := s.trcFifo = r :: rs ∧ s.ck06 = true ∧ s.pdOn 13 = true ∧ s.on F.TRC.CTRL.en = true ∧ s.on F.TRC.STAT.clearing = false
    let stops : Prop := s.on F.TRC.CTRL.mode = true ∧ i = 0 ∧ s.byte 0x60000000 ≠ 0
    let queue (t : State) (l : List TraceRec) : Prop :=
      (s.trcLost = 0 → t.trcFifo = l) ∧ (s.trcLost ≠ 0 → t.trcLost = 0 ∧ ∃ n, t.trcFifo = l ++ [n] ∧ n.type = 3 ∧ n.arg = s.trcLost ∧ n.time = s.aon.time)
    let sw := s.pdOn 13 = true ∧ s.on F.TRC.CTRL.en = true
    (s.reaches ini R.SNAP.LOG_WR1 →
      (s.logQueue.length < 8 → exec (.logWr1 ini v) s =
        State.done { s with logQueue := s.logQueue ++ [⟨s.aon.time, 0x0F, s.get F.SNAP.LOG_WR0.code, v.toNat⟩] }) ∧
      (8 ≤ s.logQueue.length → exec (.logWr1 ini v) s =
        (({ (s.inc F.SNAP.LOG_STAT.lost) with logLoss := true }).irq pageSNAP 2).done)) ∧
    (logs → ¬ held → s.sparesUsed ≤ 253 → ∃ t, exec (.logWrite passes true) s = .next t ∧ t.logQueue = es ∧ waits t ∧ t.ldg.logSlot = (slot + 1) % 768 ∧
      t.ldg.logSeq = (s.ldg.logSeq + 1) % 65536 ∧ t.logLoss = false ∧ t.loadN a 6 = e.time % 2 ^ 48 ∧
      (t.byte (a + 6)).toNat = e.kind % 128 + (if s.logLoss then 128 else 0) ∧ (t.byte (a + 7)).toNat = e.code % 256 ∧
      t.loadN (a + 8) 4 = e.detail % 2 ^ 32 ∧ t.loadN (a + 12) 2 = s.ldg.logSeq % 65536 ∧ t.loadN (a + 14) 2 = 0x4C47 ∧
      ∀ x, x < a ∨ a + 16 ≤ x → t.byte x = s.byte x) ∧
    (∀ ok, logs → held → ∃ t, exec (.logWrite passes ok) s = .next t ∧ t.logQueue = es ∧ waits t ∧ t.ldg.logSlot = (slot + 1) % 768 ∧ t.logLoss = true ∧
      t.mem = s.mem ∧ t.get F.SNAP.LOG_STAT.lost = satAdd F.SNAP.LOG_STAT.lost.max (s.get F.SNAP.LOG_STAT.lost) 1 ∧ t.on (eventBit pageSNAP 2) = true) ∧
    (traces → ¬ stops → ∃ t, exec .traceRecordWrite s = .next t ∧ queue t rs ∧ (t.byte b).toNat = r.type % 256 ∧
      (t.byte (b + 1)).toNat = r.core % 2 + 2 * (r.world % 2) ∧ t.loadN (b + 2) 2 = r.arg % 65536 ∧ t.loadN (b + 4) 4 = r.stamp % 2 ^ 32 ∧
      t.loadN (b + 8) 6 = r.time % 2 ^ 48 ∧ t.loadN (b + 14) 2 = r.arg2 % 65536 ∧ t.get F.TRC.WPTR.next = (i + 1) % 512 ∧
      t.get F.TRC.WPTR.wraps = (if i = 511 ∧ s.on F.TRC.CTRL.mode = false
        then satAdd F.TRC.WPTR.wraps.max (s.get F.TRC.WPTR.wraps) 1 else s.get F.TRC.WPTR.wraps) ∧
      ∀ x, x < b ∨ b + 16 ≤ x → t.byte x = s.byte x) ∧
    (traces → stops → ∃ t, exec .traceRecordWrite s = .next t ∧ queue t rs ∧ t.mem = s.mem ∧ t.on F.TRC.STAT.full = true ∧
      t.get F.TRC.LOST.count = satAdd F.TRC.LOST.count.max (s.get F.TRC.LOST.count) 1 ∧ t.get F.TRC.WPTR.next = 0) ∧
    (s.reaches ini R.TRC.SWREC →
      let n := stamp v (iniTraceCore ini) (s.iniWorld ini)
      (sw → s.trcFifo.length < 16 → exec (.swrec ini v) s = State.done { s with trcFifo := s.trcFifo ++ [n] }) ∧
      (sw → 16 ≤ s.trcFifo.length → exec (.swrec ini v) s =
        State.done { ((s.inc F.TRC.LOST.count).irq pageTRC 1) with trcLost := min 65535 (s.trcLost + 1) }) ∧
      (¬ sw → exec (.swrec ini v) s = s.done)) ∧
    (s.reaches ini R.TRC.CTRL → s.unhindered ini pageTRC → ∃ t, exec (.trcClr ini v) s = .next t ∧ t.on F.TRC.STAT.clearing = true ∧
      (∀ f ∈ [F.TRC.CTRL.en, F.TRC.CTRL.mode, F.TRC.CTRL.retain, F.TRC.CTRL.glass, F.TRC.CTRL.irq, F.TRC.CTRL.trap, F.TRC.CTRL.col, F.TRC.CTRL.ring,
        F.TRC.CTRL.snap], t.get f = f.get v) ∧ s.changesOnly t [R.TRC.CTRL, R.TRC.STAT]) ∧
    (s.on F.TRC.STAT.clearing = true → ∃ t, exec .trcClrDone s = .next t ∧ t.reg R.TRC.WPTR = 0 ∧ t.reg R.TRC.LOST = 0 ∧ t.reg R.TRC.STAT = 0 ∧
      t.trcLost = 0 ∧ (∀ x, t.byte x = if 0x60000000 ≤ x ∧ x < 0x60002000 ∧ x % 16 = 0 then 0 else s.byte x))
end

