-- ==== Sys2Proof/Laws/Pages.lean ====
section
/-!
SUPPORT. What a write that reaches a register of a block, by a writer that nothing keeps from any field, comes to: the block's own action
on the write with every field as written (R31, R36, R580).
-/
namespace Sys2Proof.Machine
open Sys2Proof

/-- The value that a write of `v` leaves in the plain and write-1-to-clear fields of a register that held `old`. -/
def RegInfo.written (r : RegInfo) (old v : Word) : Word := ((old &&& ~~~r.rw) ||| (v &&& r.rw)) &&& ~~~(v &&& r.w1c)

/-- An unhindered write as its block sees it. -/
def State.wrOf (s : State) (ini : Ini) (r : RegInfo) (a : Nat) (v : Word) : Wr :=
  ⟨pageOf a, a % 0x1000, a, ini, .glass, v, s.reg a, r.written (s.reg a) v, v, false⟩

/-- The judgement of R580 lets a word write that reaches its register through. -/
theorem State.pageJudge_reaches (s : State) (ini : Ini) (a : Nat) (h : s.reaches ini a) (ha : a % 4 = 0) :
    s.pageJudge ini (s.iniWorld ini) true 4 a =
      match pageReg (pageOf a) (a % 0x1000) with
      | none => .hole (s.fault (pageOf a) causeHOLE (iniCode ini) (s.iniWorld ini) true a)
      | some r => .reg r := by
  obtain ⟨-, h1, h2, h3⟩ := h
  simp only [State.pageJudge, h1, h2, h3, ha]
  cases pageReg (pageOf a) (a % 0x1000) <;> simp

/-- The field rules keep nothing from an unhindered writer. -/
theorem State.fieldWrite_unhindered (s : State) (r : RegInfo) (ini : Ini) (a : Nat) (v : Word)
    (hl : s.locked (pageOf a) = false) : s.fieldWrite r ini .glass a v = (s, s.wrOf ini r a v) := by
  have e (x : Word) : x &&& 4294967295#32 = x := by
    have : (4294967295#32 : Word) = BitVec.allOnes 32 := by decide
    rw [this, BitVec.and_allOnes]
  simp [State.fieldWrite, hl, State.wrOf, RegInfo.written, e]

/-- An unhindered word write to a register of a block is the block's action on it. -/
theorem State.writeReg_unhindered (s : State) (ini : Ini) (a : Nat) (v : Word) (r : RegInfo) (h : s.reaches ini a)
    (hu : s.unhindered ini (pageOf a)) (hr : findReg (pageRegs (pageOf a)) (a % 0x1000) = some r) (ha : a % 4 = 0) :
    s.writeReg ini a v = (blockWrite (s.wrOf ini r a v) .clean s).done := by
  have hp : pageReg (pageOf a) (a % 0x1000) = some r := by rw [pageReg, hr]
  have hj := State.pageJudge_reaches s ini a h ha
  simp only [hp, hu.1] at hj
  simp only [State.writeReg, State.writeCmd, State.pageWriteBy, hu.1, hj, State.regWrite, hr,
    State.fieldWrite_unhindered s r ini a v hu.2, h.1, Option.isSome_some, if_true, Bool.false_eq_true, if_false, State.done]

end Sys2Proof.Machine
end

