-- ==== Sys2Proof/Tests/Slice0.lean ====
section
/-!
SUPPORT. Tests of single commands on small states, with results from the spec, and for every statement with hypotheses a named witness
that meets them: `witness_<name>` for `Obligations.<name>` (several where its clauses need several states).
-/
open Sys2Proof Sys2Proof.Machine
namespace Sys2Proof.Tests
set_option Elab.async false

/-- Every domain is on, and no MPU rule is active. -/
def up : State := ({ State.reset with regs := [], mpuActive := [] }).put F.PWR.DOMAIN.on 0x3FFF
def nx (o : Out) : State := match o with | .next t => t | _ => State.reset
def cap (base len perms : Nat) : CapReg := ⟨capBits base len perms 0 0 0, true⟩
def all : Nat := 0x51F
def ld : State := up.modCore .core0 fun k => (((k.cwr 1 (cap 0x20000000 0x1000 all)).wr 3 0x10).wr 4 0xDEADBEEF)

/-- What the fetch of core 0 leaves. -/
def f0 (s : State) : State := s.fetched .core0
/-- Domain `d` is still rising. -/
def rise (d : Nat) (s : State) : State := { s.put (F.PWR.DOMAIN.on.bit d) 0 with aon := { s.aon with seq := some (d, true) } }

/-! ### WellFormed: a term that each check refuses, beside one that it takes -/
def noReply : CartReply := ⟨none, [], []⟩
def badReply : CartReply := ⟨none, [⟨[1], [0, 0]⟩], []⟩
theorem test_wellFormed_refused : ∀ i ∈ [Instr.iogrpChange 0 0 badReply .ok, .gcbOvercurrent badReply .ok, .adcResult [] 0, .systemReset [⟨0x05, none⟩],
    .systemReset [⟨0x03, some .core0⟩], .systemReset [⟨0x05, some .core0⟩], .coreReset [], .coreReset [⟨0x03, none⟩], .prbRead 2 0 true,
    .clocheDetect [⟨3, true, true, 0, true, true, 0⟩, ⟨3, true, false, 0, true, true, 0⟩], .clocheBurst 0 [⟨3, false, false, 0, true, true, 0⟩],
    .descriptorService [4, 4] .ok [], .ethRxFrame 0 [] true false 0, .rlRxFrame [] true 0, .cartridgeRemove badReply .ok, .cartResponse noReply .ok,
    .cartTimeout badReply .ok, .msgRead false false [0] [1, 1] .ok, .mgpWrite [], .mgpRead [0, 0, 0, 0] 1, .mgpRead [] 0,
    .mcDone (.complete (List.replicate 33 0) 0), .mcDone (.timeout 0 (List.replicate 33 0))], i.wellFormed = false := by decide +kernel
theorem test_wellFormed_taken : ∀ i ∈ [Instr.iogrpChange 0 0 noReply .ok, .systemReset [⟨0x03, none⟩, ⟨0x05, some .core0⟩], .coreReset [⟨0x05, some .core1⟩],
    .adcResult [0] 0, .prbRead 1 0 true, .clocheDetect [⟨3, true, false, 0, true, true, 0⟩], .descriptorService [4, 5] .ok [], .mgpWrite [0], .mgpRead [0, 0, 0] 1,
    .cartResponse ⟨some 0, [⟨[1], [0]⟩], []⟩ .ok, .mcDone (.complete (List.replicate 32 0) 0), .reservedOpcode .core0 0x3F], i.wellFormed = true := by decide +kernel
/-- No row of the table gives bits, so no word spells a command. -/
theorem test_decode_none : decodeTableWord 32 0 = none ∧ State.reset.withFetchWord 32 0 = State.reset := by decide +kernel

/-- Words written out from the formats of R181 and the opcodes of R186 to R204; an all-zero word is illegal (R183). -/
theorem test_decodeWord :
    decodeWord .core0 0x08000000 = some (.addi .core0 0 0 0) ∧ decodeWord .core0 0 = none ∧
    decodeWord .core0 0b000001_00101_00011_00100_00000000000 = some (.add .core0 5 3 4) ∧
    decodeWord .core0 0b001000_00101_00011_000000000_10_00010 = some (.srai .core0 5 3 0 2) ∧
    decodeWord .core0 0b001010_00101_00011_00100_00110_000000 = some (.csel .core0 5 3 4 6) ∧
    decodeWord .core0 0b010010_00101_00011_001_1111111111111 = some (.lw .core0 5 3 1 0x1FFF .ok) ∧
    decodeWord .core0 0b100000_00011_00100_1111111111111111 = some (.beq .core0 3 4 0xFFFF) ∧
    decodeWord .core0 0b101000_11111_000000000000000000001 = some (.jal .core0 31 1) ∧
    decodeWord .core0 0b101010_11111_00101_010_110_1_000000011 = some (.cjalr .core0 31 5 2 6 true 3) ∧
    decodeWord .core0 0b110000_00001_00010_00011_00100_000010 = some (.cbound .core0 1 2 3 4) ∧
    decodeWord .core0 0b110001_00001_00011_00100_00000000000 = some (.chk .core0 1 3 4) ∧
    decodeWord .core0 0b111000_00101_00000_000000010010_0110 = some (.mfsr .core0 5 0x012) := by decide +kernel

/-- An instruction's result on `ld`, where w3 = 0x10, w4 = 0xDEADBEEF: rd is w5. -/
def r5 (i : Instr) (s : State := ld) : Word := ((nx (exec i s)).core .core0).rd 5

theorem ld_runs : ld.runs .core0 := (by unfold State.runs State.atBoundary; decide +kernel)

/-- HIBERNATE, with PD0 alone on: no clock but CK01 runs. -/
def asl : State := { up.put F.PWR.DOMAIN.on 1 with aon := { up.aon with pstate := 2 } }
theorem witness_StepRunsTheFrontCommand : ({ up with pending := [.fence .core0] }).pending = Instr.fence .core0 :: [] := by decide +kernel
theorem witness_IdleStep : up.pending = [] ∧ up.aon.pstate ≠ 4 ∧ up.ck06 = true ∧ up.aon.tickAcc + 512 < 15625 ∧
    ({ up with aon := { up.aon with pstate := 4 } }).pending = [] ∧
    15625 ≤ ({ up with aon := { up.aon with tickAcc := 15113 } }).aon.tickAcc + 512 ∧
    asl.pending = [] ∧ asl.aon.pstate ≠ 4 ∧ asl.ck06 = false := by decide +kernel
theorem test_idle : (nx (step up)).aon.tickAcc = 512 ∧ (nx (step { up with aon := { up.aon with tickAcc := 15113 } })).aon.time = 1 ∧
    (nx (step { up with aon := { up.aon with tickAcc := 15112 } })).aon.time = 0 ∧
    (nx (step asl)).aon.time = 1 ∧ (nx (step asl)).aon.tickAcc = 0 := by decide +kernel
theorem witness_StepKeepsInv : up.tablesWf = true ∧ (nx (step up)).tablesWf = true := by decide +kernel

theorem witness_IntegerResults : ld.runs .core0 ∧ (1 : BitVec 9) ≠ 0 := ⟨ld_runs, by decide⟩
theorem test_integer : r5 (.add .core0 5 4 4) = 0xBD5B7DDE ∧ r5 (.sub .core0 5 3 4) = 0x21524121 ∧ r5 (.sra .core0 5 4 3) = 0xFFFFDEAD ∧
    r5 (.srl .core0 5 4 3) = 0x0000DEAD ∧ r5 (.mulh .core0 5 4 4) = 0x04564F34 ∧ r5 (.mulhu .core0 5 4 4) = 0xC1B1CD12 ∧
    r5 (.mulhsu .core0 5 4 3) = 0xFFFFFFFD ∧ r5 (.divu .core0 5 4 3) = 0x0DEADBEE ∧ r5 (.div .core0 5 4 3) = 0xFDEADBEF ∧
    r5 (.rem .core0 5 4 3) = 0xFFFFFFFF ∧ r5 (.div .core0 5 4 0) = 0 ∧ r5 (.remu .core0 5 4 0) = 0xDEADBEEF ∧
    r5 (.slt .core0 5 4 3) = 1 ∧ r5 (.sltu .core0 5 4 3) = 0 := by decide +kernel
theorem test_immediate : r5 (.addi .core0 5 3 0xFFFF) = 0x0F ∧ r5 (.ori .core0 5 4 0x8000) = 0xDEADBEEF ∧ r5 (.andi .core0 5 4 0xF00F) = 0xB00F ∧
    r5 (.slti .core0 5 4 0) = 1 ∧ r5 (.sltiu .core0 5 3 0xFFFF) = 1 ∧ r5 (.srai .core0 5 4 0 4) = 0xFDEADBEE ∧
    r5 (.movhi .core0 5 0xBEEF) = 0xBEEF0000 ∧ r5 (.csel .core0 5 3 4 0) = 0xDEADBEEF ∧ r5 (.csel .core0 5 3 4 3) = 0x10 := by decide +kernel
/-- `ld` with a trap vector in the boot ROM. -/
def tv : State := ld.modCore .core0 fun k => k.setBank { k.bank with tvec := romCap }
theorem test_shift_illegal : ((nx (exec (.slli .core0 5 3 1 0) tv)).core .core0).bank.tcause = 0x000E0001 ∧
    ((nx (exec (.slli .core0 5 3 1 0) tv)).core .core0).bank.tval = 0x20A30080 := by decide +kernel

/-- Four bytes of Field SRAM at 0x2000_0010, and a capability in the granule 0x2000_0020. -/
def ldm : State := ((ld.setBytes 0x20000010 [0xEF, 0xBE, 0xAD, 0xDE]).setBytes 0x20000020 (bytesLE 16 (capBits 0x20000100 0x40 3 0 0 0).toNat)).setTag
  0x2000002 true
theorem ldm_runs : ldm.runs .core0 := (by unfold State.runs State.atBoundary; decide +kernel)
theorem witness_LoadsAndCacheFills : ldm.runs .core0 ∧ hasTags 0x20000010 = true ∧ (f0 ldm).domainReady (addrDomain 0x20000010) = true ∧ (f0 ldm).risingAt 0x20000010 = false ∧
    (f0 ldm).accessFault .core0 (((f0 ldm).core .core0).crd 1) 0x10 1 ⟨false, false⟩ = none ∧
    (f0 ldm).accessFault .core0 (((f0 ldm).core .core0).crd 1) 0x10 2 ⟨false, false⟩ = none ∧
    (f0 ldm).accessFault .core0 (((f0 ldm).core .core0).crd 1) 0xFFC 4 ⟨false, false⟩ = none := ⟨ldm_runs, by decide +kernel⟩
theorem test_loads : r5 (.lb .core0 5 3 1 3 .ok) ldm = 0xFFFFFFDE ∧ r5 (.lbu .core0 5 3 1 1 .ok) ldm = 0xBE ∧ r5 (.lh .core0 5 3 1 0 .ok) ldm = 0xFFFFBEEF ∧
    r5 (.lhu .core0 5 3 1 2 .ok) ldm = 0xDEAD ∧ r5 (.lw .core0 5 3 1 0 .ok) ldm = 0xDEADBEEF ∧ r5 (.lrw .core0 5 3 1 0 .ok) ldm = 0xDEADBEEF ∧
    ((nx (exec (.lrw .core0 5 3 1 0 .ok) ldm)).core .core0).resv = some 0x2000001 ∧
    nx (exec (.lw .core0 5 3 1 0 .ok) ldm) = (((ldm.fetched .core0).coreReadLine .core0 0x20000010).finish .core0 5 0xDEADBEEF).settle ∧
    nx (exec (.lb .core0 5 3 1 3 .ok) ldm) = (((ldm.fetched .core0).coreReadLine .core0 0x20000013).finish .core0 5 0xFFFFFFDE).settle := by decide +kernel

/-- `ldm` with core 1's reservation of the granule that core 0 stores to, and core 0's own. -/
def resv : State := (ldm.modCore .core0 fun k => { k with resv := some 0x2000001 }).modCore .core1 fun k => { k with resv := some 0x2000001 }
theorem witness_StoresAndReservations : resv.runs .core0 ∧ hasTags 0x20000010 = true ∧ (f0 resv).domainReady (addrDomain 0x20000010) = true ∧
    (f0 resv).risingAt 0x20000010 = false ∧ (f0 resv).accessFault .core0 (((f0 resv).core .core0).crd 1) 0x10 1 ⟨true, false⟩ = none ∧
    (f0 resv).accessFault .core0 (((f0 resv).core .core0).crd 1) 0x10 2 ⟨true, false⟩ = none ∧
    (f0 resv).accessFault .core0 (((f0 resv).core .core0).crd 1) 0x10 4 ⟨true, false⟩ = none ∧
    (f0 resv).accessFault .core0 (((f0 resv).core .core0).crd 1) 0x10 4 ⟨false, false⟩ = none ∧ ((f0 resv).core .core0).resv = some (0x20000010 / 16) ∧
    ¬ ((f0 ldm).core .core0).resv = some (0x20000010 / 16) ∧ ∃ t d, (f0 resv).coreRead .core0 0x10 0x20000010 4 .ok = (t, .ok d) :=
  ⟨by unfold State.runs State.atBoundary; decide +kernel, by decide +kernel, by decide +kernel, by decide +kernel, by decide +kernel,
    by decide +kernel, by decide +kernel, by decide +kernel, by decide +kernel, by decide +kernel, _, _, rfl⟩
theorem test_stores : (nx (exec (.sb .core0 4 3 1 1 .ok) resv)).loadN 0x20000010 4 = 0xDEADEFEF ∧
    (nx (exec (.sh .core0 4 3 1 2 .ok) resv)).loadN 0x20000010 4 = 0xBEEFBEEF ∧
    (nx (exec (.sw .core0 3 3 1 0 .ok) resv)).loadN 0x20000010 4 = 0x10 ∧ ((nx (exec (.sw .core0 3 3 1 0 .ok) resv)).core .core1).resv = none ∧
    (nx (exec (.sw .core0 3 3 1 16 .ok) resv)).tag 0x2000002 = false := by decide +kernel
theorem test_scw : (nx (exec (.scw .core0 3 3 1 0 .ok) resv)).loadN 0x20000010 4 = 0x10 ∧
    ((nx (exec (.scw .core0 3 3 1 0 .ok) resv)).core .core0).rd 3 = 0 ∧ ((nx (exec (.scw .core0 3 3 1 0 .ok) resv)).core .core0).resv = none ∧
    ((nx (exec (.scw .core0 3 3 1 0 .ok) ldm)).core .core0).rd 3 = 1 ∧ (nx (exec (.scw .core0 3 3 1 0 .ok) ldm)).mem = ldm.mem := by decide +kernel

/-- The first failing check of a load through a capability register. -/
def firstFault (v : CapReg) (o n : Nat) (w c : Bool) : Option Nat :=
  (ld.accessFault .core0 v o n ⟨w, c⟩).map fun f => 256 * f.cls + f.sub
theorem test_check_order : firstFault { cap 0x20000000 0x10 0 with tag := false } 0x11 4 false false = some 0x601 ∧
    firstFault ⟨capBits 0x20000000 0x10 0 1 1 1, true⟩ 0x11 4 false false = some 0x602 ∧
    firstFault ⟨capBits 0x20000000 0x10 0 0 1 1, true⟩ 0x11 4 false false = some 0x603 ∧
    firstFault (cap 0x20000000 0x10 0) 0x11 4 false false = some 0x605 ∧ firstFault (cap 0x20000000 0x10 1) 0x0D 4 false false = some 0x501 ∧
    firstFault (cap 0x20000000 0x11 1) 0x0D 4 false false = some 0x200 ∧ firstFault (cap 0x40000000 0x10 1) 0 4 false false = some 0x60C ∧
    firstFault (cap 0x01000000 0x10 0x12) 0 16 true true = some 0x609 := by decide +kernel
/-- `ld` with a pc that is not a multiple of 4. -/
def oddPc : State := ld.modCore .core0 fun k => { k with pc := 1 }
/-- `ld` with a stalled load; with the program of the pc in the device window, in a domain that is off, or where the MPU gives no fetch. -/
def stl : State := ld.modCore .core0 fun k => { k with stalled := some 5 }
def pcAt (s : State) (v : CapReg) : State := s.modCore .core0 fun k => k.setBank { k.bank with pcc := v }
def at0 (i : Instr) (s : State) : Core := (nx (exec i s)).core .core0
/-- The command takes fault `f` through a trap vector in the boot ROM: TCAUSE's class and sub-cause, TVAL and TADDR. -/
def faults (i : Instr) (s : State) (f : Flt) : Bool :=
  let k := (at0 i (s.modCore .core0 fun k => k.setBank { k.bank with tvec := romCap })).bank
  k.tcause.toNat % 65536 == f.cls + 256 * f.sub && k.tval.toNat == f.tval && k.taddr.toNat == f.taddr
theorem witness_MemoryChecks : ld.runs .core0 ∧ isCap 1 = true ∧ regionOf 0x40000000 = .pages ∧ regionOf 0x20000000 ≠ .pages ∧
    (f0 ld).accessFault .core0 (cap 0x40000000 0x10 0x103) 0 4 ⟨false, false⟩ = none ∧ (f0 ld).accessFault .core0 (cap 0x40000000 0x10 0x103) 0 4 ⟨true, false⟩ = none ∧
    (∃ t d, (f0 ld).coreRead .core0 0 0x40000000 4 .ok = (t, .ok d)) ∧ (∃ t, (f0 ld).coreRead .core0 0 0x20000000 4 .reqBeat = (t, .error (some busINTEG))) ∧
    (∃ t, (f0 (rise 5 ld)).coreRead .core0 0 0x20040000 4 .ok = (t, .error none)) ∧ (rise 5 ld).runs .core0 ∧ (f0 (rise 5 ld)).risingAt 0x20040000 = true ∧
    (f0 ld).risingAt 0x20000000 = false ∧
    (∃ r, ({ ld with mpuActive := [(aChctrl 0, 1)] }).mpuJudge 0 .glass .write 0x20000000 = some (mpuNO_REGION, r)) ∧
    (stl.core .core0).stalled = some 5 ∧ 5 ≠ wordM 0x12 5 3 1 0 ∧ oddPc.atBoundary .core0 ∧ (pcAt ld (cap 0x48000000 0x10 5)).atBoundary .core0 ∧
    nx (exec (.fetchFault .core0) oddPc) = oddPc.raise .core0 (fltMisaligned 1 1) :=
  ⟨ld_runs, by decide +kernel, by decide +kernel, by decide +kernel, by decide +kernel, by decide +kernel, ⟨_, _, rfl⟩, ⟨_, rfl⟩, ⟨_, rfl⟩,
    by unfold State.runs State.atBoundary; decide +kernel, by decide +kernel, by decide +kernel, ⟨_, rfl⟩, by unfold State.atBoundary; decide +kernel⟩


/-- SRAM at 0x2000_0000 in c1, and authorities in c2 (seals 0x80 to 0x8F) and c3 (a gate). -/
def cs : State := ldm.modCore .core0 fun k => ((k.cwr 2 (cap 0x80 0x10 (2 ^ 5 + 2 ^ 6))).cwr 3
  ⟨capBits 0x100 0x20 0x285 0xF0 0 0, true⟩).cwr 4 ⟨capBits 0x20000000 0x40 all 0x85 0 0, true⟩
theorem cs_runs : cs.runs .core0 := (by unfold State.runs State.atBoundary; decide +kernel)
theorem witness_CapabilityLoadStore : cs.runs .core0 ∧ isCap 5 = true ∧ hasTags 0x20000020 = true ∧ cs.domainReady (addrDomain 0x20000020) = true ∧
    cs.accessFault .core0 ((cs.core .core0).crd 1) 0x20 16 ⟨false, true⟩ = none ∧
    cs.accessFault .core0 ((cs.core .core0).crd 1) 0x20 16 ⟨true, true⟩ = none ∧ (cs.core .core0).world = .glass ∧
    ((cs.core .core0).crd 1).perm permGLOBAL = true := ⟨cs_runs, by decide +kernel⟩
theorem test_ldc_stc : ((at0 (.ldc .core0 5 3 1 16 .ok) cs).crd 5) = cap 0x20000100 0x40 3 ∧
    (nx (exec (.stc .core0 1 3 1 16 .ok) cs)).loadN 0x20000020 16 = (cap 0x20000000 0x1000 all).bits.toNat ∧
    (nx (exec (.stc .core0 1 3 1 16 .ok) cs)).tag 0x2000002 = true ∧ (nx (exec (.stc .core0 6 3 1 16 .ok) cs)).tag 0x2000002 = false := by decide +kernel

theorem witness_BranchesAndJumps : cs.runs .core0 ∧ 8 + 4 ≤ (cs.core .core0).bank.pcc.length ∧ (cs.core .core0).bank.pcc.length < 0xFFFFFFFC + 4 ∧
    ¬ (2 + 0 : Nat) % 4 = 0 ∧ cs.useCause .glass ((cs.core .core0).crd 5) = some capTAG ∧ cs.useCause .glass ((cs.core .core0).crd 1) = none ∧
    ((cs.core .core0).crd 2).perm permEXEC = false ∧ cs.useCause .glass ((cs.core .core0).crd 2) = none ∧
    (cs.useCause .glass (cap 0 0x100 4) = none ∧ (cap 0 0x100 4).perm permEXEC = true) := ⟨cs_runs, by decide +kernel⟩
theorem test_branches : (at0 (.beq .core0 3 3 2) cs).pc = 8 ∧ (at0 (.bne .core0 3 3 2) cs).pc = 4 ∧ (at0 (.blt .core0 4 3 2) cs).pc = 8 ∧
    (at0 (.bltu .core0 4 3 2) cs).pc = 4 ∧ (at0 (.bge .core0 3 4 2) cs).pc = 8 ∧ (at0 (.bgeu .core0 3 4 2) cs).pc = 4 ∧
    (at0 (.jal .core0 31 2) cs).pc = 8 ∧ (at0 (.jal .core0 31 2) cs).rd 31 = 4 ∧ (at0 (.jalr .core0 3 3 4) cs).pc = 0x14 ∧
    faults (.jalr .core0 5 3 2) cs (fltMisaligned 0x12 0x12) = true ∧
    faults (.beq .core0 3 3 0xFFFF) cs (fltBounds 2 0xFFFFFFFC 0xFFFFFFFC) = true := by decide +kernel
def cj : State := cs.modCore .core0 fun k => k.cwr 1 (cap 0x20 0x100 4)
theorem test_cjalr : (at0 (.cjalr .core0 31 3 1 6 true 1) cj).pc = 0x14 ∧ (at0 (.cjalr .core0 31 3 1 6 true 1) cj).rd 31 = 4 ∧
    (at0 (.cjalr .core0 31 3 1 6 true 1) cj).bank.pcc = cap 0x20 0x100 4 ∧ (at0 (.cjalr .core0 31 3 1 6 true 1) cj).crd 6 = romCap ∧
    faults (.cjalr .core0 31 3 5 0 false 1) cj (fltCap 1 (wordCJ 0x2A 31 3 5 0 false 1) 0) = true := by decide +kernel

theorem witness_ChecksAndNarrowing : cs.runs .core0 ∧ isCap 1 = true ∧ cs.useCause .glass ((cs.core .core0).crd 1) = none ∧
    cs.useCause .glass ((cs.core .core0).crd 5) = some capTAG ∧ (boundCap ((cs.core .core0).crd 1) 0x10 0xFF0).isOk = true ∧
    ((cs.core .core0).crd 1).base + ((cs.core .core0).crd 1).length ≤ 2 ^ 32 := ⟨cs_runs, by decide +kernel⟩
theorem test_checks : (at0 (.chk .core0 1 3 3) cs).pc = 4 ∧ faults (.chk .core0 1 3 4) cs (fltBounds bndCHK 0x10 0x20000010) = true ∧
    (at0 (.chki .core0 1 3 0xFF0) cs).pc = 4 ∧ faults (.chki .core0 1 3 0xFF1) cs (fltBounds bndCHK 0x10 0x20000010) = true ∧
    (at0 (.chkr .core0 3 0 4) cs).pc = 4 ∧ faults (.chkr .core0 3 0 3) cs (fltBounds bndCHKR 0x10 0) = true ∧
    (at0 (.chkri .core0 3 0x11) cs).pc = 4 ∧ faults (.chkri .core0 3 0x10) cs (fltBounds bndCHKR 0x10 0) = true := by decide +kernel

/-- `cs` with w5 = 0x85, w6 = 2 and epoch counter 2 at 7. -/
def ce : State := { (cs.modCore .core0 fun k => (k.wr 5 0x85).wr 6 2) with epochs := [(2, 7)] }
theorem ce_runs : ce.runs .core0 := (by unfold State.runs State.atBoundary; decide +kernel)
theorem witness_CapabilityDerivations : ce.runs .core0 ∧ isCap 1 = true ∧ isCap 7 = true ∧ isCap 2 = true ∧ isCap 4 = true ∧
    ce.useCause .glass (cap 0x20000000 0x1000 all) = none ∧ ce.stale ⟨capBits 0 0x10 1 0 6 2, true⟩ = true ∧
    ((ce.core .core0).crd 2).perm permSEAL = true ∧ ((ce.core .core0).crd 2).perm permUNSEAL = true ∧ ce.useCause .glass ((ce.core .core0).crd 2) = none ∧
    ((ce.core .core0).crd 4).otype = 0x85 ∧ ce.stale ((ce.core .core0).crd 4) = false ∧
    [1, 2, 3, 4, 5, 6, 7, 8][(7 : Fin 32).val]? = some 8 := ⟨ce_runs, by decide +kernel⟩
theorem test_derivations : (at0 (.cmove .core0 7 1) ce).crd 7 = cap 0x20000000 0x1000 all ∧ (at0 (.cclrt .core0 7 1) ce).crd 7 = { cap 0x20000000 0x1000 all with tag := false } ∧
    (at0 (.cbound .core0 7 1 3 6) ce).crd 7 = cap 0x20000010 2 all ∧ (at0 (.candp .core0 7 1 6) ce).crd 7 = cap 0x20000000 0x1000 2 ∧
    (at0 (.cseal .core0 7 1 2 5) ce).crd 7 = ⟨capBits 0x20000000 0x1000 all 0x85 0 0, true⟩ ∧
    (at0 (.cunseal .core0 7 4 2) ce).crd 7 = cap 0x20000000 0x40 all ∧
    (at0 (.cepoch .core0 7 1 6) ce).crd 7 = ⟨capBits 0x20000000 0x1000 all 0 7 2, true⟩ := by decide +kernel
theorem test_cget : (at0 (.cget .core0 8 1 0) ce).rd 8 = 0x20000000 ∧ (at0 (.cget .core0 8 1 1) ce).rd 8 = 0x1000 ∧
    (at0 (.cget .core0 8 1 2) ce).rd 8 = 0x51F ∧ (at0 (.cget .core0 8 4 3) ce).rd 8 = 0x85 ∧ (at0 (.cget .core0 8 1 6) ce).rd 8 = 1 ∧
    (at0 (.cget .core0 8 5 7) ce).rd 8 = 0 ∧ faults (.cget .core0 8 1 8) ce (fltIllegal (wordQ 0x30 8 1 8 0 8)) = true := by decide +kernel

/-- A granule and a register of epoch index 2, stale after the next bump; index 2 at 255, its sweep done, and a table of one entry. -/
def ep : State := ({ (ce.modCore .core0 fun k => (k.setBank { k.bank with ctabBase := 0x20000020, ctabCount := 3 }).wr 7 1) with epochs := [(2, 255)] })
def sw : State := { ep with sweepDone := 2 ^ 64 - 1 - 4, sweep := some ⟨2, .core0, [4], 0⟩ }

theorem ep_runs : ep.runs .core0 := (by unfold State.runs State.atBoundary; decide +kernel)
theorem witness_EpochsAndSweeps : ep.runs .core0 ∧ sw.runs .core0 ∧ ep.sweep = none ∧ sw.sweep = some ⟨2, .core0, [4], 0⟩ ∧ sw.sweepDone.testBit 2 = false ∧
    isCap 7 = true ∧ ((ep.core .core0).rd 6).toNat < (ep.core .core0).bank.ctabCount.toNat ∧ walkSram .glass 0x20000040 = true ∧
    ep.mpuJudge 0 .glass .read 0x20000040 = none ∧ ep.tag (0x20000020 / 16) = true ∧ (ep.bumpSeen .core0).2.atBoundary .core0 ∧
    ((ep.bumpSeen .core0).1 (ep.bumpSeen .core0).2).fetchCheck .core0 .glass romCap 0 = none ∧ (ep.bumpSeen .core0).2.fetchStalls .core0 = false :=
  ⟨ep_runs, by unfold State.runs State.atBoundary; decide +kernel⟩
theorem test_epochs : (nx (exec (.ebump .core0 8 6) ep)).epochOf 2 = 0 ∧ (nx (exec (.ebump .core0 8 6) ep)).sweepDone.testBit 2 = false ∧
    (at0 (.ebump .core0 8 6) sw).rd 8 = 4 ∧ (at0 (.ebump .core0 8 5) ep).rd 8 = 0x0E ∧ (at0 (.esweep .core0 8 6) sw).rd 8 = 1 ∧
    (nx (exec (.esweep .core0 8 6) ep)).sweep = none ∧
    ((nx (exec (.esweep .core0 8 6) { sw with sweep := none })).sweep).isSome = true ∧
    (at0 (.ldcapx .core0 7 7 .ok) { ep with tags := [(0x2000003, true)] }).crd 7 = ⟨0, true⟩ := by decide +kernel

/-- Core 0 in the Field, with PCC and EPCC over Field SRAM. -/
def fld : State := up.modCore .core0 fun k => { k with world := .field, field := { k.field with
  pcc := cap 0x20000000 0x1000 5, epcc := cap 0x20000100 0x100 4, tvec := cap 0x20000000 0x1000 5, tpc := 8, tcause := 0x00300000 } }
theorem witness_SystemRegisters : cs.runs .core0 ∧ ((cs.core .core0).world = .glass ∨ 15 ≤ 13) ∧
    ¬ ((fld.core .core0).world = .glass ∨ 14 ≤ 13) :=
  ⟨cs_runs, by decide +kernel, by decide +kernel⟩
theorem test_system_registers : (at0 (.mfsr .core0 8 0) ce).rd 8 = 0x200 ∧ (at0 (.mfsr .core0 8 1) ce).rd 8 = 1 ∧
    (at0 (.mtsr .core0 4 8) ce).bank.ctabBase = 0xDEADBEE0 ∧ (at0 (.mtsr .core0 4 9) ce).bank.ctabCount = 0xBEEF ∧
    (at0 (.mtsr .core0 4 2) ce).mask = 15 ∧ (at0 (.maski .core0 8 14) ce).mask = 14 ∧
    faults (.maski .core0 8 16) ce (fltIllegal (wordS 8 0 16 9)) = true ∧
    faults (.mtsr .core0 4 0) ce (fltIllegal (wordS 0 4 0 7)) = true := by decide +kernel

theorem fld_runs : fld.runs .core0 := (by unfold State.runs State.atBoundary; decide +kernel)
theorem witness_FencesWaitsAndReturns : fld.runs .core0 ∧ (fld.core .core0).world = .field ∧ (cs.core .core0).world = .glass ∧
    0x00300000 / 2 ^ 20 % 16 ≤ 13 ∧ 13 < 0x00E00000 / 2 ^ 20 % 16 ∧ fld.useCause .field (cap 0x20000100 0x100 4) = none ∧
    (cap 0x20000100 0x100 4).perm permEXEC = true ∧ cs.useCause .glass (cs.core .core0).bank.epcc = some capTAG := ⟨fld_runs, by decide +kernel⟩
theorem test_tret : (at0 (.tret .core0) fld).pc = 8 ∧ (at0 (.tret .core0) fld).mask = 3 ∧ (at0 (.tret .core0) fld).bank.pcc = cap 0x20000100 0x100 4 ∧
    (at0 (.wfi .core0) fld).wfi = true ∧ (at0 (.wfi .core0) fld).pc = 4 ∧ faults (.wfi .core0) cs (fltIllegal (wordS 0 0 0 0)) = true ∧
    (at0 (.fence .core0) cs).pc = 4 ∧ (at0 (.fenceI .core0) cs).pc = 4 ∧
    tabGet 0 (nx (exec (.fenceR .core0) (cs.setReg (aRbase 0 15) 0x20))).mpuActive (aRbase 0 15) = 0x20 := by decide +kernel

theorem witness_SynchronousTraps : (fld.core .core0).mask < 14 ∧ fld.runs .core0 ∧ fld.vectorOk .core0 0xC0 ∧ fld.vectorOk .core0 0 ∧
    reservedWord 0xFC000000 = true ∧ (oddPc.core .core0).executing = true ∧ (oddPc.core .core0).haltDue = false ∧
    oddPc.fetchCheck .core0 .glass romCap 1 = some (fltMisaligned 1 1) :=
  ⟨by decide +kernel, fld_runs, by unfold State.vectorOk; decide +kernel, by unfold State.vectorOk; decide +kernel, by decide +kernel⟩
theorem test_traps : (at0 (.trap .core0 0x123) fld).pc = 0xC0 ∧ (at0 (.trap .core0 0x123) fld).bank.tval = 0x123 ∧
    (at0 (.trap .core0 0x123) fld).bank.tcause = 0x000E0008 ∧ (at0 (.trap .core0 0x123) fld).mask = 14 ∧
    (at0 (.trap .core0 0x123) fld).bank.epcc = cap 0x20000000 0x1000 5 ∧
    (at0 (.reservedOpcode .core0 0xFC000000) fld).bank.tcause = 0x000E0001 ∧ (at0 (.reservedOpcode .core0 0xFC000000) fld).pc = 0 := by decide +kernel

/-- `fld` with software line 0 pending for core 0 at priority 5, routed to the Field. -/
def irq : State := { (((fld.put F.INTC.SW_SET.set 1).put (F.INTC.LINE.prio.idx 4 72) 5).put (F.INTC.LINE.target.idx 4 72) 1) with intcSample := 2 ^ 72 }
def imp : State := fld.modCore .core0 fun k => k.setBank { k.bank with timpr := 0x11, timprAddr := 0x20000040 }
def sev : State := fld.modCore .core0 fun k => { k with severePending := some 5 }
def pst : State := fld.modCore .core0 fun k => { k with posted := [⟨.field, 1, 0x20000040⟩] }
theorem witness_BoundaryEntries : irq.bestLine .core0 .field = some 72 ∧ (irq.core .core0).executing = true ∧ (irq.core .core0).haltDue = false ∧
    (irq.core .core0).bank.timpr.toNat.testBit 0 = false ∧ (irq.core .core0).mask < irq.linePrio 72 ∧ irq.fetchCheck .core0 .field (cap 0x20000000 0x1000 5) 0x80 = none ∧
    (imp.core .core0).bank.timpr.toNat.testBit 0 = true ∧ (sev.core .core0).severePending = some 5 ∧ sev.colHeldBy .core0 = false ∧
    (pst.core .core0).posted = ⟨.field, 1, 0x20000040⟩ :: [] := by decide +kernel
theorem test_entries : (at0 (.interruptEntry .core0) irq).bank.tcause = 0x00050010 ∧ (at0 (.interruptEntry .core0) irq).bank.tval = 72 ∧
    (at0 (.interruptEntry .core0) irq).pc = 0x80 ∧ (at0 (.interruptEntry .core0) irq).mask = 5 ∧
    (at0 (.impreciseBusError .core0) imp).bank.tcause = 0x000E0104 ∧ (at0 (.impreciseBusError .core0) imp).bank.taddr = 0x20000040 ∧
    (at0 (.severeEvent .core0) sev).scause = 3 ∧ (at0 (.severeEvent .core0) sev).pc = 0x100 ∧
    (at0 (.postedStoreError .core0) pst).bank.timpr = 0x11 ∧ (at0 (.postedStoreError .core0) pst).posted = [] := by decide +kernel

/-- The Col ready for a gate call through c3, and a call in progress. -/
def gate : State := (fld.modCore .core0 fun k => (k.cwr 3 ⟨capBits 0 0x1000 0x284 0xF0 0 0, true⟩).wr 2 0x22).put F.COL.STAT.present 1
def call : State := nx (exec (.gate .core0 5 3) gate)
theorem witness_ColCalls : gate.runs .core0 ∧ isCap 3 = true ∧ ((gate.core .core0).crd 3).otype = 0xF0 ∧ gate.stale ((gate.core .core0).crd 3) = false ∧
    gate.on F.COL.STAT.present = true ∧ gate.on F.COL.STAT.held = false ∧ gate.on F.COL.STAT.wilted = false ∧ gate.on F.COL.STAT.closed = false ∧
    (call.core .core0).world = .glass ∧ call.on F.COL.STAT.held = true ∧ call.get F.COL.STAT.mode = 0 ∧ (call.core .core0).saved.isSome = true ∧
    call.runs .core0 ∧ call.get F.COL.STAT.occupant = 0 ∧ call.col.budgetRun = true ∧
    call.core0.halted = false ∧ call.col.limit ≤ 1 ∧ ({ gate with col := { gate.col with holdoff := some 1 } }).col.holdoff = some 1 :=
  ⟨(by unfold State.runs State.atBoundary; decide +kernel), by decide +kernel, by decide +kernel, by decide +kernel, by decide +kernel, by decide +kernel,
    by decide +kernel, by decide +kernel, by decide +kernel, by decide +kernel, by decide +kernel, by decide +kernel,
    (by unfold State.runs State.atBoundary; decide +kernel), by decide +kernel⟩
theorem test_col : (call.core .core0).rd 2 = 0x22 ∧ (call.core .core0).pc = 0 ∧ (at0 (.ungate .core0 2) call).rd 5 = 0x22 ∧
    (at0 (.ungate .core0 2) call).world = .field ∧ (at0 (.ungate .core0 2) call).pc = 4 ∧ (at0 .colBudgetExpire call).rd 5 = 0xC0000008 ∧
    (nx (exec .colBudgetExpire call)).on F.COL.STAT.wilted = true ∧
    (nx (exec .colHoldoffExpire { gate with col := { gate.col with holdoff := some 1 } })).col.holdoff = none ∧
    (nx (exec .colHoldoffExpire { gate with col := { gate.col with holdoff := some 2 } })).col.holdoff = some 2 := by decide +kernel

/-- Every register that a command of ours writes, a page at a time. -/
theorem witness_free : ∀ a ∈ [R.GPIO.SET, R.GPIO.CLR, R.ADC.START, R.ADC.CTRL, R.INTC.SW_SET, R.INTC.SW_CLR, R.TMR.WD_CTRL, R.TMR.WD_CTRL + 32,
    R.TMR.WD_FEED, R.TMR.GT_CTRL + 48, R.SMPU.RBASE + 1020, R.SMPU.SYNC, R.SMPU.MEMKEY, R.FLC.CMD, R.LDG.CNT_CMD, R.PWR.PATH, R.PWR.BOOST, R.PWR.DOMAIN,
    R.PWR.HOLD, R.AON.ALARM_CTRL, R.SNAP.EM_CFG, R.SYS.RST_REQ, R.LC.ADVANCE, R.LC.DBG_CTRL, R.ENT.CTRL, R.KEY.CTRL, R.CLO.BIST_A, R.CLO.BIST_B,
    R.CLO.RESP + 124, R.RING.CTL + 32 * 95, R.RING.IDX, R.RING.CFG + 12, R.RING.GSTAT + 8 * 31, R.RDLT.CMD, R.RDL.DFLT + 12, R.GCB.CTRL,
    R.ETH.MDIO_CMD, R.HLK.DOORBELL, R.MGP.ALERT, R.MGP.MKEY + 12, R.MGP.MBIN_CTL, R.MGP.MBOUT_CTL, R.MGP.ALERT_FW, R.MGP.MC_CMD, R.SNAP.TRIG,
    R.SNAP.LOG_WR1, R.TRC.SWREC, R.TRC.CTRL, R.HDR.OWNER, R.HDR.LOCK + 0x1F000, R.HDR.FAULT, R.HDR.SNAP_CFG, R.HDR.MON_CTRL, R.HDR.MON_SEL,
    R.PWR.OFFACC, R.LC.ADV_STAT, R.PRB.CNTCLR, R.CPU.CNTCLR, R.INTC.DEFER, R.TMR.GT_STAT, R.COL.CNTCLR, R.SMPU.CNTCLR, R.FLC.CNTCLR, R.LDG.CNTCLR,
    R.CRY.CNTCLR, R.CLO.CNTCLR, R.TRL.CNTCLR, R.RDL.CNTCLR, R.RLP.SV_CNTCLR, R.ETH.CNTCLR, R.ETH.CNTCLR + 0x1000, R.RLP.CNTCLR, R.GCB.CNTCLR,
    R.HLK.CNTCLR, R.MGP.CNTCLR, R.PWR.SLEEP], up.reaches .core0 a ∧ up.unhindered .core0 (pageOf a) := by
  unfold State.reaches State.unhindered; decide +kernel

/-- `up` with core 0 in the Field and pages 0 and 10 of the Glasshouse. -/
def fp : State := (fld.put (F.HDR.OWNER.owner.onPage 0) 1).put (F.HDR.OWNER.owner.onPage 10) 1
theorem witness_RegisterWriteOrder : ¬ ({ up with regs := [] }).domainReady (pageDomain 30) = true ∧ up.domainReady (pageDomain 30) = true ∧ pageAdmits .cipher = false ∧
    pageAdmits .core0 = true ∧ ¬ (Size.half = .word ∧ 0 % 4 = 0) ∧ ¬ (Size.word = .word ∧ 2 % 4 = 0) ∧ (Size.word = .word ∧ 4 % 4 = 0) ∧
    fp.mayAccess .core0 (fp.iniWorld .core0) true 0x40000100 = false ∧ up.mayAccess .core0 .glass true 0x40000100 = true ∧ pageReg 0 0xFFC = none ∧
    0x1C % 0x1000 = R.HDR.IRQ_EN ∧ 0x18 % 0x1000 = R.HDR.IRQ_RAW ∧ up.iniWorld .core0 = .glass ∧ up.locked 0 = false := by decide +kernel
theorem witness_PageHeaderCommands : pageReassignable 26 = true ∧ F.HDR.OWNER.owner.get 1 ≠ up.owner 26 ∧ F.HDR.OWNER.owner.get 0 = up.owner 26 ∧
    (1 : BitVec 16) ≠ 0 ∧ up.get (F.HDR.LOCK.state.onPage 26) = 0 ∧ (up.put (F.HDR.LOCK.state.onPage 26) 1).get (F.HDR.LOCK.state.onPage 26) = 1 ∧
    tabGet 0 ({ up with lockKeys := [(26, 7)] }).lockKeys 26 = 7 ∧ F.HDR.MON_SEL.quantity.get 1 ≠ up.get (F.HDR.MON_SEL.quantity.onPage 26) ∧
    F.PWR.BOOST.req.get 0 = up.get F.PWR.BOOST.req ∧ F.PWR.SLEEP.target.get 0 < 4 ∧ F.PWR.PATH.force_vbat.get 0 = up.get F.PWR.PATH.force_vbat ∧
    up.on F.PWR.PATH.src = (up.on F.PWR.PATH.vsys_ok && !up.on F.PWR.PATH.force_vbat) := by decide +kernel
theorem witness_FieldProtection : up.on (F.HDR.FAULT.valid.onPage 0) = false ∧ (∃ i, i < 32 ∧ (2 : Word).getLsbD i ≠ (0 : Word).getLsbD i) :=
  ⟨by decide +kernel, 1, by decide⟩

def adc : State := (((up.put F.ADC.CTRL.en 1).put F.ADC.SCAN.channels 5).put F.GPIO.ANA.ana 5)
def adc1 : State := { (adc.put F.ADC.STAT.busy 1) with adc := ⟨[2], false, false, false⟩ }
theorem witness_GpioAndAdc : up.gpioSees = true ∧ asl.gpioSees = false ∧ up.gpioAnalog 11 = false ∧ (up.put F.GPIO.ANA.ana 8).gpioAnalog 11 = true ∧
    (up.put (F.PWR.IOGRP.present.bit 3) 1).groupOn (.gpio 11) = true ∧ up.groupOn (.gpio 11) = false ∧ (up.put (F.PWR.IOGRP.present.bit 3) 1).gpioPin 11 = .z ∧
    (up.get F.GPIO.FILT.filt).testBit 11 = false ∧ ((up.put F.GPIO.FILT.filt 0x800).get F.GPIO.FILT.filt).testBit 11 = true ∧ up.on (F.GPIO.IN.in.bit 11) = false ∧
    up.get F.SNAP.TRIG_EN.gpio_sel ≠ 11 ∧ up.get F.SNAP.TRIG_EN.gpio_sel = 0 ∧ up.on (Fld.bit ⟨R.SNAP.TRIG_EN, 10, 0⟩ 8) = false ∧
    (up.get F.GPIO.IN.in).testBit 11 ≠ true ∧ ((up.setReg R.GPIO.EDGE 0x400000).reg R.GPIO.EDGE).getLsbD 22 = true ∧
    adc.on F.ADC.STAT.busy = false ∧ adc.adc.goWait = false ∧ adc.on F.ADC.CTRL.en = true ∧ adc.get F.ADC.SCAN.channels ≠ 0 ∧
    adc.get F.ADC.SCAN.channels &&& (15 ^^^ adc.get F.GPIO.ANA.ana) = 0 ∧ adc.on F.ADC.STAT.calibrating = false ∧
    (adc.put F.ADC.STAT.cal_valid 1).on F.ADC.STAT.cal_valid = true ∧ adc.on F.ADC.STAT.cal_valid = false ∧ F.ADC.CTRL.avg.get 4 < 5 ∧
    (up.put F.ADC.STAT.calibrating 1).on F.ADC.STAT.calibrating = true ∧ adc1.adc.todo = 2 :: [] ∧ [(0 : Word)].length = 2 ^ adc1.get F.ADC.CTRL.avg ∧
    adc1.on F.ADC.STAT.busy = true ∧ ({ adc1 with adc := ⟨[], false, false, false⟩ }).adc.todo = [] ∧ adc1.on F.ADC.CTRL.cont = false ∧
    (adc1.put F.ADC.CTRL.cont 1).on F.ADC.CTRL.cont = true ∧ up.mayAccess .core0 .glass false (R.ADC.RESULT + 12) = true := by decide +kernel
theorem witness_AdcCode : 0 < 3 ∧ 3 ≤ 3 ∧ adcCode 3 3 = 4095 ∧ adcCode 1 3 = 1365 ∧ adcCode 2 3 = 2731 := by decide +kernel

def wd : State := ((((up.put (F.TMR.WD_CTRL.en.idx 16 0) 1).put (F.TMR.WD_CTRL.en.idx 16 1) 1).put (F.TMR.WD_CTRL.en.idx 16 2) 1).modCore .core1
  fun k => { k with started := true, powered := true })
theorem witness_SoftwareLinesAndTimers : (0 : Word).getLsbD 7 = false ∧ up.on (F.TMR.WD_CTRL.en.idx 16 0) = false ∧ wd.wdogCounts 0 = true ∧ wd.wdogCounts 1 = true ∧
    wd.wdogCounts 2 = true ∧ (∀ k : Fin 3, wd.get (F.TMR.WD_STAT.count.idx 16 k) ≤ 1) ∧ (wd.put (F.TMR.WD_CTRL.grace.idx 16 2) 3).get (F.TMR.WD_CTRL.grace.idx 16 2) ≠ 0 ∧
    wd.on (F.TMR.WD_STAT.warned.idx 16 2) = false ∧ wd.on (F.TMR.WD_CTRL.en.idx 16 0) = true ∧ F.TMR.WD_FEED.key.get 0x5744 = 0x5744 ∧
    F.TMR.WD_FEED.key.get 0x5743 ≠ 0x5744 ∧ wd.wdogWarns 0 = false ∧ wd.wdogWarns 1 = false ∧ wd.wdogWarns 2 = false ∧
    up.on (F.TMR.GT_CTRL.en.idx 16 3) = false ∧ (up.put (F.TMR.GT_CTRL.en.idx 16 3) 1).gtCounts 3 = true ∧
    (up.setReg (R.TMR.GT_COUNT + 48) 1).reg (R.TMR.GT_COUNT + 48) = 1 ∧ up.gtCounts 3 = false ∧
    (wd.put (F.TMR.WD_STAT.count.idx 16 2) 2).get (F.TMR.WD_STAT.count.idx 16 2) ≠ 1 := by decide +kernel
theorem witness_MemoryProtection : up.regionJudge 7 15 ⟨0x20000020, 0x15⟩ = none ∧
    (up.setReg (aRattr 7 14) 0x15).regionJudge 7 15 ⟨0, 0x15⟩ = some causeOVERLAP_EN ∧
    F.SMPU.SYNC.sync.get 0x80 % 4 = 0 ∧ up.on (F.SMPU.SYNC_DONE.done.bit 7) = false ∧ up.inRom = true := by decide +kernel

/-- The flash controller before a program of the last page, and an operation in progress. -/
def fl : State := ({ up with flash := ⟨[], 0, [⟨0, 0, 0, 0, 0, true⟩], none⟩ }).setReg R.FLC.ADDR 0x013FFE00
def flE : State := ({ fl with flash := ⟨[(127, true), (128, true)], 0, [], none⟩ }).setReg R.FLC.ADDR 0x01000000
def flO : State := { flE with flash := { flE.flash with op := some ⟨2, 0x01000000, 0⟩ } }
theorem witness_FlashCommands : fl.flcJudge 1 = (rcOK, 0x013FFE00) ∧ flE.flcJudge 2 = (rcOK, 0x01000000) ∧
    (up.setReg R.FLC.ADDR 0x3C00).flcJudge 3 = (rcOK, 0x01803C00) ∧ ((up.setReg R.FLC.ADDR 0x2000).put F.SYS.BOOT_STAT.option_default 1).flcJudge 4 = (rcOK, 0x01802000) ∧
    flE.flcJudge 1 = (rcSTATE, 0x01000000) ∧ rcSTATE ≠ rcOK ∧ flO.flash.op = some ⟨2, 0x01000000, 0⟩ ∧
    ¬ (flO.flash.op = none ∧ flO.lc.xfer = none) ∧ (fl.flash.op = none ∧ fl.lc.xfer = none) ∧ flcTarget 1 1 = none ∧ 1 % 512 ≠ 0 ∧
    flcTarget 1 0x013FFE00 = some 0x013FFE00 ∧ (fl.put F.LC.STATE.state 5).lcState = lcRETIRED ∧
    flcTargetNo 0x013FFE00 < 64 ∧ ({ fl with flash := { fl.flash with worn := 2 ^ 63 } }).flash.worn.testBit (flcTargetNo 0x013FFE00) = true := by decide +kernel

def lg : State := { up with ldg := { up.ldg with ready := true } }
def lgc (op n : Nat) : State := { lg with ldg := { lg.ldg with cmd := some (op, n) } }
theorem witness_LedgerAndCounters : lg.ldg.cmd = none ∧ lg.ldg.ready = true ∧ (lgc 0 63).ldg.cmd ≠ none ∧ up.ldg.ready = false ∧
    (lgc 1 63).ldg.cmd = some (1, 63) ∧ ((lgc 1 63).counter 63).1 < 2 ^ 64 - 1 ∧ ((lgc 1 63).counter 63).2 < 2 ^ 32 - 1 ∧ (lgc 2 63).ldg.cmd = some (2, 63) ∧
    ((lgc 2 63).counter 63).1 < ((lgc 2 63).setReg R.LDG.CNT_ARG 5).getPair R.LDG.CNT_ARG (R.LDG.CNT_ARG + 4) ∧
    (lgc 1 66).ldg.cmd = some (1, 66) ∧ (lgc 1 79).ldg.cmd = some (1, 79) ∧
    ({ lg with ldg := { lg.ldg with posted := [⟨.glass, 0, 0x3000C080, [0, 0, 0, 0]⟩] } }).ldg.posted = ⟨.glass, 0, 0x3000C080, [0, 0, 0, 0]⟩ :: [] ∧
    256 ≤ ({ lg with ldg := { lg.ldg with remap := List.replicate 256 0 } }).sparesUsed ∧ lg.on (F.HDR.FAULT.valid.onPage pageLDG) = false ∧
    up.pdOn 8 = true := by decide +kernel
theorem witness_raise_below : ((((lg.setBytes 0x30000010 (bytesLE 4 9 ++ bytesLE 4 0 ++ bytesLE 4 1 ++ bytesLE 4 (cellCheck 0 9 0 1)))).setReg R.LDG.CNT_ARG 5).counter 0) =
    (9, 1) := by decide +kernel

def vs : State := up.put F.PWR.PATH.src 1
def shut : State := { up with aon := { up.aon with pstate := 4 } }
def gc3 : State := (up.put F.GCB.STAT.state 3).put F.GCB.CTRL.pwr 1
theorem witness_PowerPath : up.aon.pstate ≠ 4 ∧ up.on F.PWR.PATH.vsys_ok = false ∧ ({ up with aon := { up.aon with vsysDebounce := true } }).aon.vsysDebounce = true ∧
    up.on F.PWR.PATH.src = false ∧ vs.on F.PWR.PATH.src = true ∧ (vs.put F.PWR.BOOST.active 1).on F.PWR.BOOST.active = true ∧
    (up.put F.PWR.PATH.vbat_ok 1).on F.PWR.PATH.vbat_ok = true ∧ 2 ≤ gc3.get F.GCB.STAT.state ∧ gc3.gcb.job = none := by decide +kernel

def bst : State := ((up.put F.PWR.BOOST.req 1).put F.PWR.XO.hfxo_ok 1).put F.PWR.XO.pll_lock 1
def alm : State := ((up.put F.AON.ALARM_CTRL.en 1).setReg R.AON.PERIOD 0x8000)
theorem witness_ClocksBoostAndTime : (up.put F.PWR.HFRC.cal_en 1).on F.PWR.HFRC.cal_en = true ∧ up.ck04 = true ∧ (up.put F.PWR.XO.users 1).get F.PWR.XO.users ≠ 0 ∧
    bst.on F.PWR.XO.hfxo_ok = true ∧ bst.on F.PWR.BOOST.req = true ∧ bst.on F.PWR.XO.pll_lock = true ∧ up.on F.PWR.XO.lf_src = false ∧
    F.PWR.BOOST.clr.get 1 = 0 ∧ F.PWR.BOOST.req.get 1 = 1 ∧ up.on F.PWR.BOOST.req = false ∧ F.PWR.BOOST.req.get 0 = 0 ∧ vs.on F.PWR.PATH.src = true ∧
    up.on F.PWR.PATH.src = false ∧ alm.on F.AON.ALARM_CTRL.en = true ∧ alm.alarmCmp = alm.aon.time ∧ alm.on F.AON.ALARM_CTRL.periodic = false ∧
    (alm.put F.AON.ALARM_CTRL.periodic 1).on F.AON.ALARM_CTRL.periodic = true ∧ up.on F.AON.ALARM_CTRL.en = false ∧ up.alarmCmp ≤ up.aon.time ∧
    (up.setReg R.AON.ALARM_LO 1).aon.time < (up.setReg R.AON.ALARM_LO 1).alarmCmp ∧ up.mayAccess .core0 .glass false R.AON.TIME_LO = true ∧
    up.on (F.HDR.FAULT.valid.onPage pageAON) = false := by decide +kernel

/-- PD5 wanted and off; PD12 on and not wanted; a power-up of domain d, and a power-down. -/
def pdU : State := State.reset.put F.PWR.DOMAIN.req 0x2F5
def pdD : State := up.put F.PWR.DOMAIN.req 0x2FFD
def seqUp (d : Nat) : State := { State.reset with aon := { State.reset.aon with seq := some (d, true) } }
def seqDn (d : Nat) : State := { up with aon := { up.aon with seq := some (d, false) } }
theorem witness_PowerDomains : pdU.seqNext = some (5, true) ∧ pdD.seqNext = some (12, false) ∧ pdU.aon.seq = none ∧ pdU.aon.pstate ≠ 4 ∧
    (seqUp 1).aon.seq = some (1, true) ∧ (seqUp 13).aon.seq = some (13, true) ∧ (seqUp 11).trl.kept = [] ∧ (seqDn 1).aon.seq = some (1, false) ∧
    (seqDn 13).aon.seq = some (13, false) := by decide +kernel

/-- Both cores stopped in WFI in the Field, the state in which a sleep entry starts; its target is `t`, and `g` is the Glasshouse's consent. -/
def slp (t g : Nat) : State := ((fld.modCore .core0 fun k => { k with wfi := true }).put F.PWR.SLEEP.target t).put F.PWR.SLEEP.glass_ok g
def entry (committed : Bool) : State := { slp 1 1 with aon := { (slp 1 1).aon with entry := some 1, committed := committed } }
def done1 : State := { (entry true).setReg R.PWR.DOMAIN 0 with logQueue := [] }
def asleep (p held : Nat) : State := { slp 1 1 with aon := { (slp 1 1).aon with pstate := p, heldWake := held } }
theorem witness_SleepAndWake : (slp 0 0).allStopped = true ∧ (slp 0 0).sweep = none ∧ (slp 0 0).aon.entry = none ∧ (slp 0 0).get F.PWR.SLEEP.target = 0 ∧
    (slp 3 0).get F.PWR.SLEEP.target ≠ 0 ∧ (slp 3 0).on F.PWR.SLEEP.glass_ok = false ∧ (slp 3 1).on F.PWR.SLEEP.glass_ok = true ∧
    (entry true).aon.entry = some 1 ∧ (entry true).aon.committed = true ∧ (entry false).aon.committed = false ∧ done1.seqNext = none ∧
    (∀ d ∈ seqOrder, done1.pdOn d = true → d = 1 ∧ 1 = 2) ∧ (entry false).wakeEvents 1 0x1FF ≠ 0 ∧ (asleep 1 0).wakeEvents 1 0x1FF ≠ 0 ∧
    (asleep 2 0).wakeEvents 2 0x1FF ≠ 0 ∧ (asleep 1 1).aon.heldWake ≠ 0 ∧ (asleep 2 1).aon.pstate = 2 ∧ (asleep 3 1).aon.pstate = 3 := by decide +kernel

def tst : State := { up with aon := { up.aon with testHigh := true } }
theorem witness_SystemAndPowerOnReset : (3 ≤ 0x0E ∧ 0x0E ≤ 0x0E) ∧ up.aon.pstate ≠ 4 ∧ up.reaches .core0 R.SYS.RST_REQ ∧ up.unhindered .core0 pageSYS ∧
    shut.aon.pstate = 4 ∧ up.aon.testHigh = false ∧ tst.aon.testHigh = true ∧ tst.on F.SYS.RSTPIN.held = false ∧ tst.aon.pstate ≠ 4 ∧
    up.flash.op = none ∧ up.lc.xfer = none := by
  refine ⟨by decide, by decide +kernel, ?_, ?_, by decide +kernel⟩
  · unfold State.reaches; decide +kernel
  · unfold State.unhindered; decide +kernel

def rpin : State := up.put F.SYS.RSTPIN.held 1
theorem witness_CoreResetAndResetPin : up.colHeldBy .core0 = false ∧ up.colHeldBy .core1 = false ∧ up.aon.pstate ≤ 1 ∧
    up.core0.dcache.all (fun l => decide (l.st ≠ .modified)) = true ∧ up.on F.SYS.RSTPIN.masked = false ∧ (up.put F.SYS.RSTPIN.level 1).on F.SYS.RSTPIN.level = true ∧
    up.on F.SYS.RSTPIN.held = false ∧ (up.put F.SYS.RSTPIN.masked 1).on F.SYS.RSTPIN.masked = true ∧ rpin.on F.SYS.RSTPIN.held = true ∧
    rpin.on F.SYS.RSTPIN.stuck = false ∧ rpin.aon.testHigh = false ∧ up.aon.pstate ≠ 4 := by decide +kernel

/-- A smallest unsigned image for block 0 (R113): one segment of 16 zero bytes run in place, both Field entry points at its start, and
SHA-256 of 16 zero bytes as its body digest (FIPS 180-4, computed outside Lean). -/
def image : List Byte :=
  bytesLE 4 0x4D514531 ++ bytesLE 4 0x02000001 ++ bytesLE 4 0 ++ bytesLE 4 0x210 ++ bytesLE 4 7 ++ bytesLE 4 0 ++ bytesLE 2 0x0F ++ [2, 0xFF] ++
    bytesLE 4 1 ++ List.replicate 12 0 ++ bytesLE 4 0x200 ++ bytesLE 4 0x200 ++ List.replicate 12 0 ++ bytesLE 4 0x200 ++ bytesLE 4 16 ++
    bytesLE 4 0 ++ bytesLE 4 2 ++ List.replicate 304 0 ++
    bytesBE 32 0x374708fff7719dd5979ec875d56cd2286f6d3cf7ec317a3b25632aab28ec37bb ++ List.replicate 96 0 ++ List.replicate 16 0
def imageCells : List Host.Cell := ((numsFrom image.length 0x01000000).zip image).filterMap fun e => if e.2 = 0xFF then none else some ⟨e.1, e.2⟩
/-- Core 0 at the start of the boot ROM's cold path: slot A holds `image` (or nothing), slot B nothing; slot `pref` is preferred. -/
def boot (img : Bool) (pref : Nat) : State :=
  let s := { State.reset with regs := State.reset.regs.filter (fun e => decide (e.2 ≠ 0)), mem := if img then imageCells else [] }
  ((((s.put F.OPT.SLOTS.a_first 0).put F.OPT.SLOTS.a_last 0).put F.OPT.SLOTS.b_first 1).put F.OPT.SLOTS.b_last 1).put F.OPT.CFG.pref_slot pref
/-- Samples of the four sources: 41 equal ones of those that fail (R321), none of the others. -/
def noise (fails : List Nat) : List (List Bool) := (numsFrom 4 0).map fun k => if fails.contains k then List.replicate 41 true else []
def bootU (s : State) (fails : List Nat) : State × Bool :=
  ((((s.put F.SYS.BOOT_STAT.code_a 0xFF).put F.SYS.BOOT_STAT.code_b 0xFF).put F.SYS.BOOT_STAT.cause 0).bootEntropy (noise fails) 5)
/-- Slot A, preferred, is empty; slot B holds `image`. -/
def bootB : State := ((((boot true 0).put F.OPT.SLOTS.a_first 1).put F.OPT.SLOTS.a_last 1).put F.OPT.SLOTS.b_first 0).put F.OPT.SLOTS.b_last 0
theorem witness_BootPaths_able : bootB.core0.executing = true ∧ bootB.core0.rom = some false ∧ bootB.on F.SYS.RESUME.valid = false ∧ bootB.get F.SYS.BOOT_STAT.fail_cnt = 0 ∧ bootB.lcState ≠ lcRETIRED ∧
    (bootU bootB []).1.memkeyLoad.fillFifo.get F.OPT.CFG.pref_slot ≠ 1 ∧ (bootU (boot true 0) []).2 = true ∧ (bootU bootB []).1.memkeyLoad.fillFifo.lcState = lcBLANK ∧
    (bootU (boot true 0) [0, 1, 2, 3]).2 = false ∧ (boot true 0).core0.executing = true ∧ (boot true 0).core0.rom = some false ∧
    (boot true 0).on F.SYS.RESUME.valid = false ∧ (boot true 0).get F.SYS.BOOT_STAT.fail_cnt = 0 ∧ (boot true 0).lcState ≠ lcRETIRED ∧
    ((boot true 0).put F.LC.STATE.state 5).lcState = lcRETIRED := by decide +kernel
theorem witness_BootPaths_other : (bootU bootB []).2 = true ∧ (bootU bootB []).1.memkeyLoad.fillFifo.verifySlot 1 1 ≠ 0 ∧
    (bootU bootB []).1.memkeyLoad.fillFifo.verifySlot 0 0 = 0 := by decide +kernel
theorem witness_BootPaths_none : (bootU (boot false 0) []).1.memkeyLoad.fillFifo.get F.OPT.CFG.pref_slot ≠ 1 ∧ (bootU (boot false 0) []).2 = true ∧
    (bootU (boot false 0) []).1.memkeyLoad.fillFifo.verifySlot 0 0 ≠ 0 ∧ (bootU (boot false 0) []).1.memkeyLoad.fillFifo.verifySlot 1 1 ≠ 0 ∧
    ((boot false 0).put F.SYS.BOOT_STAT.fail_cnt 2).get F.SYS.BOOT_STAT.fail_cnt = 2 := by decide +kernel
/-- The booted image of block 0; a core in the restart path. -/
def warm : State := (boot true 0).put F.SYS.RESUME.valid 1
def rst (c : CoreId) : State := { (up.put F.SYS.BOOT_IMG.valid 1) with mem := imageCells }.modCore c fun k => { k with powered := true, started := true, rom := some true }
/-- `warm` with PD9 on and its DRBG serving. -/
def warmRun : State :=
  let s := ((warm.put (F.PWR.DOMAIN.on.bit 9) 1).put (F.PWR.DOMAIN.req.bit 9) 1).put F.ENT.STAT.state entRUN
  { s with ent := { s.ent with inst := true } }
def woken (s : State) : State := ((((s.bootPower 7).bootPower 4).bootPower 6).bootPower 8).bootPower 9
theorem witness_BootPaths_warm : (woken warm).drbgWaits = true ∧ (woken warmRun).drbgWaits = false ∧ warmRun.core0.executing = true ∧ warmRun.core0.rom = some false ∧
    warmRun.on F.SYS.RESUME.valid = true ∧ (warmRun.segs warmRun.imageBase).all (segOk 0x210) = true ∧ warm.on F.SYS.RESUME.valid = true ∧ (warm.segs warm.imageBase).all (segOk 0x210) = true ∧ warm.core0.rom = some false ∧
    warm.core0.executing = true ∧ (rst .core0).core0.executing = true ∧ (rst .core0).core0.rom = some true ∧ (rst .core0).on F.SYS.BOOT_IMG.valid = true ∧
    (rst .core1).core1.executing = true ∧ (rst .core1).core1.rom = some true ∧ (rst .core1).hdr (rst .core1).imageBase hdrCore1Entry 4 = 0 ∧
    ({ rst .core1 with mem := imageCells.filter fun c => decide (c.1 ≠ 0x01000034) }).hdr 0x01000000 hdrCore1Entry 4 ≠ 0 := by decide +kernel

/-! Further witnesses of the statements above: what their boundaries, waits and orders need. -/
/-- The same entries at a boundary: nothing stalls, the vectors can be fetched, and an event that waits is taken by any command. -/
def irqH : State := irq.put F.COL.STAT.held 1
theorem witness_BoundaryEntries_order : (irq.core .core0).stalled = none ∧ (irq.core .core0).severePending = none ∧ (imp.core .core0).mask < 14 ∧
    (imp.core .core0).severePending = none ∧ (sev.core .core0).mask < 15 ∧ (sev.core .core0).stalled = none ∧ (irq.eventTaken .core0).isSome = true ∧
    (imp.eventTaken .core0).isSome = true ∧ (sev.eventTaken .core0).isSome = true ∧ irqH.colHeldBy .core0 = true ∧ irqH.linePending 72 .core0 = true ∧
    irqH.lineRouted 72 .core0 .field = true ∧ (irqH.core .core0).mask < irqH.linePrio 72 := by decide +kernel
theorem witness_BoundaryEntries_vector : irq.vectorOk .core0 0x80 ∧ imp.vectorOk .core0 0x40 ∧ sev.vectorOk .core0 0x100 := by unfold State.vectorOk; decide +kernel
/-- R232: the severe event, then the imprecise error, then the interrupt, whatever command the boundary meets; R223: a deferred line counts once. -/
theorem test_boundary_order : (at0 (.fence .core0) sev).scause = 3 ∧ (at0 (.add .core0 1 0 0) irq).bank.tval = 72 ∧
    (at0 (.interruptEntry .core0) imp).bank.tcause = 0x000E0104 ∧ (irqH.deferLines .core0).col.deferred = [72] ∧
    (irqH.deferLines .core0).get F.INTC.DEFER.count = 1 := by decide +kernel
theorem witness_RegisterWriteOrder_rising : (rise 13 up).risingAt (pageBase pageADC) = true ∧ up.risingAt (pageBase pageADC) = false ∧
    (up.put (F.PWR.DOMAIN.on.bit 13) 0).domainReady (pageDomain pageADC) = false := by decide +kernel
/-- The DRBG waits for a seed; an agent of place 3 operates on a line; core 0 evicts that line. -/
def fabOp : State := { up with fab := { up.fab with op := some (0x20000000, 2), trlEvict := some 0x20000040 }, core0 := { up.core0 with evict := some 0x20000000 } }
theorem witness_MemoryProtection_fabric : up.drbgWaits = true ∧ warmRun.drbgWaits = false ∧ fabOp.fab.op = some (0x20000000, 2) ∧ hasTags 0x20000010 = true ∧
    (0x20000010 / 32 * 32 = 0x20000000 ∧ 2 ≤ iniCode .trellis) ∧ ¬ 2 ≤ iniCode .core0 ∧ up.fab.op = none ∧ fabOp.core0.evict = some (0x20000010 / 32 * 32) := by decide +kernel
/-- R265: a snoop by another agent cancels the eviction, its owner's own access cancels none. -/
theorem test_snoop : (fabOp.snoop .core1 0x20000010).core0.evict = none ∧ (fabOp.snoop .core1 0x20000010).get F.SMPU.COH.evict_cancel = 1 ∧
    (fabOp.snoop .core0 0x20000010).get F.SMPU.COH.evict_cancel = 0 ∧ (fabOp.snoop .core1 0x20000040).fab.trlEvict = none := by decide +kernel
/-- A posted store of the probe; a counter whose hidden code fails. -/
def lgp : State := { lg with ldg := { lg.ldg with posted := [⟨.glass, iniCode .probe, 0x3000C084, [0, 0, 0, 0]⟩] } }
theorem witness_LedgerAndCounters_probe : ((lgp.ldg.posted.find? fun q => decide (9 ≤ q.ini)) <|> lgp.ldg.posted.head?).map (·.ini) = some (iniCode .probe) ∧ (lgc 1 63).ldg.cmd = some (1, 63) ∧
    (lgc 0 0).counter 0 = (0, 0) ∧ ((lgc 2 63).setReg R.LDG.CNT_ARG 0).getPair R.LDG.CNT_ARG (R.LDG.CNT_ARG + 4) = 0 := by decide +kernel
/-- R302, R307: a failing hidden code ends an increment with INTERNAL and writes nothing; R319: a probe's store on hard ground fails its next access. -/
theorem test_ledger_fails : (nx (exec (.cntDone true 0 true) (lgc 1 63))).get F.LDG.CNT_RES.code = rcINTERNAL ∧
    (nx (exec (.cntDone true 0 true) (lgc 1 63))).mem = lg.mem ∧
    (nx (exec (.ledgerWriteDone 4 false) { lgp with ldg := { lgp.ldg with remap := List.replicate 256 0 } })).prb.wfail = some 1 := by decide +kernel
theorem witness_PowerPath_pins : (Pin.gpio 1).domain = some 13 ∧ shut.aon.pstate = 4 ∧ up.groupOn (.gpio 1) = false ∧ up.groupOn .gcbClk = false ∧ up.aon.writing = false ∧
    (up.put (F.PWR.IOGRP.present.bit 3) 1).on (F.PWR.IOGRP.present.bit 3) = true := by decide +kernel
theorem test_absent_group : up.pin (.gpio 1) = ⟨.z, .none⟩ ∧ up.pin .gcbClk = ⟨.low, .none⟩ ∧ shut.pin .shipwkN = ⟨.z, .up⟩ ∧ shut.mainFrom = .open := by decide +kernel
theorem witness_ClocksBoostAndTime_writing : up.aon.writing = false ∧ (vs.put F.PWR.BOOST.active 1).on F.PWR.BOOST.active = true := by decide +kernel
/-- Pins held at the last level of PD13, which is on again. -/
def heldUp : State := nx (exec .domainPowerUp { ((up.put (F.PWR.IOGRP.present.bit 3) 1).domainDown 13) with aon := { ((up.put (F.PWR.IOGRP.present.bit 3) 1).domainDown 13).aon with seq := some (13, true) } })
theorem witness_PowerDomains_hold : pdU.inReset = false ∧ (seqUp 2).inReset = false ∧ (seqDn 13).on (F.PWR.HOLD.hold.bit 13) = false ∧ (seqDn 13).pdOn 13 = true ∧
    (seqDn 13).aon.entry = none ∧ pdU.pdHeld 12 = false ∧ heldUp.on (F.PWR.HOLD.hold.bit 13) = true ∧ heldUp.pdOn 13 = true ∧ heldUp.groupOn (.gpio 1) = true ∧
    (heldUp.aon.pinHold.find? fun e => decide (e.1 = .gpio 1)) = some (.gpio 1, heldUp.pin (.gpio 1)) ∧ heldUp.gpioSees = true ∧ asl.gpioSees = false := by decide +kernel
/-- A reserve being written for an entry; the sleep's own PD8 and PD9. -/
def resW (w : Bool) : State := { entry false with aon := { (entry false).aon with writing := w, raised := 2 ^ 8 } }
theorem witness_SleepAndWake_reserve : (resW false).pdServes 8 = true ∧ (resW false).pdServes 9 = true ∧ (resW false).ent.chain < 64 ∧
    (resW false).reserveWaits = false ∧ (resW true).aon.writing = true ∧ (resW true).aon.raised.testBit 8 = true ∧ (resW true).pdOn 8 = true ∧
    (resW true).wakeEvents 1 0x1FF ≠ 0 ∧ (resW true).core0.started = true ∧ (entry true).aon.seq = none := by decide +kernel
theorem test_reserve : (nx (exec .sleepEntry (resW false))).aon.writing = true ∧ (nx (exec .sleepEntry (resW true))).aon.committed = true ∧
    (nx (exec (.wakeEvent 0x1FF) (resW true))).aon.entry = none ∧ (nx (exec (.wakeEvent 0x1FF) (resW true))).pdReq 8 = true := by decide +kernel
theorem witness_Resets_held : tst.inReset = true ∧ up.inReset = false ∧ tst.groupOn (.gpio 1) = false ∧ (tst.put (F.PWR.IOGRP.present.bit 3) 1).groupOn (.gpio 1) = true ∧
    up.ldg.posted = [] ∧ up.ldg.cmd = none ∧ up.cry.refill = none ∧ up.aon.writing = false ∧ ({ up with logQueue := [] }).logQueue = [] ∧ up.core0.powered = true := by decide +kernel

/-! Life cycle: the token of 32 zero bytes, whose SHA-256 stands in the option area (computed outside Lean). -/
def lcs (st : Nat) : State := { lg with flash := ⟨[], 0, [⟨0, 0, 0, 0, 0, true⟩], none⟩ }.put F.LC.STATE.state st
def wordsBE (n v : Nat) : List Word := (numsFrom n 0).map fun k => BitVec.ofNat 32 (natLE ((bytesBE (4 * n) v).drop (4 * k) |>.take 4))
def tok (bad : Nat) : State := (lcs 3).setRegs (R.OPT.TOKD + 32) (wordsBE 8 (0x66687aadf862bd776c8fc18b8e9f8e20089714856ee233b3902a591d0d5f2925 + bad))
def advTo (t : Nat) : Word := BitVec.ofNat 32 (F.LC.ADVANCE.key.put 0x4C43 (F.LC.ADVANCE.target.put t 0#32)).toNat
theorem witness_LifeCycle : (lcs 2).reaches .core0 R.LC.ADVANCE ∧ (lcs 2).lc.xfer = none ∧ F.LC.ADVANCE.key.get (advTo 3) = 0x4C43 ∧
    F.LC.ADVANCE.target.get (advTo 3) = 3 ∧ plainSuccessor 2 3 = true ∧ (lcs 2).on F.SYS.BOOT_STAT.option_default = false ∧
    (lcs 2).onlyRetire = false ∧ (lcs 2).on F.SYS.BOOT_STAT.unsigned = false ∧ plainSuccessor 2 1 = false ∧ tokenDigest 2 1 = none ∧
    tokenDigest 3 4 = some 1 ∧ (tok 0).pdOn 9 = true ∧ ((tok 0).counter cntLC_FAIL).1 < 2 ^ 64 - 1 ∧ ((tok 0).counter cntLC_FAIL).2 < 2 ^ 32 - 1 ∧
    ((tok 0).counter cntLC_FAILBASE).1 ≤ ((tok 0).counter cntLC_FAIL).1 ∧ ((tok 0).counter cntLC_FAILBASE).2 < 2 ^ 32 - 1 ∧
    (tok 0).lc.backoff = 0 ∧ (tok 0).lcState = 3 ∧ F.LC.ADVANCE.target.get (advTo 4) = 4 := by unfold State.reaches; decide +kernel
theorem witness_LifeCycle_token : sha256 ((tok 0).regBytes R.LC.TOKEN 8) = (tok 0).regBytes (R.OPT.TOKD + 32) 8 ∧
    sha256 ((tok 1).regBytes R.LC.TOKEN 8) ≠ (tok 1).regBytes (R.OPT.TOKD + 32) 8 := by decide +kernel
def xfer : State := { lcs 2 with lc := { (lcs 2).lc with xfer := some (3, lcPLAIN), join := false } }
theorem witness_LifeCycle_transition : xfer.lc.xfer = some (3, lcPLAIN) ∧ xfer.lc.join = false ∧ xfer.flash.op = none ∧ xfer.flash.lcRec.length < 63 ∧
    0 < ({ tok 0 with lc := { (tok 0).lc with backoff := 9 } }).lc.backoff := by decide +kernel

/-- An open debug challenge of 32 zero bytes; the key and the signature over it (ECDSA P-256, FIPS 186-5, computed outside Lean). -/
def dbg (bad : Nat) : State :=
  let s := ((lcs 3).put F.LC.DBG_CTRL.chal_valid 1).setRegs R.OPT.DBGD (wordsBE 8 0x0f8a212d4f085087c3547aae01e8f656e297a664b1373995bd4e554efb036244)
  let s := s.setRegs R.LC.DBG_KEY (wordsBE 16 (0x088bb9ff22ab291a74c86fc677ba897baadee370cc6129b82d170ba3fc26415c * 2 ^ 256 +
    0x442da9a716067956d91eaa02b93ad409490e87cd5e758ea6a331a1deb75ba846))
  s.setRegs R.LC.DBG_SIG (wordsBE 16 (0x10a490523955cbc2c2d3452458fcdf97c4733469f187905f5cb67347f4244eb8 * 2 ^ 256 +
    0x65df7f1a604dcea42be3d24cb1799cbbccffb5008445be98f3b14491b1ee0b37 + bad))
theorem witness_Debug : (dbg 0).reaches .probe R.LC.DBG_CTRL ∧ (dbg 0).on F.LC.DBG_CTRL.chal_valid = true ∧ (dbg 0).lc.backoff = 0 ∧
    (dbg 0).aon.time < (dbg 0).lc.chalTime + 327680 ∧ (dbg 0).pdOn 9 = true ∧ (lcs 2).lcState ≠ lcFIELDED ∧ (lcs 2).reaches .probe R.LC.DBG_CTRL ∧
    ((dbg 0).put F.LC.DBG_CTRL.granted 1).on F.LC.DBG_CTRL.granted = true := by unfold State.reaches; decide +kernel
theorem witness_Debug_key : sha256 ((dbg 0).regBytes R.LC.DBG_KEY 16) = (dbg 0).regBytes R.OPT.DBGD 8 := by decide +kernel
theorem witness_Debug_signature : ecdsaVerifyMsg ((dbg 0).regBytes R.LC.DBG_KEY 16) ((dbg 0).regBytes R.LC.CHAL 8) ((dbg 0).regBytes R.LC.DBG_SIG 16) = true := by decide +kernel
theorem witness_Debug_bad : ecdsaVerifyMsg ((dbg 1).regBytes R.LC.DBG_KEY 16) ((dbg 1).regBytes R.LC.CHAL 8) ((dbg 1).regBytes R.LC.DBG_SIG 16) = false := by decide +kernel
def dbgRun : State := (boot false 0).put F.LC.STATE.state 3
theorem witness_Debug_request : (bootU dbgRun []).1.lcState = lcFIELDED ∧ (bootU dbgRun []).1.pdOn 9 = true ∧ (bootU dbgRun []).1.entState ≠ entFAILED ∧
    (bootU dbgRun []).1.ent.inst = true ∧ (bootU dbgRun []).1.get F.ENT.REQCNT.since < 1024 ∧ (bootU dbgRun []).1.reaches .probe R.LC.DBG_CTRL := by
  unfold State.reaches; decide +kernel

/-- The probe port at level `l`; at an address with autoinc; a read or a posted write that ran past its frame. -/
def prb (l : Nat) : State := up.put F.LC.STATE.probe l
def prbAt (a : Nat) (auto : Bool) : State := { prb 3 with prb := { (prb 3).prb with addr := a, autoinc := auto } }
def prbRun (r : Option Word) : State := { prbAt 0x20000040 true with prb := { (prbAt 0x20000040 true).prb with run := some r } }
theorem witness_ProbeFrames : up.pdOn 13 = true ∧ (prb 2).prbListens = true ∧ (0 : BitVec 2) ≠ 2 ∧ prbParity 1 0 true = false ∧ prbParity 1 0 false = true ∧
    prbParity 1 0x0C false = true ∧ (prb 0).prbListens = true ∧ (prb 0).probeLevel < 2 ∧ 2 ≤ (prb 2).probeLevel ∧ prbParity 1 0x05 false = true ∧
    prbParity 1 0x0B true = true ∧ prbParity 2 5 false = true ∧ prbParity 2 8 true = true ∧ prbParity 2 2 true = true ∧ (prb 2).prb.run = none ∧
    (prb 2).prb.wfail = none ∧ crc8 (bytesLE 4 0) = (0 : Byte).toNat ∧ crc8 (bytesLE 4 0) ≠ (1 : Byte).toNat := by decide +kernel
theorem witness_ProbeAccesses : (prbAt 0x20000040 true).prbListens = true ∧ (prbAt 0x20000040 true).prb.run = none ∧ (prbAt 0x20000040 true).prb.word = none ∧
    (prbAt 0x20000040 true).prb.bad = none ∧ (prbAt 0x20000040 true).prb.wfail = none ∧ (prbAt 0x20000040 true).prb.addr % 4 = 0 ∧
    (prbAt 0x20000040 true).probeMay false 0x20000040 = true ∧ (prbAt 0x20000040 true).probeMay true 0x20000040 = true ∧
    ({ prb 0 with prb := { (prb 0).prb with addr := 0x20000040 } }).probeMay true 0x20000040 = false ∧ regionOf 0x20000040 = .sramF ∧
    ({ prb 2 with prb := { (prb 2).prb with word := some 5 } }).prb.word = some 5 ∧ (prbRun none).prb.run = some none ∧
    (prbRun (some 7)).prb.run = some (some 7) ∧ (prb 0).probeLevel < 2 ∧ regionOf 0x01000000 ≠ .pages := by decide +kernel
theorem witness_ProbeAccess_ok : ∃ x y z w, (prbAt 0x20000040 true).prbServed.probeLoad 0x20000040 .ok = (x, .val 0) ∧
    (prbAt 0x20000040 true).prbServed.probeStore 0x20000040 9 .ok = (y, none) ∧
    ({ prbRun none with prb := { (prbRun none).prb with run := none } }).probeLoad 0x20000040 .ok = (z, .val 0) ∧
    ({ prbRun (some 7) with prb := { (prbRun (some 7)).prb with run := none } }).probeStore 0x20000040 7 .ok = (w, none) :=
  ⟨_, _, _, _, rfl, rfl, rfl, rfl⟩

/-- Core 0 halted, at level 3 (or running in the Field at level 2), with RSEL at `rsel`. -/
def hlt (rsel : Nat) : State := { prb 3 with prb := { (prb 3).prb with rsel := rsel } }.modCore .core0 fun k => { k with halted := true }
def run2 (w : World) : State := (prb 2).modCore .core0 fun k => { k with world := w }
theorem witness_ProbeCores : (run2 .field).prbListens = true ∧ 2 ≤ (run2 .field).probeLevel ∧ (run2 .field).core0.powered = true ∧
    (run2 .field).core0.halted = false ∧ (run2 .field).core0.world = .field ∧ (run2 .glass).core0.world = .glass ∧ (run2 .glass).probeLevel < 3 ∧
    (fld.modCore .core0 fun k => { k with haltPending := true, rom := none }).core0.haltDue = true ∧ (hlt 0).prbCore = .core0 ∧
    (hlt 0).prbListens = true ∧ (hlt 0x401F).core0.halted = true ∧ (hlt 0x401F).probeLevel = 3 ∧ bitAt (hlt 0x401F).prb.rsel 14 = true ∧
    (hlt 0x401F).prb.rsel % 2 ^ 12 = 31 ∧ (hlt 0x7107).prb.rsel % 2 ^ 12 = 0x107 ∧ (hlt 0x7107).prb.rsel / 2 ^ 12 % 4 = 3 ∧ (hlt 0x200).prb.rsel % 2 ^ 12 = 0x200 ∧
    (run2 .field).prb.rsel % 2 ^ 12 < 32 ∧ bitAt (run2 .field).prb.rsel 14 = false := by decide +kernel

/-- The entropy block running with all sources; in start-up; under test. -/
def ent (st ok : Nat) : State := { (up.put F.ENT.STAT.state st).put F.ENT.STAT.src_ok ok with ent := { up.ent with inst := decide (st = 2), testing := false, seed := none, stalled := [] } }
def entT (st : Nat) : State := { ent st 15 with ent := { (ent st 15).ent with testing := true } }
def entS : State := { ent 2 15 with ent := { (ent 2 15).ent with seed := some 7, bg := true } }
theorem witness_EntropyBlock : (ent 2 3).pdOn 10 = true ∧ (ent 2 3).ent.testing = false ∧ ((ent 2 3).get F.ENT.STAT.src_ok).testBit 0 = true ∧
    (ent 2 15).entState = entRUN ∧ (ent 2 15).reaches .core0 R.ENT.CTRL ∧ (ent 2 15).unhindered .core0 pageENT ∧ F.ENT.CTRL.restart.get 0 = 0 ∧
    (entT 3).ent.testing = true ∧ (ent 1 15).entState = entSTARTUP ∧ (ent 1 15).ent.seed = none ∧
    2 ≤ ((numsFrom 4 0).filter fun j => ((ent 1 15).get F.ENT.STAT.src_ok).testBit j).length ∧ entS.ent.seed = some 7 ∧ entS.ent.inst = true ∧
    entS.ent.bg = true ∧ (ent 2 15).core0.executing = true ∧ (ent 2 15).get F.ENT.REQCNT.since < 1024 ∧ (ent 2 15).readable .core0 R.ENT.DATA ∧
    ({ ent 2 15 with ent := { (ent 2 15).ent with fifo := [5] } }).ent.fifo = [5] ∧ (ent 1 15).ent.fifo = [] ∧ (ent 1 15).entState ≠ entRUN ∧
    ((ent 1 15).put F.ENT.CTRL.mode 1).on F.ENT.CTRL.mode = true ∧ (ent 1 15).on F.ENT.CTRL.mode = false ∧ (∀ x ∈ (ent 1 15).ent.stalled, x.ini ≠ .core0) ∧
    ({ ent 1 15 with ent := { (ent 1 15).ent with stalled := [⟨.host, .field, none, 1⟩] } }).ent.stalled = [⟨.host, .field, none, 1⟩] := by
  unfold State.reaches State.unhindered State.readable; decide +kernel

/-- Ring `n` of client `cl` in RUN: 8 descriptors at 0x20008000, a segment of 64 KB at 0x20000000, one descriptor posted. -/
def ring (s : State) (n cl : Nat) : State :=
  ((((s.setReg (R.RING.CFG + 32 * n) (BitVec.ofNat 32 (3 + 256 * cl))).setReg (R.RING.DBASE + 32 * n) 0x20008000).setReg (R.RING.SBASE + 32 * n) 0x20000000).setReg
    (R.RING.SLEN + 32 * n) 0x10000).setReg (R.RING.IDX + 32 * n) 1 |>.setReg (R.RING.CTL + 32 * n) 1
/-- Key slot 2 of a type, with every usage. -/
def keyed (type len : Nat) : State := (ent 2 15).setSlot 2 ⟨attrWord type true 0xFF true len, List.replicate len 1⟩
/-- A cipher job in ring 32's first descriptor: its record (R333) at 0x20000100, input at 0x20000200, auxiliary data at 0x20000300, output to
0x20000400. -/
def jobR (op mode flags auxLen inLen outCap dst attr : Nat) : List Byte :=
  [BitVec.ofNat 8 op, BitVec.ofNat 8 mode, 2, BitVec.ofNat 8 flags, 0, 0] ++ bytesLE 2 auxLen ++ bytesLE 4 0x20000200 ++ bytesLE 4 inLen ++ bytesLE 4 0x20000400 ++
    bytesLE 4 outCap ++ bytesLE 4 0x20000300 ++ bytesLE 4 0 ++ List.replicate 24 0 ++ [BitVec.ofNat 8 dst, 0, 0, 0] ++ bytesLE 4 attr
def job (s : State) (r : List Byte) : State :=
  ((ring s 32 8).setBytes 0x20008000 (bytesLE 4 0x20000100 ++ bytesLE 4 64 ++ bytesLE 4 0x30000 ++ bytesLE 4 0)).setBytes 0x20000100 r
/-- SHA-256 over 16 zero bytes; the same job with a reserved mode; the states and values along the way. -/
def hashJob (mode : Nat) : State := job (keyed 4 32) (jobR 3 mode 3 0 16 32 0 0)
def hjS (m : Nat) : State := (hashJob m).slotTo [] 32
def hjV (m : Nat) : State := ((hjS m).fetchDesc 32 0 .ok).1
def hjD (m : Nat) : Desc := ((hjS m).fetchDesc 32 0 .ok).2.getD ⟨0, 0, 0, 0, 0, 0, .ok⟩
def hjB (m : Nat) : State × List Byte × Bool := (hjV m).dmaLoad .cipher .field .ok 0x20000100 64
def hjU (m : Nat) : State := (hjB m).1.drbgTake
def hjI : State × List Byte × Bool := (hjU 0).dmaLoad .cipher .field .ok 0x20000200 16
theorem hashJob_offered : (hashJob 0).offersJob 32 (hjD 0) (JobRec.of (hjB 0).2.1) .ok (hjB 0).1 :=
  ⟨by decide +kernel, by decide +kernel, by decide +kernel, by decide +kernel, hjV 0, (hjB 0).2.1, by decide +kernel, by decide +kernel, by decide +kernel,
    by decide +kernel, rfl⟩
theorem hashJob_bad_offered : (hashJob 9).offersJob 32 (hjD 9) (JobRec.of (hjB 9).2.1) .ok (hjB 9).1 :=
  ⟨by decide +kernel, by decide +kernel, by decide +kernel, by decide +kernel, hjV 9, (hjB 9).2.1, by decide +kernel, by decide +kernel, by decide +kernel,
    by decide +kernel, rfl⟩
theorem hashJob_served (m : Nat) (h : m = 0 ∨ m = 9) : (hjB m).1.jobServed (JobRec.of (hjB m).2.1) (hjU m) := by
  rcases h with rfl | rfl <;> exact ⟨by decide +kernel, by decide +kernel⟩
theorem witness_CipherJobs : (JobRec.of (hjB 0).2.1).op = opHASH ∧ (JobRec.of (hjB 9).2.1).op = opHASH ∧
    (hjU 9).jobCheck 32 .field (JobRec.of (hjB 9).2.1) ≠ rcOK ∧
    (hjB 0).1.jobInput 32 (JobRec.of (hjB 0).2.1) .ok hjI.1 [] [] hjI.2.1 ∧
    (∃ z o, hjI.1.jobRun 32 .field (JobRec.of (hjB 0).2.1) [] [] hjI.2.1 [] = some (z, o)) ∧ opHASH ≠ opAES ∧ (hashJob 0).drbgWaits = false ∧ up.drbgWaits = true := by
  refine ⟨by decide +kernel, by decide +kernel, by decide +kernel, ⟨hjU 0, hjI.1, hjI.1, hashJob_served 0 (.inl rfl), ?_, ?_, ?_, ?_, ?_, .inl ⟨?_, rfl, rfl⟩⟩,
    ⟨_, _, rfl⟩, by decide, ?_, ?_⟩
  all_goals decide +kernel
/-- What a job computes with key slot 2 of a type: its code. -/
def code (type len : Nat) (op mode flags : Nat) (aux data : List Byte) (dst : Nat := 0) (attr : Nat := 0) : Option Nat :=
  ((keyed type len).jobRun 32 .field (JobRec.of (jobR op mode flags aux.length data.length 64 dst attr)) aux [] data []).map (·.2.code)
theorem witness_CipherResults : code 4 32 opHASH 0 3 [] [1] = some rcOK ∧ code 4 32 opHMAC 0 3 [] [1] = some rcOK ∧ code 0 16 opAES 5 3 [] [1] = some rcOK ∧
    code 0 16 opAES 0 3 [] (List.replicate 16 0) = some rcOK ∧ code 2 32 opDERIVE 0 0x20 [1] [2] 3 0x100000 = some rcOK ∧
    code 4 32 opLOAD 0 0x20 [] (List.replicate 16 1) 3 0 = some rcOK ∧ code 4 32 opKEYGEN 0 0x20 [] [] 3 0 = some rcOK ∧
    code 4 32 opZERO_SLOT 0 0 [] [] = some rcOK ∧ code 4 32 opCPN_DROP 0 0 [] [] = some rcOK ∧
    code 6 32 opED25519 0 3 [] [1] = some rcOK ∧ code 5 32 opECDSA 0 7 (List.replicate 64 0) (List.replicate 96 0) = some rcAUTH := by decide +kernel
/-- A coupon of a kind being filled; the pool with that one coupon; a public-key job that runs, alone and below a ring of a higher class. -/
def refill : State := let s := { keyed 5 32 with cry := { (keyed 5 32).cry with refill := some (1, 0) } }; s.setSlot 1 ⟨attrWord keyAES256 false 0 false 32 + 16384, List.replicate 32 2⟩
def couponText : List Byte × List Byte := gcmMode (List.replicate 32 2) (couponIv 1 0) (bytesLE 4 1 ++ bytesLE 4 1 ++ bytesLE 4 0) (List.replicate 64 3) true
def pool : State :=
  let s := { refill with cry := { refill.cry with refill := none } }
  { s with mem := s.mem ++ (numsFrom 96 0x30004000).zip (bytesLE 4 1 ++ bytesLE 4 1 ++ bytesLE 4 1 ++ bytesLE 4 0 ++ couponText.1 ++ couponText.2.take 12 ++ bytesLE 4 0x43500001) }
def cpnRec : JobRec := JobRec.of (jobR opCPN_HOLD 0 0 0 0 0 0 0)
theorem witness_coupons : (pool.jobRun 32 .field cpnRec [] [] [] []).map (·.2.code) = some rcOK ∧ pool.heldOf .field = none ∧
    (pool.jobCoupon 32 .field (JobRec.of (jobR opECDSA 0 8 0 32 64 0 0)) []).2.1 = rcOK ∧
    ((pool.jobCoupon 32 .field (JobRec.of (jobR opECDSA 0 8 0 32 64 0 0)) []).2.2).isSome = true ∧
    refill.cry.refill = some (1, 0) ∧ refill.cry.run = none ∧ refill.pdOn 9 = true ∧ refill.slotValid 1 = true ∧ refill.zgen < 2 ^ 32 := by decide +kernel
def pkJob : Job := ⟨32, ⟨0x20008000, 0, 0, 0, 0, 0, .ok⟩, opECDSA, 0, 0, 0, 0x20000400, [], none, none⟩
def running (s : State) : State := { s with cry := { s.cry with run := some pkJob } }
theorem witness_CipherEngine : (running (keyed 5 32)).cry.run = some pkJob ∧ (running (keyed 5 32)).cry.suspended = [] ∧ pkJob.status = rcOK ∧ pkJob.out = [] ∧
    pkJob.ctx = none ∧ ({ pkJob with status := 6 }).status ≠ rcOK ∧ pkJob.publicKey = true ∧
    (∀ n ∈ numsFrom 16 32, (running (keyed 5 32)).jobReady n = false) ∧
    (running ((ring (keyed 5 32) 33 8).put (F.RING.CFG.class.ring 32) 2)).jobReady 33 = true ∧
    (running ((ring (keyed 5 32) 33 8).put (F.RING.CFG.class.ring 32) 2)).ringClass 33 < (running ((ring (keyed 5 32) 33 8).put (F.RING.CFG.class.ring 32) 2)).ringClass 32 := by
  decide +kernel
def idleEngine : State :=
  let s := (((refill.put F.PWR.PATH.src 1).put F.CRY.CPN_CFG.ecdsa_target 2).put F.CRY.CPN_CFG.refill_en 1)
  { s with cry := { s.cry with refill := none }, ent := { s.ent with scanning := false } }
theorem witness_CouponRefill : idleEngine.cry.run = none ∧ idleEngine.cry.refill = none ∧ idleEngine.cry.suspended = [] ∧ idleEngine.nextJobRing = none ∧
    idleEngine.ent.scanning = false ∧ idleEngine.refillKind = some 1 ∧ idleEngine.refillRecord = some 0 ∧ idleEngine.reaches .core0 R.KEY.CTRL ∧
    idleEngine.unhindered .core0 pageKEY := by unfold State.reaches State.unhindered; decide +kernel

/-- Cloche source `n` enabled with response `r`, and a detection of it on both twins. -/
def clo (n r : Nat) : State := (up.put (F.CLO.RESP.en.idx 4 n) 1).put (F.CLO.RESP.resp.idx 4 n) r
def det (n : Nat) : Det := ⟨Fin.ofNat 32 n, true, true, 0, true, true, 6300⟩
theorem witness_ClocheDetections : (clo 18 (2 ^ rspCHIP)).cloReport = [] ∧ (clo 18 (2 ^ rspCHIP)).cloWatches 18 = true ∧
    ((det 18).a && (clo 18 0).twinA 18) = true ∧ ((clo 18 (2 ^ rspCHIP)).cloResponse 18).testBit rspCHIP = true ∧
    ((clo 18 (2 ^ rspCHIP)).cloResponse 18).testBit rspRETIRE = false ∧ ((clo 18 (2 ^ rspZERO)).cloResponse 18).testBit rspZERO = true ∧
    ((clo 18 (2 ^ rspRETIRE)).cloResponse 18).testBit rspRETIRE = true ∧ ((clo 18 (2 ^ rspRETIRE)).cloResponse 18).testBit rspCHIP = false ∧
    (clo 18 (2 ^ rspRETIRE)).lcState ≠ lcRETIRED ∧ (clo 18 (2 ^ rspRETIRE)).lc.xfer = none ∧
    ((clo 18 (2 ^ rspSEVERE)).cloResponse 18).testBit rspSEVERE = true ∧ ((clo 18 (2 ^ rspSEVERE)).cloResponse 18).testBit rspCORE = false ∧
    (clo 18 0).core0.powered = true ∧ (det 18).src.val ≠ 23 ∧ aimsAt (det 18) .core0 = true ∧ (asleep 2 0).aon.pstate = 2 ∧
    (asleep 2 0).twinA 19 = true ∧ 4 * ((asleep 2 0).get F.CLO.TEMP.t_hi : Int) < (127 : BitVec 16).toInt + 256 ∧ up.aon.pstate ≤ 1 ∧
    (ent 2 15).pdOn 9 = true ∧ (ent 2 15).ent.inst = true ∧ (ent 2 15).get F.ENT.REQCNT.since < 1024 := by decide +kernel
theorem witness_ClocheTests : up.reaches .core0 R.CLO.BIST_A ∧ up.reaches .core0 R.CLO.BIST_B ∧ up.reaches .core0 (R.CLO.RESP + 4 * 31) ∧ up.unhindered .core0 pageCLO ∧
    (up.put F.CLO.BIST_A.run 1).get F.CLO.BIST_A.run = 1 ∧ ((up.put F.CLO.BIST_B.run (2 ^ 31)).get F.CLO.BIST_B.run).testBit 31 = true ∧
    ((up.put F.CLO.TWFAIL_B.fail 1).get F.CLO.TWFAIL_B.fail).testBit 0 = true := by unfold State.reaches State.unhindered; decide +kernel

/-- Ring `n` in a state of R389; a ring whose fields are set for a client. -/
def rg (n st : Nat) : State := (ring up n 1).put (F.RING.CTL.state.ring n) st
theorem witness_RingCommands : (∀ n : Fin 96, up.reaches .core0 (R.RING.CTL + 32 * n) ∧ up.reaches .core0 (R.RING.IDX + 32 * n)) ∧ up.unhindered .core0 pageRING ∧
    fld.on (F.RING.CFG.world.ring 5) = false ∧ (∀ st, st < 5 → (rg 5 st).ringState 5 = st) ∧ (rg 5 0).ringClient 5 ≠ clNONE ∧
    (rg 5 0).ringSbase 5 + (rg 5 0).ringSlen 5 ≤ 2 ^ 32 ∧ (rg 5 0).ringFixed 5 = false ∧ up.ringClient 5 = clNONE ∧
    (∀ e, (rg 5 ringPAUSING).trl.cur = some e → e.1 ≠ 5) ∧ (rg 5 ringPAUSING).cry.run = none ∧ (rg 5 ringPAUSING).cry.suspended = [] ∧
    (rg 5 ringPAUSING).gcb.job = none ∧ (8 + 65536 - (rg 5 1).cidx 5) % 65536 = (rg 5 1).ringEntries 5 ∧ (rg 5 1).ringEntries 5 < (9 + 65536 - (rg 5 1).cidx 5) % 65536 ∧
    (fld.put (F.HDR.OWNER.owner.onPage pageRING) 1).iniWorld .core0 = .field ∧ fld.reaches .core0 (R.RING.IDX + 32 * 5) ∧
    (fld.put (F.RING.CFG.world.ring 5) 1).on (F.RING.CFG.world.ring 5) = true ∧ 1 ≠ fld.pidx 5 := by
  unfold State.reaches State.unhindered; decide +kernel
theorem witness_RingConfiguration : (∀ w : Fin 4, up.reaches .core0 (R.RING.CFG + 32 * 95 + 4 * w)) ∧ (rg 5 0).ringState 5 = ringDISABLED ∧
    (rg 5 1).ringState 5 ≠ ringDISABLED ∧ 3 ≤ (F.RING.CFG.lsize.ring 5).get (0x103 : Word) ∧ (F.RING.CFG.client.ring 5).get (0x103 : Word) = 1 ∧
    (F.RING.CFG.irq.ring 5).get (0x60002 : Word) = 3 ∧ (F.RING.CFG.lsize.ring 5).get (0x60002 : Word) < 3 ∧ up.on (F.HDR.FAULT.valid.onPage pageRING) = false ∧
    up.pdOn 11 = true ∧ (up.put (F.RING.GCFG.holdoff_us.idx 8 31) 9).get (F.RING.GCFG.holdoff_us.idx 8 31) ≠ 0 ∧
    (up.put (F.RING.GSTAT.pending.idx 8 31) 1).get (F.RING.GSTAT.pending.idx 8 31) ≠ 0 ∧ (∀ g : Fin 32, up.reaches .core0 (R.RING.GSTAT + 8 * g)) := by
  unfold State.reaches; decide +kernel

/-- Ring 3 of ETH0_RX with a posted descriptor (buffer 0x20000100, 256 bytes), and frames of port 0. -/
def udp : List Byte := [1, 2, 3, 4, 5, 6, 7, 8, 9, 10, 11, 12, 8, 0, 0x45, 0, 0, 28, 0, 0, 0, 0, 64, 17, 0x66, 0xcf, 10, 0, 0, 1, 10, 0, 0, 2, 0, 80, 0, 81, 0, 8, 0, 0]
def rxRing (s : State) (n cl : Nat) : State := (ring s n cl).setBytes 0x20008000 (bytesLE 4 0x20000100 ++ bytesLE 4 256 ++ bytesLE 4 0 ++ bytesLE 4 0)
def rxd : State := { rxRing up 3 clETH0_RX with trl := { up.trl with rx := [⟨3, udp, 7, 1, false⟩] } }
def rxd5 : State := { ring rxd 5 clETH0_RX with trl := { rxd.trl with rx := rxd.trl.rx ++ [⟨5, udp, 7, 1, false⟩], last := 95 } }
/-- Ring 3 of class bulk, its head waiting for `t` ticks where SCHED.age_us is 50. -/
def aging (t : Nat) : State := { ((rxd5.put (F.RING.CFG.class.ring 3) 3).put F.TRL.SCHED.age_us 50) with trl := { rxd5.trl with waits := [⟨3, 0, t, false⟩] } }
theorem witness_ServiceChoice : rxd5.nextRing [] = some 3 ∧ rxd5.trl.last < 96 ∧ rxd5.eligible 5 = true ∧ rxd5.effClass [] 5 = rxd5.effClass [] 3 ∧
    (aging 50).effClass [3] 3 = 1 ∧ (aging 51).effClass [] 3 = 1 ∧ (aging 50).effClass [] 3 = 3 ∧ (aging 49).effClass [3] 3 = 3 ∧ 5 < 96 := by decide +kernel
def rxF : State × Option Desc := rxd.fetchDesc 3 0 .ok
def rxCur : State := { rxd with trl := { rxd.trl with cur := some (3, [⟨0x20008000, 0x20000100, 256, 0, 0, 0, .ok⟩]) } }
def txd (sop : Nat) (len : Nat) : State := (ring (up.put F.ETH.CTRL.en 1) 4 clETH0_TX).setBytes 0x20008000 (bytesLE 4 0x20000100 ++ bytesLE 4 len ++ bytesLE 4 (0x20000 + sop * 0x10000) ++ bytesLE 4 9)
def txCur (s : State) (ds : List Desc) : State := { s with trl := { s.trl with cur := some (4, ds) } }
def txD (sop : Nat) (len code : Nat) : Desc := ⟨0x20008000, 0x20000100, len, 0x20000 + sop * 0x10000, 9, code, .ok⟩
theorem witness_WriteBack : (rxd.descFault 3 true 0x20008000 .ok).2 = 0 ∧ isDevice 0x40000000 = true ∧ isDevice 0x01000000 = false ∧ hasTags 0x01000000 = false ∧
    rxd.ringFixed 3 = false ∧ isDevice ((rxd.setReg (R.RING.DBASE + 32 * 3) 0x40000000).descAddr 3 0) = true ∧
    isDevice ((rxd.setReg (R.RING.DBASE + 32 * 3) 0x01000000).descAddr 3 0) = false ∧ hasTags ((rxd.setReg (R.RING.DBASE + 32 * 3) 0x01000000).descAddr 3 0) = false ∧
    (rxd.put (F.RING.CFG.fixed.ring 3) 1).ringFixed 3 = true := by decide +kernel
theorem witness_DescriptorService : rxd.pdOn 11 = true ∧ rxd.trl.cur = none ∧ rxd.nextRing [] = some 3 ∧ clientRx (rxd.ringClient 3) = true ∧
    (∃ y d, rxd.fetchDesc 3 (rxd.cidx 3) .ok = (y, some d)) ∧ rxF.1.judgeDesc 3 ⟨0x20008000, 0x20000100, 256, 0, 0, 0, .ok⟩ = rcOK ∧
    rxF.1.judgeDesc 3 ⟨0x20008000, 0x10000100, 256, 0, 0, 0, .ok⟩ ≠ rcOK ∧ rxCur.trl.cur = some (3, [⟨0x20008000, 0x20000100, 256, 0, 0, 0, .ok⟩]) ∧
    clientTx (rxCur.ringClient 3) = false ∧ rxCur.trl.rx.find? (fun e => decide (e.ring = 3)) = some ⟨3, udp, 7, 1, false⟩ ∧
    clientTx ((txd 1 60).ringClient 4) = true ∧ (txd 1 60).nextRing [] = some 4 ∧ (txD 0 60 0).sop = false ∧ (txD 1 60 0).sop = true ∧
    (txD 1 60 3).code ≠ rcOK ∧ ((txCur (txd 1 60) [txD 1 60 0]).txGather 4 .ok [txD 1 60 0]).2.2.2 = true ∧ 14 ≤ (txD 1 60 0).len ∧ (txD 1 60 0).len ≤ 1518 ∧
    ¬ 14 ≤ (txD 1 13 0).len ∧ ((txCur ((txd 1 60).put (F.PWR.DOMAIN.on.bit 4) 0) [txD 1 60 0]).txGather 4 .ok [txD 1 60 0]).2.2.2 = false := by
  refine ⟨by decide +kernel, by decide +kernel, by decide +kernel, by decide +kernel, ⟨_, _, rfl⟩, ?_⟩
  decide +kernel

def fr (port : Nat) (b : List Byte) (err : Bool) : InFrame := ⟨port, b, err, 5⟩
def cls (b : List Byte) : State := { up with rin := [fr 1 b false, fr 0 b false] }
def rl (act : Nat) : State := { cls udp with rules := [(9, ⟨[0, 0, 0, 0, 0], [0, 0, 0, 0, 0], act⟩)] }
theorem witness_Classification : up.rin = [] ∧ (cls udp).rin ≠ [] ∧ (∀ f ∈ (cls udp).rin, f.port < 3) ∧ (fr 0 udp false).parse.cause = 0 ∧
    (fr 0 [] false).parse.cause ≠ 0 ∧ (fr 0 udp true).err = true ∧ ((cls udp).put F.RDL.CTRL.bypass 1).on F.RDL.CTRL.bypass = true ∧
    actEn ((cls udp).rule 9).act = false ∧ actEn ((rl 8).rule 9).act = true ∧ (∀ n, n < 9 → actEn ((rl 8).rule n).act = false) := by decide +kernel
theorem witness_Actions : actPrimary 0 = actDROP ∧ actMirror 0 = false ∧ actPrimary 3 = actPUNT ∧ up.ringClient 0 = clNONE ∧ rxd.ringClient 3 = clETH0_RX ∧
    rxd.ringWorld 3 = .field ∧ (rxRing up 3 1).ringTakes 3 = true ∧ rxd.ringTakes 3 = false ∧ actRing 0x33 = 3 ∧ actPrimary 0x33 = actPUNT ∧
    actEgress 0x4001 = 1 ∧ up.egressReady 1 = false ∧ (up.put (F.ETH.CTRL.en.idx 0x1000 1) 1).egressReady 1 = true ∧
    (up.converted (fr 0 udp false) 1).isSome = true ∧ actEgress 0x8001 = 2 ∧ (up.put F.RLP.CTRL.tx_en 1).egressReady 2 = true ∧
    (up.converted (fr 0 udp false) 2).isSome = true ∧ actPrimary 0x4032 = actCOPY ∧ actMirror 4 = true ∧ actPrimary 4 = actDROP ∧
    (rxRing (up.setReg R.RDL.MIRROR 0x30) 3 clMIRROR).ringTakes (actRing 0x30) = true ∧ (fr 0 [] false).parse.cause ≠ 0 := by decide +kernel
def rt (sel act : Nat) : State := (up.put F.RDLT.SEL.rule sel).put F.RDLT.ACT.action act
theorem witness_RuleTable : (rt 127 0x33).reaches .core0 R.RDLT.CMD ∧ (rt 127 0x33).get F.RDLT.SEL.rule = 127 ∧ actOk 0x33 = true ∧ actOk 0xC001 = false ∧
    127 < (rt 128 0).get F.RDLT.SEL.rule ∧ ((rt 127 0).rule 127).value.length = 5 ∧ ((rt 127 0).rule 127).mask.length = 5 ∧
    (∀ k : Fin 4, up.reaches .core0 (R.RDL.DFLT + 4 * k)) ∧ actGsize 0x30 ≤ 3 ∧ actRing 0x30 % 2 ^ actGsize 0x30 = 0 ∧ ¬ actGsize 0x2000 ≤ 3 ∧
    up.on (F.HDR.FAULT.valid.onPage pageRDLT) = false := by unfold State.reaches; decide +kernel

def rf (n : Nat) : List Byte := [1, 0, 0, 0, 0, BitVec.ofNat 8 n] ++ List.replicate n 7
def sv (q : List QFrame) (w : List (List Byte)) : State := { (up.put F.PWR.DOMAIN.on 0x37FF).put F.RLP.SV_QCFG.age 5 with sieve := ⟨q, w, false, false⟩ }
theorem witness_WakeSieve : (sv [] [rf 4]).sieve.waiting = rf 4 :: [] ∧ (sv [] [rf 4]).pdOn 11 = false ∧ (sv [] [rf 4]).pdOn 1 = true ∧
    (parseRadio [1, 0, 0, 0, 0, 9]).cause ≠ 0 ∧ (parseRadio (rf 4)).cause = 0 ∧ (sv [] []).on F.RLP.SV_CFG.en = false ∧
    ((sv [] []).put F.RLP.SV_CFG.en 1).on F.RLP.SV_CFG.en = true ∧
    (∀ n, n < 16 → ((sv [] []).put F.RLP.SV_CFG.en 1).sieveHit n (((sv [] []).put F.RLP.SV_CFG.en 1).sieveKey (rf 4)) = false) ∧
    ((sv [] []).put (F.RLP.SV_RULE.en.idx 32 15) 1).sieveHit 15 (((sv [] []).put (F.RLP.SV_RULE.en.idx 32 15) 1).sieveKey (rf 4)) = true ∧ up.pdOn 11 = true ∧
    queueFits [] (rf 4).length = true ∧ queueFits (List.replicate 8 ⟨rf 100, true, 0⟩) (rf 4).length = false ∧
    queueFits (⟨rf 100, false, 0⟩ :: List.replicate 7 ⟨rf 100, true, 0⟩) (rf 4).length = false ∧ queueFits (List.replicate 7 ⟨rf 100, true, 0⟩) (rf 4).length = true ∧
    (sv [⟨rf 4, true, 0⟩] []).sieve.queue ≠ [] ∧ (sv [⟨rf 4, true, 0⟩] []).get F.RLP.SV_QCFG.age ≠ 0 := by decide +kernel

def ethUp (ctrl : Nat) : State := (((up.put (F.PWR.IOGRP.present.bit 0) 1).setReg R.ETH.CTRL (BitVec.ofNat 32 ctrl)).put F.ETH.CTRL.en 1).put F.ETH.STAT.ref_ok 1
def good (n : Nat) : List Byte := let b := List.replicate 6 (0xFF : Byte) ++ List.replicate (n - 10) 1; b ++ bytesLE 4 (crc32 b)
theorem witness_EthernetReceive : up.ethRuns 0 = false ∧ (ethUp 0).ethRuns 0 = true ∧ ([] : List Byte).length < 6 ∧
    frameNum [2, 0, 0, 0, 0, 0] 0 6 ≠ 2 ^ 48 - 1 ∧ (ethUp 0).on (F.ETH.CTRL.promisc.ethPort 0) = false ∧
    frameNum [2, 0, 0, 0, 0, 0] 0 6 ≠ 2 ^ 32 * (ethUp 0).get (F.ETH.MAC_HI.addr.ethPort 0) + (ethUp 0).get (F.ETH.MAC_LO.addr.ethPort 0) ∧
    (ethUp 0).on (F.ETH.CTRL.mcast.ethPort 0) = false ∧ frameNum (good 64) 0 6 = 2 ^ 48 - 1 ∧ (good 64).length = 64 ∧ (good 63).length < 64 ∧
    1522 < (List.replicate 1523 (0xFF : Byte)).length ∧ frameNum (List.replicate 1523 0xFF) 0 6 = 2 ^ 48 - 1 ∧
    crc32 ((good 64).take 60) = natLE ((good 64).drop 60) ∧ (ethUp 0).on (F.ETH.CTRL.pass_bad.ethPort 0) = false ∧
    ((ethUp 0).put F.ETH.CTRL.pass_bad 1).on (F.ETH.CTRL.pass_bad.ethPort 0) = true ∧ (ethUp 0).ethFifo 0 + 64 ≤ 2048 ∧
    2048 < ({ ethUp 0 with rin := [fr 0 (List.replicate 1500 0) false, fr 0 (List.replicate 500 0) false] }).ethFifo 0 + 64 := by decide +kernel
theorem witness_EthernetTransmit : ({ ethUp 0 with eth0 := ⟨some udp, [], true, 0⟩ }).ethRuns 0 = true ∧ (⟨some udp, [], true, 0⟩ : EthPort).fwd = [] ∧
    (⟨some udp, [udp], false, 0⟩ : EthPort).lastRing = false ∧ (⟨some udp, [udp], true, 0⟩ : EthPort).lastRing = true ∧ (ethUp 0).eth0.ring = none ∧ (ethUp 0).eth0.fwd = [] ∧
    (ethUp 0).pdOn 11 = true ∧ (ethUp 0).on (F.ETH.STAT.ref_ok.ethPort 0) = true ∧ (ethUp 0).on (F.ETH.CTRL.en.ethPort 0) = true ∧ up.reaches .core0 R.ETH.MDIO_CMD ∧
    ({ up with mdio := some ⟨none, true, []⟩ }).mdio.isSome = true ∧ up.mdio = none ∧ F.ETH.MDIO_CMD.op.get 0 ≠ 1 ∧
    F.ETH.MDIO_CMD.op.get (Fld.put F.ETH.MDIO_CMD.op 2 0) = 2 ∧ (up.put F.ETH.POLL.interval 1).get (F.ETH.POLL.interval.ethPort 0) ≠ 0 ∧
    ({ up with mdio := some ⟨some 1, true, []⟩ }).mdio = some ⟨some (1 : Fin 2), true, []⟩ ∧ (up.put F.ETH.STAT.link 1).on (F.ETH.STAT.link.ethPort 0) = true := by
  unfold State.reaches; decide +kernel

/-- A cartridge descriptor: index byte, direction, length and word 3; the host with a descriptor in progress, in host state `st`. -/
def crtJob (i dir len w3 : Nat) : CartJob := ⟨70, ⟨0x20008000, 0x20000100, len, dir * 0x80000 + i * 0x1000000, w3, 0, .ok⟩, false, false, false, none⟩
def crt (j : Option CartJob) (st : Nat) : State := { ((ring up 70 9).put F.GCB.STAT.state st).put F.GCB.CTRL.pwr 1 with gcb := ⟨true, j⟩ }
def rl0 : State := (up.put F.RLP.CTRL.rx_en 1).put F.RLP.CTRL.rate 1
def rl8 : State := ((rl0.put F.RLP.SLOT_LEN.len 8000).put F.RLP.STAT.ref_valid 1).put F.RLP.SLOT_OFF.off 100
def tx (armed : Bool) (n : Nat) : RadioTx := ⟨1, 2, rf n, 9, armed, 0, false⟩
def rlWith (s : State) (r f : Option RadioTx) : State := { s with radio := { s.radio with ring := r, fwd := f } }
theorem witness_RadioReceive : (State.reset.put F.PWR.DOMAIN.on 0).pdOn 1 = false ∧ rl0.pdOn 1 = true ∧ rl0.radio.sending = none ∧ rl0.aon.pstate = 0 ∧
    rl0.on F.RLP.CTRL.rx_en = true ∧ up.radio.wake = false ∧ ({ rl0 with radio := { rl0.radio with sending := some (1, false) } }).radio.sending.isSome = true ∧
    (rf 0).length + 2 = 8 ∧ (rf 1024 ++ [0, 0]).length = 1032 ∧ crc16 (rf 4) = frameNum (bytesBE 2 (crc16 (rf 4))) 0 2 ∧ (bytesBE 2 (crc16 (rf 4))).length = 2 ∧
    crc16 (rf 4) ≠ frameNum [0, 0] 0 2 ∧ rl0.on F.RLP.BCN_MATCH.en = false ∧ (rl0.put F.RLP.BCN_MATCH.en 1).on F.RLP.BCN_MATCH.en = true ∧
    frameNum (rf 4) 4 2 = (rf 4).length - 6 ∧ (frameByte (rf 4) 0 ^^^ (rl0.put F.RLP.BCN_MATCH.en 1).get F.RLP.BCN_MATCH.type) &&&
      (rl0.put F.RLP.BCN_MATCH.en 1).get F.RLP.BCN_MATCH.mask = 0 ∧ rl0.pdOn 11 = true ∧ rl0.sieve.queue = [] ∧ rl0.sieve.waiting = [] ∧
    frameNum [1, 0, 0, 9, 0, 9, 2] 4 2 ≠ [1, 0, 0, 9, 0, 9, 2].length - 6 ∧ (rl0.put (F.PWR.DOMAIN.on.bit 11) 0).pdOn 11 = false ∧
    (rl0.put (F.PWR.DOMAIN.on.bit 11) 0).pdOn 1 = true := by decide +kernel
theorem witness_RadioTransmit : (rlWith rl8 (some (tx true 4)) none).on F.RLP.STAT.ref_valid = true ∧ (rlWith rl8 (some (tx true 4)) none).radio.ring = some (tx true 4) ∧
    (rlWith rl8 none (some (tx true 4))).radio.fwd = some (tx true 4) ∧ (tx true 4).armed = true ∧ (tx true 4).waits = false ∧
    (rlWith rl8 (some (tx true 4)) none).txFits (tx true 4) = true ∧ (rlWith rl8 (some (tx true 500)) none).txFits (tx true 500) = false ∧
    (tx false 4).armed = false ∧ rl0.on F.RLP.STAT.ref_valid = false ∧ ({ rl8 with radio := { rl8.radio with sending := some (255, true) } }).radio.sending = some (255, true) ∧
    1000000 * ((0 : Int) - 1) < (8100 - 0) * (rl8.get F.RLP.SLOT_CFG.tol : Int) ∧ (8100 - 0) * (rl8.get F.RLP.SLOT_CFG.tol : Int) ≤ 1000000 * 0 ∧
    ({ tx true 4 with waits := true }).waits = true ∧ rl8.radio.ring = none := by decide +kernel

theorem witness_CartridgeSupply : (∀ f ∈ [F.GCB.CTRL.resume, F.GCB.CTRL.oc_clr], f.get 1 ≠ 1) ∧ (crt none 1).reaches .core0 R.GCB.CTRL ∧ up.get F.GCB.CTRL.pwr = 0 ∧
    (crt none 1).gcbHost = gcbOFF ∧ (crt none 1).on F.GCB.STAT.oc = false ∧ (up.put (F.PWR.IOGRP.present.bit 2) 1).on (F.PWR.IOGRP.present.bit 2) = true ∧
    up.gcbHost = gcbABSENT ∧ (up.put F.GCB.STAT.oc 1).on F.GCB.STAT.oc = true ∧ (crt none 3).get F.GCB.CTRL.pwr = 1 ∧ 2 ≤ (crt none 2).get F.GCB.STAT.state ∧
    (crt none 2).get F.GCB.STAT.state ≠ gcbON ∧ (crt none 3).gcb.job = none ∧ (crt none 3).on F.GCB.STAT.busy = false ∧ (crt none 3).get F.GCB.STAT.state = gcbON ∧
    (crt (some (crtJob 1 1 4 0)) 3).gcb.job ≠ none ∧ ¬ 2 ≤ up.get F.GCB.STAT.state ∧ (crt none 4).gcbHost = gcbSTOPPED ∧ F.GCB.CTRL.pwr.get 1 = (crt none 4).get F.GCB.CTRL.pwr ∧
    F.GCB.CTRL.oc_clr.get 1 ≠ 1 ∧ (crt none 2).get F.GCB.STAT.state = gcbPOWERING ∧ up.gcb.present = false ∧ (crt none 3).gcb.present = true ∧ (crt none 3).pdOn 12 = true ∧
    (State.reset.put F.PWR.DOMAIN.on 1).pdOn 12 = false := by unfold State.reaches; decide +kernel
def okFrame (st : Nat) : BitVec 48 := let h := bytesBE 1 1 ++ bytesBE 4 st; BitVec.ofNat 48 (natBE (h ++ bytesBE 1 (2 * crc7 h + 1)))
def crtSent (i dir len : Nat) : State := crt (some { crtJob i dir len 7 with sent := true }) 3
def blk (n : Nat) : CartBlock := ⟨List.replicate n 5, [BitVec.ofNat 16 (crc16Line (lineBits false 0 (List.replicate n 5)))]⟩
theorem witness_CartridgeCommands : (crt (some (crtJob 6 1 512 0)) 3).gcb.job = some (crtJob 6 1 512 0) ∧ (crtJob 6 1 512 0).sent = false ∧ (crtJob 6 1 512 0).held = none ∧
    (crtJob 6 1 512 0).retry = false ∧ (crtJob 6 1 512 0).desc.cbyte % 64 = 6 ∧ (crtJob 18 0 64 0).desc.cbyte % 64 = 18 ∧ (crtJob 0 1 4 0).desc.cbyte % 64 = 0 ∧
    (crtJob 7 1 1024 0).desc.cbyte % 64 = 7 ∧ (crt none 3).on F.GCB.STAT.busy = false ∧ (crt none 3).get F.GCB.STAT.state = gcbON ∧
    (crtJob 6 1 512 0).desc.dirIn = true ∧ (crtJob 6 1 512 0).desc.len = 512 ∧ (crtJob 64 1 4 0).desc.cbyte / 64 ≠ 0 ∧ (crt none 1).get F.GCB.STAT.state < 2 ∧
    (crt none 3).on F.GCB.CTRL.pwr = true := by decide +kernel
theorem witness_CartridgeReplies : (crtSent 4 1 4).gcb.job = some { crtJob 4 1 4 7 with sent := true } ∧
    crc7 (bytesBE 5 ((okFrame 0).toNat / 256)) = (okFrame 0).toNat / 2 % 128 ∧ (okFrame 0).toNat % 2 = 1 ∧ statusCode ((okFrame 0).toNat / 256 % 2 ^ 32) = rcOK ∧
    statusCode ((okFrame (2 ^ 24)).toNat / 256 % 2 ^ 32) ≠ rcOK ∧ ((okFrame 0).toNat / 256 % 2 ^ 32).testBit 15 = false ∧ (okFrame 0 ^^^ 2).toNat % 2 = 1 ∧
    crc7 (bytesBE 5 ((okFrame 0 ^^^ 2).toNat / 256)) ≠ (okFrame 0 ^^^ 2).toNat / 2 % 128 ∧
    (State.dmaWriteLen .cart .field .ok 5 ((crtSent 4 1 4).setReg R.GCB.RESP 0) 0x20000100 (bytesLE 4 0)).2 = 4 ∧
    (State.dmaWriteLen .cart .field .ok 5 (((crtSent 4 1 4).put (F.PWR.DOMAIN.on.bit 4) 0).setReg R.GCB.RESP 0) 0x20000100 (bytesLE 4 0)).2 < 4 ∧
    cartBlockGood false 32 (blk 32) = true ∧ cartBlockGood false 32 (blk 31) = false ∧
    (State.dmaWriteLen .cart .field .ok 33 ((crtSent 3 1 32).setReg R.GCB.RESP 0) 0x20000100 (blk 32).data).2 = 32 ∧
    (State.dmaLoad ((crtSent 18 0 64).setReg R.GCB.RESP 0) .cart .field .ok 0x20000100 64).2.2 = true ∧ (crt none 3).on F.GCB.CTRL.busy_wait = false ∧
    ((crt none 3).put F.GCB.CTRL.busy_wait 1).on F.GCB.CTRL.busy_wait = true ∧ (crt none 3).pdOn 12 = true ∧ (crt none 3).gcb.job = none ∧
    (crt (some { crtJob 9 0 512 7 with held := some (0, 512) }) 3).gcb.job = some { crtJob 9 0 512 7 with held := some (0, 512) } := by decide +kernel

/-- The host link serves; mailbox 0 has a ring of the host client with a posted 256-byte descriptor, inbound or (`out`) outbound; a MSG_WRITE body. -/
def hl (out : Nat) : State :=
  ((ring (((up.put (F.PWR.IOGRP.present.bit 3) 1).put F.HLK.CTRL.en 1).put F.HLK.MBDIR.dir out) 56 10).setBytes 0x20008000 (bytesLE 4 0x20000100 ++ bytesLE 4 256 ++ bytesLE 4 (0x80000 * (1 - out)) ++ bytesLE 4 0))
/-- The same with the buffer in PD5's SRAM, which is off. -/
def hlOff (out : Nat) : State := (((hl out).setBytes 0x20008000 (bytesLE 4 0x20040100)).setReg (R.RING.SLEN + 32 * 56) 0x80000).put (F.PWR.DOMAIN.on.bit 5) 0
def msg (op : Byte) (m seq : Nat) (d : List Byte) : List Byte := let b := [BitVec.ofNat 8 m, BitVec.ofNat 8 seq] ++ bytesBE 2 d.length ++ d; b ++ bytesBE 2 (crc16 (op :: b))

theorem witness_HostLink : up.hlkServes = false ∧ (hl 0).hlkServes = true ∧ (hl 0).on F.HLK.CTRL.quad_en = false ∧ frameByte [8, 0] 0 = 8 ∧
    ((hl 0).put F.HLK.MBDIR.dir 1).mbOut 0 = true ∧ (hl 0).mbOut 0 = false ∧ frameNum (msg 0x02 0 9 [1, 2, 3]) 2 2 = 3 ∧ (msg 0x02 0 9 [1, 2, 3]).length = 6 + 3 ∧
    frameNum (msg 0x02 0 9 []) 2 2 = 0 ∧ crc16 (0x02 :: (msg 0x02 0 9 [1, 2, 3]).take 7) = frameNum (msg 0x02 0 9 [1, 2, 3]) 7 2 ∧
    crc16 (0x82 :: (msg 0x02 0 9 [1, 2, 3]).take 7) ≠ frameNum (msg 0x02 0 9 [1, 2, 3]) 7 2 ∧ ((hl 0).get F.HLK.INSEQ_V.valid).testBit 0 = false ∧
    (((hl 0).put F.HLK.INSEQ_V.valid 1).put (mbSeq R.HLK.INSEQ 0) 9).get (mbSeq R.HLK.INSEQ 0) = 9 ∧
    (((hl 0).put F.HLK.INSEQ_V.valid 1).get F.HLK.INSEQ_V.valid).testBit 0 = true ∧
    (match ((hl 0).inc F.HLK.CNT0.frames).mbDesc 0 .ok with
      | (u, some d) => d.len == 256 && (State.dmaWriteLen .host (u.ringWorld 56) .ok 4 u d.w0 [1, 2, 3]).2 == 3 &&
          (State.dmaWriteLen .host (u.ringWorld 56) .ok 4 u d.w0 [1, 2, 3]).2 == 3
      | _ => false) = true ∧
    (match ((hlOff 0).inc F.HLK.CNT0.frames).mbDesc 0 .ok with
      | (u, some d) => (State.dmaWriteLen .host (u.ringWorld 56) .ok 4 u d.w0 [1, 2, 3]).2 != 3
      | _ => false) = true ∧
    (up.mbDesc 0 .ok).2 = none ∧ (hl 1).mbOut 0 = true ∧
    (match ({ (hl 1).inc F.HLK.CNT0.frames with hlkUnderrun := false }.put F.HLK.LASTRD.mbox 0).mbDesc 0 .ok with
      | (u, some d) => (u.dmaLoad .host (u.ringWorld 56) .ok d.w0 d.len).2.2
      | _ => false) = true ∧
    (match ({ (hlOff 1).inc F.HLK.CNT0.frames with hlkUnderrun := false }.put F.HLK.LASTRD.mbox 0).mbDesc 0 .ok with
      | (u, some d) => !(u.dmaLoad .host (u.ringWorld 56) .ok d.w0 d.len).2.2
      | _ => false) = true ∧
    ((hl 1).get (mbSeq R.HLK.OUTSEQ 0) + 1) % 256 = 1 ∧ crc16 (0x04 :: [0, 1]) = frameNum ([0, 1] ++ bytesBE 2 (crc16 (0x04 :: [0, 1]))) 2 2 ∧
    crc16 (0x04 :: [0, 1]) ≠ frameNum [0, 1, 0, 0] 2 2 ∧ crc16 (0x05 :: [2]) = frameNum ([2] ++ bytesBE 2 (crc16 (0x05 :: [2]))) 1 2 ∧
    crc16 (0x05 :: [2]) ≠ frameNum [2, 0, 0] 1 2 ∧ (hl 0).reaches .core0 R.HLK.DOORBELL := by unfold State.reaches; decide +kernel

/-- The management port serves, PEC enabled or not. -/
def mg (pec : Nat) : State := (up.put (F.PWR.IOGRP.present.bit 1) 1).put F.MGP.CFG.pec pec
theorem witness_ManagementTransactions : up.mgpServes = false ∧ (mg 0).mgpServes = true ∧ (mg 0).mgpPec = false ∧ (mg 1).mgpPec = true ∧
    (0 : Byte).toNat ≠ crc8 (BitVec.ofNat 8 (mg 1).mgpAddrW :: [4, 8, 1, 0, 0, 0]) ∧ crc8 (BitVec.ofNat 8 (mg 1).mgpAddrW :: [4, 8, 1, 0, 0, 0]) < 256 ∧
    mgpWindow 5 = false ∧ mgpWindow 4 = true ∧ mgpBounds 4 8 3 = false ∧ mgpBounds 4 8 4 = true ∧ ((mg 0).wakeEvent 4).mgpRules 4 8 [1, 0, 0, 0] = rcOK ∧
    mgpBounds 3 0x40 4 = true ∧ ((mg 0).wakeEvent 4).mgpRules 3 0x40 [65, 0, 0, 0] ≠ rcOK ∧ mgpBounds 3 0 32 = true ∧ mgpByteWise 4 8 = false ∧
    (mg 0).on F.MGP.MBIN_CTL.full = false ∧ ((mg 0).put F.MGP.MBIN_CTL.full 1).on F.MGP.MBIN_CTL.full = true ∧ (64 : Word).toNat % 256 = 64 ∧
    (65 : Word).toNat % 256 = 65 ∧ (mg 0).on F.MGP.MBOUT_CTL.post = false ∧ ((mg 0).put F.MGP.MBOUT_CTL.post 1).on F.MGP.MBOUT_CTL.post = true ∧
    (mg 0).reaches .core0 R.MGP.ALERT ∧ (mg 0).unhindered .core0 pageMGP ∧
    ((mg 0).mgpPosition [0x20, 0xC8]).mgp.pointer = 0xC8 ∧ ((mg 0).mgpPosition [0x20, 0xC8]).mgp.window = 0x20 ∧ ((mg 0).mgpPosition [1, 0x48]).mgp.pointer = 0x48 ∧
    pageDomain 0 = 0 ∧ (mg 0).pdOn (pageDomain 23) = true ∧ (State.reset.put F.PWR.DOMAIN.on 0).pdOn (pageDomain 23) = false ∧
    (mg 0).mayRead 0 .field = true ∧ ((mg 0).put (F.HDR.OWNER.owner.onPage 0) 1).mayRead 0 .field = false ∧ (mg 0).mgp.pointer < 256 := by unfold State.reaches State.unhindered; decide +kernel

/-- A key is loaded, CMD holds `w`, and the port runs `run`. -/
def go (w : Nat) (run : Option (Nat × Bool)) : State := let s := (mg 0).put F.MGP.STAT.key_loaded 1; { s with mgp := { s.mgp with cmd := w, run := run } }
def mc (m : Option (Bool × Nat)) : State := { mg 0 with mgp := { (mg 0).mgp with mc := m } }
/-- MC_CMD: two bytes written and three read. -/
def mcw : Word := F.MGP.MC_CMD.go.put 1 (F.MGP.MC_CMD.wlen.put 2 (F.MGP.MC_CMD.rlen.put 3 0))
theorem witness_ManagementCommands : rcAUTH < 256 ∧ rcOK ≠ rcAUTH ∧ (go 0x104 none).mgp.cmd % 256 = 4 ∧ (go 0x104 none).mgp.cmd / 256 = 1 ∧ (go 0x101 none).mgp.cmd / 256 ≠ 0 ∧
    (go 1 none).mgp.backoff = 0 ∧ 0 < ({ go 1 none with mgp := { (go 1 none).mgp with backoff := 9 } }).mgp.backoff ∧ (mg 0).on F.MGP.STAT.key_loaded = false ∧
    (go 1 none).on F.MGP.STAT.key_loaded = true ∧ (∀ k : Fin 6, ∀ ok, (go 1 (some (k, ok))).mgp.run = some (k.val, ok) ∧ k.val % 256 = k) ∧
    (go 1 none).mgp.run = none ∧ (go 1 none).on F.SYS.RSTPIN.stuck = false ∧ ((go 1 none).put F.SYS.RSTPIN.stuck 1).on F.SYS.RSTPIN.stuck = true ∧
    ((go 1 none).put F.SYS.RSTPIN.held 1).on F.SYS.RSTPIN.held = true ∧ (go 1 none).aon.testHigh = false ∧ (go 1 none).get F.LC.STATE.state ≠ 5 ∧
    ((go 1 none).put F.LC.STATE.state 5).get F.LC.STATE.state = 5 ∧ (go 1 none).lc.xfer.isSome = false ∧ (go 1 none).on F.LC.ADV_STAT.busy = false ∧
    ((go 1 none).put F.LC.ADV_STAT.busy 1).on F.LC.ADV_STAT.busy = true := by decide +kernel
theorem witness_ControllerMode : (∀ a ∈ [R.MGP.MKEY + 12, R.MGP.MBIN_CTL, R.MGP.MBOUT_CTL, R.MGP.ALERT_FW, R.MGP.MC_CMD], (mg 0).reaches .core0 a) ∧
    (mg 0).unhindered .core0 pageMGP ∧ (mg 0).on F.MGP.MBOUT_CTL.post = false ∧ ((mg 0).put F.MGP.MBOUT_CTL.post 1).on F.MGP.MBOUT_CTL.post = true ∧
    F.MGP.MC_CMD.go.get mcw = 1 ∧ F.MGP.MC_CMD.go.get 0 = 0 ∧ F.MGP.MC_CMD.wlen.get mcw = 2 ∧ F.MGP.MC_CMD.rlen.get mcw = 3 ∧
    32 < F.MGP.MC_CMD.wlen.get (F.MGP.MC_CMD.wlen.put 33 mcw) ∧ (mc (some (true, 0))).mgp.mc.isSome = true ∧ (mc none).mgp.mc = none ∧
    (mc (some (false, 7))).mgp.mc = some (false, 7) ∧ (mc (some (true, mcw.toNat))).mgp.mc = some (true, mcw.toNat) ∧
    ((mc (some (true, 7))).inc F.MGP.MC_RES.arb_lost).get F.MGP.MC_RES.arb_lost ≤ ((mc none).put F.MGP.MC_CFG.retries 1).get F.MGP.MC_CFG.retries ∧
    ((mc none).put F.MGP.MC_CFG.retries 0).get F.MGP.MC_CFG.retries < ((mc (some (true, 7))).inc F.MGP.MC_RES.arb_lost).get F.MGP.MC_RES.arb_lost ∧
    F.MGP.MC_CMD.rlen.get (BitVec.ofNat 32 mcw.toNat) = [1, 2, 3].length ∧ ((mg 0).put F.MGP.MC_CFG.pec 1).on F.MGP.MC_CFG.pec = true ∧
    crc8 ((mc (some (true, mcw.toNat))).mcBytes mcw.toNat [1, 2, 3]) < 256 := by unfold State.reaches State.unhindered; decide +kernel

/-- The trigger is armed and page 29 takes part; `ev` waits, `gap` runs. -/
def sn (ev : Nat) (gap : Bool) : State :=
  let s := (up.put (Fld.bit ⟨R.SNAP.TRIG_EN, 10, 0⟩ 0) 1).put (F.HDR.SNAP_CFG.en.onPage pageSNAP) 1
  { s with aon := { s.aon with snapEvents := ev, snapMerged := ev, snapGap := gap } }
theorem witness_SnapshotsAndMonitors : (sn 0 false).reaches .core0 R.SNAP.TRIG ∧ (sn 0 false).on (Fld.bit ⟨R.SNAP.TRIG_EN, 10, 0⟩ 0) = true ∧
    (sn 0 false).aon.snapGap = false ∧ (sn 0 true).aon.snapGap = true ∧ (sn 3 false).aon.snapEvents ≠ 0 ∧ (sn 0 false).aon.snapEvents = 0 ∧
    (sn 0 true).aon.snapMerged = 0 ∧ (sn 3 true).aon.snapMerged ≠ 0 ∧ (sn 3 false).on (F.HDR.SNAP_CFG.en.onPage pageSNAP) = true ∧
    (sn 3 false).on (F.HDR.SNAP_CFG.held.onPage pageSNAP) = false ∧ (sn 3 false).pdOn (pageDomain pageSNAP) = true ∧ (sn 3 false).ck06 = true ∧
    (({ sn 3 false with aon := { (sn 3 false).aon with pstate := 3 } }).put F.PWR.DOMAIN.on 1).ck06 = false ∧ (sn 3 false).on (F.HDR.SNAP_CFG.en.onPage 7) = false ∧
    (up.put (F.HDR.MON_CTRL.run.onPage 31) 1).on (F.HDR.MON_CTRL.run.onPage 31) = true ∧ up.pdOn (pageDomain 31) = true ∧
    up.on (F.HDR.MON_CTRL.run.onPage 31) = false ∧ ((up.setReg (pageBase 31 + R.HDR.MON_COUNT) 0xFFFFFFFE).reg (pageBase 31 + R.HDR.MON_COUNT)).toNat + 1 = 0xFFFFFFFF := by
  unfold State.reaches; decide +kernel
def ev1 : LogEntry := ⟨5, 2, 3, 4⟩
/-- `n` entries wait for the log at slot 767; `n` records for the trace, enabled in mode `m`. -/
def lt (n m : Nat) : State :=
  { ((up.put F.TRC.CTRL.en 1).put F.TRC.CTRL.mode m) with
    logQueue := List.replicate n ev1, trcFifo := List.replicate n ⟨0x30, 1, 1, 2, 3, 4, 5⟩, ldg := { up.ldg with logSlot := 767, ready := true } }
theorem witness_LogAndTrace : up.reaches .core0 R.SNAP.LOG_WR1 ∧ (lt 7 0).logQueue.length < 8 ∧ 8 ≤ (lt 8 0).logQueue.length ∧ (lt 1 0).logQueue = [ev1] ∧
    (lt 1 0).pdOn 8 = true ∧ (lt 1 0).ldg.ready = true ∧ (lt 1 0).on F.SNAP.LOG_CTRL.hold = false ∧
    (((lt 1 0).put F.SNAP.LOG_CTRL.hold 1).put F.SNAP.LOG_CTRL.hold_slot 767).get F.SNAP.LOG_CTRL.hold_slot = (lt 1 0).ldg.logSlot ∧
    ((lt 1 0).put F.SNAP.LOG_CTRL.hold 1).on F.SNAP.LOG_CTRL.hold = true ∧ (lt 1 0).trcFifo = [⟨0x30, 1, 1, 2, 3, 4, 5⟩] ∧ (lt 1 0).ck06 = true ∧
    (lt 1 0).pdOn 13 = true ∧ (lt 1 0).on F.TRC.CTRL.en = true ∧ (lt 1 0).on F.TRC.STAT.clearing = false ∧ (lt 1 1).on F.TRC.CTRL.mode = true ∧
    (lt 1 1).get F.TRC.WPTR.next = 0 ∧ ((lt 1 1).setBytes 0x60000000 [1]).byte 0x60000000 ≠ 0 ∧ ({ lt 1 1 with trcLost := 3 }).trcLost ≠ 0 ∧ (lt 1 0).trcLost = 0 ∧
    ((lt 1 0).put F.TRC.WPTR.next 511).get F.TRC.WPTR.next = 511 ∧ up.reaches .core0 R.TRC.SWREC ∧ (lt 15 0).trcFifo.length < 16 ∧ 16 ≤ (lt 16 0).trcFifo.length ∧
    up.on F.TRC.CTRL.en = false ∧ up.reaches .core0 R.TRC.CTRL ∧ up.unhindered .core0 pageTRC ∧ (up.put F.TRC.STAT.clearing 1).on F.TRC.STAT.clearing = true := by
  unfold State.reaches State.unhindered; decide +kernel

/-- R48, R64: a driven GPIO pin keeps its level while PD13 is down, and its reset registers take over when the hold is released. -/
theorem test_pins_held :
    let s := ((up.put (F.PWR.IOGRP.present.bit 3) 1).put F.GPIO.DIR.oe 2).put F.GPIO.OUT.out 2
    let t := s.domainDown 13
    s.gpioPin 1 = .high ∧ s.gpioPin 0 = .z ∧ t.gpioPin 1 = .high ∧ t.pinsHeld 13 = true ∧
      (t.put (F.PWR.HOLD.hold.bit 13) 0).gpioPin 1 = .z := by decide +kernel

/-! Further witnesses of the statements from the life cycle on. -/
/-- A token whose engine work waits for PD8; a running challenge; the counters as `LC_BACKOFF_END` meets them. -/
def lcOff (d : Nat) : State := (tok 0).put (F.PWR.DOMAIN.on.bit d) 0
theorem witness_LifeCycle_waits : (tok 0).pdServes 8 = true ∧ (tok 0).pdServes 9 = true ∧ (tok 0).cry.run = none ∧ (tok 0).lc.job = none ∧ (tok 0).lc.xfer = none ∧
    (lcOff 8).pdServes 8 = false ∧ CellFate.bad ⟨true, .clean⟩ = true ∧ (lcOff 9).pdServes 9 = false ∧ (lcOff 9).lcState = lcFIELDED ∧ (lcOff 9).lc.job = none ∧
    (tok 0).lc.backoff ≤ 1 ∧ 1 < ({ tok 0 with lc := { (tok 0).lc with backoff := 9 } }).lc.backoff ∧ (lcOff 9).reaches .probe R.LC.DBG_CTRL := by
  unfold State.reaches; decide +kernel
/-- R136: a challenge without PD9 waits; R132: the back-off ends at its last tick, no sooner. -/
theorem test_lc_waits : (nx (exec (.dbgReq .probe) (lcOff 9))).lc.job = some .challenge ∧
    (nx (exec .lcBackoffEnd { tok 0 with lc := { (tok 0).lc with backoff := 9 } })).lc.backoff = 9 ∧
    (nx (exec (.lcAdvanceToken .core0 (advTo 4) .clean) (lcOff 8))).lcBusy = true := by decide +kernel
/-- A read of a page that stalls; a word that the level no longer reaches; a core of the probe that a load stalls. -/
def prbEnt : State := { prb 3 with prb := { (prb 3).prb with addr := R.ENT.DATA, word := none } }
def prbOld (l : Nat) : State := { prb l with prb := { (prb l).prb with word := some 5, last := 0x20000040 } }
theorem witness_ProbeFramesAndAccesses_late : (prbOld 3).probeMay false 0x20000040 = true ∧ (prbOld 0).probeMay false 0x20000040 = false ∧
    (prbOld 0).prb.word = some 5 ∧ 0x20000040 % 4 = 0 ∧ (prbAt 0x20000040 true).risingAt 0x20000040 = false ∧ prbEnt.probeMay false R.ENT.DATA = true ∧
    prbEnt.prbListens = true ∧ R.ENT.DATA % 4 = 0 := by decide +kernel
theorem witness_ProbeFramesAndAccesses_stall : ∃ x, ({ prbEnt.prbServed with prb := { prbEnt.prbServed.prb with last := R.ENT.DATA } }).probeLoad R.ENT.DATA .ok = (x, .stall) :=
  ⟨_, rfl⟩
theorem test_probe_late : (nx (exec (.prbDataRead false .ok) (prbOld 0))).resp.data.head? = some (BitVec.ofNat 8 rcAUTH) ∧
    (nx (exec (.prbDataRead false .ok) prbEnt)).resp.data.head? = some (BitVec.ofNat 8 rcBUSY) := by decide +kernel
def hltS : State := (run2 .field).modCore .core0 fun k => { k with stalled := some 5 }
theorem witness_ProbeCores_stalled : hltS.core0.stalled.isSome = true ∧ hltS.core0.halted = false ∧ hltS.core0.powered = true ∧ hltS.prbListens = true ∧
    (run2 .field).core0.stalled = none ∧ (fld.modCore .core0 fun k => { k with haltPending := true, rom := none }).core0.stalled = none := by decide +kernel
/-- R321: 41 equal samples fail the repetition test, 40 do not; 795 of 1,024 equal to the first fail the proportion test. -/
theorem test_health : rctFails (List.replicate 41 true) = true ∧ rctFails (List.replicate 40 true) = false ∧ aptFails (List.replicate 795 true ++ List.replicate 229 false) = true ∧
    aptFails (List.replicate 794 true ++ List.replicate 230 false) = false := by decide +kernel
/-- Who waits for the DRBG; a stalled read at its last tick, of a port, of the probe and of a core. -/
def entW (x : Stalled) : State :=
  ({ ent 1 15 with ent := { (ent 1 15).ent with stalled := [x] } }).modCore .core0 fun k => { k with stalled := some 5 }
theorem witness_EntropyBlock_waits : (rctFails (List.replicate 41 true) || aptFails []) = true ∧ (rctFails [true] || aptFails [true]) = false ∧
    (ent 2 15).ent.failed = false ∧ (ent 2 15).lc.job = none ∧ (ent 2 15).ent.waiting = [] ∧ (ent 2 15).ent.fifo = [] ∧ (ent 2 15).ent.inst = true ∧
    ({ ent 1 15 with ent := { (ent 1 15).ent with waiting := [.cipher] } }).drbgWaits = true ∧
    (∀ j : Fin 2, (entW ⟨if j = 0 then .host else .core0, .field, if j = 0 then none else some 4, 1⟩).ent.stalled.map (·.left) = [1]) ∧
    (entW ⟨.core0, .field, some 4, 1⟩).core0.stalled.isSome = true ∧ 1 < (⟨.host, .field, none, 2850⟩ : Stalled).left := by decide +kernel
theorem test_ent_wait : (nx (exec .entWaitTimeout (entW ⟨.host, .field, none, 1⟩))).ent.stalled = [] ∧
    (nx (exec .entWaitTimeout (entW ⟨.host, .field, none, 2⟩))).ent.stalled = [⟨.host, .field, none, 2⟩] ∧
    (nx (exec .entWaitTimeout (entW ⟨.probe, .field, none, 1⟩))).prb.bad = some busPAGE := by decide +kernel
theorem witness_CipherEngine_served : (keyed 5 32).drbgWaits = false ∧ (keyed 5 32).pdOn 8 = true ∧ (keyed 5 32).lcDue = false ∧ idleEngine.drbgWaits = false ∧
    idleEngine.pdOn 8 = true ∧ idleEngine.lcDue = false ∧ (running up).drbgWaits = true ∧ (running up).cry.run = some pkJob ∧ up.ent.scanning = false ∧
    ({ up with ent := { up.ent with scanning := true } }).ent.scanning = true ∧ refill.pdOn 8 = true := by decide +kernel
/-- R364: a chip reset whose handling made log entries waits for them, at most t_CLORSP. -/
def clw (n ticks : Nat) : State := { up with cloWait := some ⟨n, ticks, false, false, false, true⟩, logQueue := List.replicate n ⟨1, 2, 3, 4⟩ }
theorem witness_ClocheDetections_waits : (clo 18 (2 ^ rspCHIP)).cloSees (det 18) = true ∧ (clo 18 (2 ^ rspCHIP + 2 ^ rspLOG)).cloWait = none ∧
    ((clo 18 (2 ^ rspCHIP + 2 ^ rspLOG)).cloResponse 18).testBit rspLOG = true ∧ (clo 18 (2 ^ rspCHIP + 2 ^ rspLOG)).logQueue.length < 8 ∧
    (clw 1 9).cloWait = some ⟨1, 9, false, false, false, true⟩ ∧ (clw 3 1).cloWait = some ⟨3, 1, false, false, false, true⟩ ∧
    up.drbgWaits = true ∧ up.pdOn 9 = true := by decide +kernel
/-- R357: no offset is later than the last tick of its second; a second has one burst. -/
theorem witness_Cloche_burst : ({ asleep 2 0 with aon := { (asleep 2 0).aon with time := 32767 } }).burstDue = true ∧ ({ asleep 2 0 with cloSecond := 5 }).burstDue = false := by
  constructor
  · have h : ∀ n : Nat, n % 32768 ≤ 32767 := by omega
    simp [State.burstDue, asleep, slp, fld, up, State.put, State.setReg, State.modCore, State.setCore, State.reset, h]
  · simp [State.burstDue, asleep, slp, fld, up, State.put, State.setReg, State.modCore, State.setCore, State.reset, Aon.init]
/-- R353, R356: the limits of what a source measures. -/
theorem test_cloche_limits : up.cloSees { det 18 with mv := 5700 } = false ∧ up.cloSees ⟨0, true, true, 5, true, true, 0⟩ = true ∧ up.cloSees ⟨0, true, true, 4, true, true, 0⟩ = false ∧
    up.cloSees ⟨2, true, true, 49, true, true, 0⟩ = true ∧ up.cloSees ⟨2, true, true, 50, true, true, 0⟩ = false := by decide +kernel
theorem test_cloche_waits : (nx (exec (.clocheDetect [det 18]) (clo 18 (2 ^ rspCHIP + 2 ^ rspLOG)))).cloWait.isSome = true ∧
    (clw 3 9).cloTick.cloWait = some ⟨3, 8, false, false, false, true⟩ := by
  decide +kernel
/-- The holdoff of a group at its last tick, and one tick before. -/
def grp (t : Nat) : State :=
  { ((up.put (F.RING.GCFG.holdoff_us.idx 8 31) 9).put (F.RING.GSTAT.pending.idx 8 31) 1) with trl := { up.trl with holds := [(31, t)] } }
theorem witness_RingCommands_holdoff : (grp 8).holdTicks 31 + 1 = 9 ∧ (grp 7).holdTicks 31 + 1 < 9 ∧ (grp 8).get (F.RING.GCFG.holdoff_us.idx 8 31) = 9 ∧
    (grp 8).get (F.RING.GSTAT.pending.idx 8 31) ≠ 0 ∧ up.get (F.RING.GCFG.holdoff_us.idx 8 31) = 0 := by decide +kernel
/-- R394: the loser of a slot is deferred once, ring 4 of class bulk behind ring 3. -/
def two : State := { ((ring rxd 5 clETH0_RX).put (F.RING.CFG.class.ring 3) 2).put (F.RING.CFG.class.ring 5) 3 with
  trl := { rxd.trl with rx := rxd.trl.rx ++ [⟨5, udp, 7, 1, false⟩] } }
theorem witness_DescriptorService_slot : two.nextRing [] = some 3 ∧ two.eligible 5 = true ∧ two.effClass [] 3 < two.effClass [] 5 ∧ two.openEntries 5 = [0] ∧
    ((two.slotTo [] 3).waitOf 5 0).deferred = true ∧ (two.slotTo [] 3).trl.last = 3 ∧ (two.slotTo [] 3).get (F.RING.DEFER.class.ring 5) = 1 := by decide +kernel
theorem witness_DescriptorService_clients : (ring up 70 clCART).ringClient 70 = clCART ∧ (ring up 56 clHOST).ringClient 56 = clHOST ∧
    ((txd 1 60).fetchDescs 4 .ok ((txd 1 60).txSpan 4) ((txd 1 60).cidx 4)).2.isSome = true ∧ (txCur (txd 1 60) [txD 1 60 0]).txStalls 4 [txD 1 60 0] = false ∧
    ((txCur (txd 1 60) [txD 1 60 0]).setReg R.FLC.STAT 0).trl.cur = some (4, [txD 1 60 0]) ∧ (hashJob 0).nextRing [] = some 32 ∧ ((hashJob 0).takeJob 32 none .ok []).isSome = true ∧
    (txD 1 1520 0).len > 1518 ∧ (rxd.fetchDesc 3 0 .ok).2.isSome = true ∧ ((rxd.setReg (R.RING.DBASE + 32 * 3) 0x40000000).fetchDesc 3 0 .ok).2 = none := by decide +kernel
/-- A frame queued as the queue's age runs out in this tick, has run out, or has not. -/
def agd (t : Nat) : State := { sv [⟨rf 4, false, 0⟩] [] with aon := { (sv [] []).aon with time := t } }
theorem witness_WakeSieve_age : (agd 160).get F.RLP.SV_QCFG.age = 5 ∧ 0 + 32 * 5 ≤ (agd 160).aon.time + 0 ∧ 0 + 32 * 5 ≤ (agd 159).aon.time + 1 ∧
    ¬ 0 + 32 * 5 ≤ (agd 158).aon.time + 1 ∧ (agd 160).sieveCond = true ∧ (agd 159).sieve.queue = [⟨rf 4, false, 0⟩] ∧ (sv [] []).sieve.queue = [] ∧
    ({ sv [] [] with sieve := ⟨[⟨rf 4, false, 0⟩], [], false, true⟩ }).sieveCond = true ∧ (sv [] []).sieveCond = false := by decide +kernel
theorem test_sieve_age : (nx (exec .sieveAgeExpire (agd 159))).sieve.aged = true ∧ (nx (exec .sieveAgeExpire (agd 158))).sieve.aged = false := by decide +kernel
/-- R437, R439: a Clause 22 read of register 1 of PHY 3 on MDIO's data line, and the poll that is due. -/
def pol (t : Nat) : State := let s := up.put F.ETH.POLL.interval 1; { s with eth0 := { s.eth0 with polled := t } }
theorem witness_EthernetPorts_polls : (pol 999).eth0.polled + 1 = 1000 * 1 ∧ (pol 998).eth0.polled + 1 < 1000 * 1 ∧ (pol 999).mdio = none ∧
    (mdioBits true true 3 1 0).length = 46 ∧ (nx (exec (.linkPoll 0 none) (pol 999))).mdio.isSome = true ∧ (nx (exec (.linkPoll 0 none) (pol 998))).mdio = none := by decide +kernel
theorem test_mdio_bits : (mdioBits false true 3 1 0).take 14 = [false, true, true, false, false, false, false, true, true, false, false, false, false, true] := by decide +kernel
/-- The slot with its start far off, at hand, and the reference that runs out. -/
def rlAt (now : Nat) : State := { (rlWith rl8 (some (tx true 4)) none).setReg R.RLP.ST_NOW (BitVec.ofNat 32 now) with aon := (rlWith rl8 none none).aon }
theorem witness_RadioPort_due : (rlAt 0).txFits (tx true 4) = true ∧ (rlAt 0).fromRef (rlAt 0).slotNow + 8 < (rlAt 0).txStart (tx true 4) ∧
    (rlAt 100).txStart (tx true 4) ≤ (rlAt 100).fromRef (rlAt 100).slotNow + 8 ∧ (rlAt 0).ck06 = true ∧ (rlAt 0).pdOn 1 = true ∧
    ((8100 : Int) ≤ (rlAt 8100).fromRef (rlAt 8100).slotNow + 8) ∧ (rlAt 0).fromRef (rlAt 0).slotNow + 8 < 8100 ∧
    8000 * (rlAt 8100).get F.RLP.SLOT_CFG.bcn_max ≤ ((rlAt 8100).reg R.RLP.ST_NOW - (rlAt 8100).reg R.RLP.BCN_TIME).toNat + (rlAt 8100).slotSlack ∧
    (rlWith rl8 (some (tx false 4)) none).radio.fwd = none := by decide +kernel
/-- An outbound transfer from flash, with and without the bank busy; a host descriptor that has been shown; queue and log with a reset waiting. -/
def crtFl (busy : Bool) : State :=
  let s := crtSent 8 0 512
  if busy then { s with flash := { s.flash with op := some ⟨2, 0x01000000, 0⟩ } } else s
theorem witness_CartridgeReplies_stalls : (crtFl true).dmaStalls 0x01000000 512 = true ∧ (crtFl false).dmaStalls 0x01000000 512 = false ∧
    (crtFl true).gcb.job = some { crtJob 8 0 512 7 with sent := true } ∧ 8 ∈ [8, 9, 16, 18] ∧ ((crtSent 18 0 64).setReg R.GCB.RESP 0).dmaStalls 0x20000100 64 = false := by
  decide +kernel
def hlD : Desc := ⟨0x20008000, 0x20000100, 256, 0x80000, 0, 0, .ok⟩
def hlS : State := { hl 0 with trl := { (hl 0).trl with shown := [(56, hlD)] } }
theorem witness_HostLink_shown : up.mbPosted 0 = false ∧ (hl 0).mbPosted 0 = true ∧ (hl 0).trl.shown.find? (fun e => decide (e.1 = 56)) = none ∧
    (((hl 0).slotTo [] 56).fetchDesc 56 ((hl 0).cidx 56) .ok).2 = some hlD ∧
    ((((hl 0).slotTo [] 56).fetchDesc 56 ((hl 0).cidx 56) .ok).1.hostJudge 56 hlD) = rcOK ∧ hlD.dirIn = true ∧ (hl 1).mbOut 0 = true ∧
    hlS.mbPosted 0 = true ∧ hlS.trl.shown.find? (fun e => decide (e.1 = 56)) = some (56, hlD) ∧ (hl 0).hlkServes = true := by decide +kernel
/-- R512: a descriptor that does not fit the mailbox's direction is completed with RANGE as it is read. -/
theorem test_host_judge : (hl 1).hostJudge 56 hlD = rcRANGE ∧ ((hl 0).mbDesc 0 .ok).2 = some hlD ∧ (hlS.mbDesc 0 .reqBeat).2 = some { hlD with back := .reqBeat } := by decide +kernel
theorem witness_ManagementCommands_time : (mc (some (false, mcw.toNat))).mgp.mc = some (false, mcw.toNat) ∧ (go 1 none).lcBusy = false ∧
    ({ go 1 none with lc := { (go 1 none).lc with xfer := some (3, 0) } }).lcBusy = true := by decide +kernel
/-- R529, R530: sessions and back-offs end at their last tick, no sooner. -/
theorem test_mgp_time : (nx (exec .mgpSessionExpire { mg 0 with mgp := { (mg 0).mgp with session := 2 } })).mgp.session = 2 ∧
    (nx (exec .mgpSessionExpire { mg 0 with mgp := { (mg 0).mgp with session := 1 } })).mgp.session = 0 ∧
    (nx (exec .mgpBackoffEnd { mg 0 with mgp := { (mg 0).mgp with backoff := 2 } })).mgp.backoff = 2 := by decide +kernel
theorem witness_LogAndTrace_waits : (lt 1 0).sparesUsed ≤ 253 ∧ (lt 1 0).cloWait = none ∧ (clw 3 9).cloWait = some ⟨3, 9, false, false, false, true⟩ ∧ 1 < 3 := by decide +kernel

end Sys2Proof.Tests
end

section
/-!
PROOFS. What a core does with its registers, at the end of an instruction, and at an instruction boundary.
-/
namespace Sys2Proof.Machine
open Sys2Proof

/-! ### Register files and banks -/

@[simp] theorem Core.wr_pc (k : Core) (r : Fin 32) (v : Word) : (k.wr r v).pc = k.pc := by
  unfold Core.wr; split <;> rfl

@[simp] theorem Core.setBank_pc (k : Core) (b : Bank) : (k.setBank b).pc = k.pc := by
  unfold Core.setBank; split <;> rfl

@[simp] theorem Core.wr_field (k : Core) (r : Fin 32) (v : Word) : (k.wr r v).field = k.field := by
  unfold Core.wr; split <;> rfl

/-- A general register write depends on the register file alone. -/
theorem Core.wr_w_congr {k k' : Core} (h : k.w = k'.w) (r : Fin 32) (v : Word) : (k.wr r v).w = (k'.wr r v).w := by
  unfold Core.wr
  split <;> simp [h]

@[simp] theorem Core.bank_setBank (k : Core) (b : Bank) : (k.setBank b).bank = b := by
  cases hw : k.world <;> simp [Core.setBank, Core.bank, hw]

@[simp] theorem Core.crd_cwr_same (k : Core) (i : Fin 8) (v : CapReg) : (k.cwr i v).crd i = v := by
  simp [Core.cwr, Core.crd]

@[simp] theorem Core.cwr_w (k : Core) (i : Fin 8) (v : CapReg) : (k.cwr i v).w = k.w := by
  unfold Core.cwr Core.setBank; split <;> rfl

@[simp] theorem Core.cwr_pc (k : Core) (i : Fin 8) (v : CapReg) : (k.cwr i v).pc = k.pc := Core.setBank_pc ..

/-! ### The end of an instruction -/

/-- A capability field that names a register lets the instruction go on (R182). -/
theorem State.withCaps_one (s : State) (c : CoreId) (word : Nat) (r : Fin 32) (f : State → State) (h : isCap r = true) :
    s.withCaps c word [r] f = f s := by
  simp [State.withCaps, h]

/-- Writing a general register and going on is one update of the core. -/
theorem State.finish_eq (s : State) (c : CoreId) (rd : Fin 32) (v : Word) :
    s.finish c rd v = s.setCore c { (s.core c).wr rd v with pc := (s.core c).pc + 4 } := by
  simp [State.finish, State.modCore, Core.next]

/-- A capability register write that ends an instruction. -/
theorem State.finishCap_fields (s : State) (c : CoreId) (i : Fin 8) (v : CapReg) :
    ((s.finishCap c i v).core c).crd i = v ∧ ((s.finishCap c i v).core c).pc = (s.core c).pc + 4 ∧
      ((s.finishCap c i v).core c).w = (s.core c).w ∧ (s.finishCap c i v).mem = s.mem ∧ (s.finishCap c i v).tags = s.tags := by
  have hcrd : ((s.core c).cwr i v).next.crd i = v := Core.crd_cwr_same ..
  have hpc : ((s.core c).cwr i v).next.pc = (s.core c).pc + 4 := congrArg (· + 4) (Core.cwr_pc ..)
  have hw : ((s.core c).cwr i v).next.w = (s.core c).w := Core.cwr_w ..
  simp [State.finishCap, hcrd, hpc, hw]

/-! ### Instruction boundaries (R185): an instruction that goes on, a fetch that faults, an access that stalls -/

theorem State.boundary_of_atBoundary (s : State) (c : CoreId) (f : State → Option State) (h : s.atBoundary c) :
    s.boundary c f = (f s).getD s := by
  obtain ⟨hx, hh, hs, -⟩ := h
  simp [State.boundary, hx, hh, hs]

/-- An instruction whose fetch saw the counters of `v`, of a core at a boundary: it has its effect on what the fetch leaves. -/
theorem State.execSeen_runs (s : State) (c : CoreId) (v f : State → State) (hb : s.atBoundary c)
    (hf : (v s).fetchCheck c (s.core c).world (s.core c).bank.pcc (s.core c).pc.toNat = none) (hs : s.fetchStalls c = false) :
    s.execSeen c v f = f (s.fetched c) := by
  obtain ⟨-, -, -, hev⟩ := id hb
  rw [State.execSeen, State.boundary_of_atBoundary s c _ hb]
  simp only [hev, hf, hs, Bool.false_eq_true, if_false, Option.getD_some]

theorem State.execOn_of_fetchFault (s : State) (c : CoreId) (f : State → State) (h : s.atBoundary c) (e : Flt)
    (he : s.fetchCheck c (s.core c).world (s.core c).bank.pcc (s.core c).pc.toNat = some e) : s.execOn c f = s.raise c e := by
  obtain ⟨-, -, -, hev⟩ := id h
  rw [State.execOn, State.execSeen, State.boundary_of_atBoundary s c _ h]
  simp only [hev, id, he, Option.getD_some]

@[simp] theorem State.deferLines_core (s : State) (c d : CoreId) : (s.deferLines c).core d = s.core d := by
  unfold State.deferLines
  split
  · rfl
  · cases d <;> rfl

theorem State.boundary_stalled (s : State) (c : CoreId) (f : State → Option State) (h : (s.core c).stalled.isSome = true) :
    s.boundary c f = s := by
  simp [State.boundary, h]

theorem State.execOn_stalled (s : State) (c : CoreId) (f : State → State) (h : (s.core c).stalled.isSome = true) :
    s.execOn c f = s := by
  rw [State.execOn, State.execSeen, State.boundary_stalled s c _ h]

/-- While an access stalls, no other memory instruction begins. -/
theorem State.execMem_stalled_other (s : State) (c : CoreId) (word w : Nat) (f : State → State) (h : (s.core c).stalled = some w)
    (hw : w ≠ word) : s.execMem c word f = s := by
  simp [State.execMem, h, hw]

end Sys2Proof.Machine
end

section
/-!
PROOFS. What leaves the cores, memory, tags and epochs alone: updates of register pages; and what changes caches alone: a read of SRAM.
-/
namespace Sys2Proof.Machine
open Sys2Proof

/-! ### What updates of register pages leave alone -/

/-- Of `s`, the state `t` keeps the cores, memory, tags and epochs: what register pages, their events and the interrupt lines never touch. -/
structure State.OnlyPages (s t : State) : Prop where
  core : ∀ d, t.core d = s.core d
  mem : t.mem = s.mem
  tags : t.tags = s.tags
  epochs : t.epochs = s.epochs
  sweepDone : t.sweepDone = s.sweepDone
  sweep : t.sweep = s.sweep

theorem State.OnlyPages.refl (s : State) : s.OnlyPages s := ⟨fun _ => rfl, rfl, rfl, rfl, rfl, rfl⟩

theorem State.OnlyPages.trans {s t u : State} (h : s.OnlyPages t) (h' : t.OnlyPages u) : s.OnlyPages u :=
  ⟨fun d => (h'.core d).trans (h.core d), h'.mem.trans h.mem, h'.tags.trans h.tags, h'.epochs.trans h.epochs,
    h'.sweepDone.trans h.sweepDone, h'.sweep.trans h.sweep⟩

theorem State.setReg_onlyPages (s : State) (a : Nat) (w : Word) : s.OnlyPages (s.setReg a w) :=
  ⟨fun d => by cases d <;> rfl, rfl, rfl, rfl, rfl, rfl⟩

theorem State.put_onlyPages (s : State) (f : Fld) (v : Nat) : s.OnlyPages (s.put f v) := State.setReg_onlyPages ..

theorem State.addSat_onlyPages (s : State) (f : Fld) (k : Nat) : s.OnlyPages (s.addSat f k) := State.put_onlyPages ..

theorem State.inc_onlyPages (s : State) (f : Fld) : s.OnlyPages (s.inc f) := State.addSat_onlyPages ..

theorem State.irq_onlyPages (s : State) (p b : Nat) : s.OnlyPages (s.irq p b) := State.put_onlyPages ..

theorem State.foldState_onlyPages {α : Type} (f : α → State → State) (hf : ∀ a s, State.OnlyPages s (f a s)) (l : List α) (s : State) :
    s.OnlyPages (foldState f l s) := by
  induction l generalizing s with
  | nil => exact .refl s
  | cons a l ih => exact (hf a s).trans (ih _)

theorem State.latchLine_onlyPages (n : Nat) (s : State) : s.OnlyPages (State.latchLine n s) := by
  unfold State.latchLine
  split
  · exact State.put_onlyPages ..
  · exact .refl s

theorem State.settle_onlyPages (s : State) : s.OnlyPages s.settle := by
  have halerts : s.OnlyPages s.latchAlerts := ⟨fun d => by cases d <;> rfl, rfl, rfl, rfl, rfl, rfl⟩
  have hlines (u : State) : u.OnlyPages u.sampleLines := by
    obtain ⟨hc, hm, ht, he, hd, hs⟩ := State.foldState_onlyPages State.latchLine State.latchLine_onlyPages
      ((numsFrom 128 0).filter fun n => u.sources.testBit n && !u.intcSample.testBit n) u
    refine ⟨fun d => ?_, hm, ht, he, hd, hs⟩
    cases d
    · exact hc .core0
    · exact hc .core1
  exact halerts.trans (hlines _)

theorem State.integrity_onlyPages (s : State) (f : Fld) (a : Nat) : s.OnlyPages (s.integrity f a) := by
  have hcloche (u : State) : u.OnlyPages ((u.irq pageSMPU 8).cloche 28 0) := ⟨fun d => by cases d <;> rfl, rfl, rfl, rfl, rfl, rfl⟩
  unfold State.integrity
  dsimp only
  split
  · exact (State.inc_onlyPages ..).trans (hcloche _)
  · exact (State.inc_onlyPages ..).trans ((State.setReg_onlyPages ..).trans ((State.put_onlyPages ..).trans (hcloche _)))

theorem State.OnlyPages.epochOf {s t : State} (h : s.OnlyPages t) (i : Nat) : t.epochOf i = s.epochOf i := by
  rw [State.epochOf, h.epochs, State.epochOf]

theorem State.OnlyPages.tag {s t : State} (h : s.OnlyPages t) (g : Nat) : t.tag g = s.tag g := by
  rw [State.tag, h.tags, State.tag]

/-! ### What is read of memory and of the epochs -/

theorem State.loadN_congr {s t : State} (h : t.mem = s.mem) (a n : Nat) : t.loadN a n = s.loadN a n := by
  have hb : t.byte = s.byte := funext fun x => by rw [State.byte, h, State.byte]
  rw [State.loadN, State.bytes, hb, State.loadN, State.bytes]

theorem State.stale_congr {s t : State} (h : t.epochs = s.epochs) (v : CapReg) : t.stale v = s.stale v := by
  rw [State.stale, State.epochOf, h, State.stale, State.epochOf]

/-! ### Reads through a core's data cache (R262) -/

/-- A core but for its data cache and eviction buffer. -/
def Core.sansCache (k : Core) : Core := { k with dcache := [], evict := none }

/-- Of `s`, the state `t` keeps memory, tags, epochs, and the cores but for their data caches. -/
structure State.OnlyCaches (s t : State) : Prop where
  core : ∀ d, (t.core d).sansCache = (s.core d).sansCache
  mem : t.mem = s.mem
  tags : t.tags = s.tags
  epochs : t.epochs = s.epochs

theorem State.OnlyCaches.refl (s : State) : s.OnlyCaches s := ⟨fun _ => rfl, rfl, rfl, rfl⟩

theorem State.OnlyCaches.trans {s t u : State} (h : s.OnlyCaches t) (h' : t.OnlyCaches u) : s.OnlyCaches u :=
  ⟨fun d => (h'.core d).trans (h.core d), h'.mem.trans h.mem, h'.tags.trans h.tags, h'.epochs.trans h.epochs⟩

theorem State.OnlyPages.onlyCaches {s t : State} (h : s.OnlyPages t) : s.OnlyCaches t :=
  ⟨fun d => congrArg _ (h.core d), h.mem, h.tags, h.epochs⟩

theorem State.OnlyCaches.core_fields {s t : State} (h : s.OnlyCaches t) (d : CoreId) :
    (t.core d).world = (s.core d).world ∧ (t.core d).pc = (s.core d).pc ∧ (t.core d).w = (s.core d).w := by
  have hw := congrArg Core.world (h.core d)
  have hp := congrArg Core.pc (h.core d)
  have hr := congrArg Core.w (h.core d)
  exact ⟨hw, hp, hr⟩

theorem State.modCore_onlyCaches (s : State) (c : CoreId) (f : Core → Core) (hf : ∀ k, (f k).sansCache = k.sansCache) :
    s.OnlyCaches (s.modCore c f) := by
  refine ⟨fun d => ?_, State.modCore_mem .., State.modCore_tags .., State.modCore_epochs ..⟩
  rw [State.core_modCore]
  split
  next h => rw [h, hf]
  next => rfl

theorem State.snoop_onlyCaches (s : State) (ini : Ini) (a : Nat) : s.OnlyCaches (s.snoop ini a) := by
  have hdrop (k : Core) (p : Bool) : (if p then { k with evict := none } else k).sansCache = k.sansCache := by cases p <;> rfl
  unfold State.snoop
  dsimp only
  split
  · refine ⟨fun d => ?_, rfl, rfl, rfl⟩
    cases d
    · exact hdrop s.core0 _
    · exact hdrop s.core1 _
  · refine State.OnlyCaches.trans ?_ (State.addSat_onlyPages ..).onlyCaches
    refine ⟨fun d => ?_, rfl, rfl, rfl⟩
    cases d
    · exact hdrop s.core0 _
    · exact hdrop s.core1 _

theorem State.allocate_onlyCaches (s : State) (c : CoreId) (a : Nat) : s.OnlyCaches (s.allocate c a).2 := by
  have hpick (ws us : List Nat) : s.OnlyCaches (s.pickWay ws us).2.2 := by
    obtain h | h := s.pickWay_state ws us <;> rw [h]
    · exact .refl s
    · exact ⟨fun d => by cases d <;> rfl, rfl, rfl, rfl⟩
  unfold State.allocate
  dsimp only
  refine (hpick _ _).trans (State.modCore_onlyCaches _ c _ ?_)
  exact fun _ => rfl

theorem State.coreReadLine_onlyCaches (s : State) (c : CoreId) (a : Nat) : s.OnlyCaches (s.coreReadLine c a) := by
  have htrl (u : State) : u.OnlyCaches (u.shareTrl a) := ⟨fun d => by cases d <;> rfl, rfl, rfl, rfl⟩
  unfold State.coreReadLine
  split
  · exact .refl s
  · have hshare := State.modCore_onlyCaches (s.snoop (coreIni c) a) (otherCore c) (·.shareLine a) fun _ => rfl
    refine (s.snoop_onlyCaches _ a).trans (hshare.trans ((htrl _).trans ((State.allocate_onlyCaches _ c a).trans
      (State.modCore_onlyCaches _ c _ ?_))))
    exact fun _ => rfl

theorem iniCore_coreIni (c : CoreId) : iniCore (coreIni c) = some c := by cases c <;> rfl

/-- A core's read of SRAM that comes out whole brings the bytes of memory, and changes caches alone. -/
theorem State.sramRead_ok (s : State) (c : CoreId) (a n : Nat) :
    ∃ t, s.OnlyCaches t ∧ s.sramRead (coreIni c) a n .ok = (t, .ok (s.loadN a n)) := by
  have hline := s.coreReadLine_onlyCaches c a
  simp only [State.sramRead, iniCore_coreIni, State.sramFails]
  split
  · exact ⟨s, .refl s, rfl⟩
  · exact ⟨s.coreReadLine c a, hline, by simp [State.loadN_congr hline.mem]⟩

end Sys2Proof.Machine
end

section
/-!
PROOFS. The checks of R157 as a list, and what a load, a store, a stalled access and a fetch do with the fault of the first that fails.
-/
namespace Sys2Proof.Machine
open Sys2Proof

theorem exec_ldc (c : CoreId) (rt rs : Fin 32) (cs : Fin 8) (imm : BitVec 13) (g : Integ) (s : State) :
    exec (.ldc c rt rs cs imm g) s = execLdc c rt rs cs imm g s := rfl
theorem exec_stc (c : CoreId) (rt rs : Fin 32) (cs : Fin 8) (imm : BitVec 13) (g : Integ) (s : State) :
    exec (.stc c rt rs cs imm g) s = execStc c rt rs cs imm g s := rfl
theorem exec_lrw (c : CoreId) (rt rs : Fin 32) (cs : Fin 8) (imm : BitVec 13) (g : Integ) (s : State) :
    exec (.lrw c rt rs cs imm g) s = execLrw c rt rs cs imm g s := rfl
theorem exec_scw (c : CoreId) (rt rs : Fin 32) (cs : Fin 8) (imm : BitVec 13) (g : Integ) (s : State) :
    exec (.scw c rt rs cs imm g) s = execScw c rt rs cs imm g s := rfl

theorem exec_lw (c : CoreId) (rt rs : Fin 32) (cs : Fin 8) (imm : BitVec 13) (g : Integ) (s : State) :
    exec (.lw c rt rs cs imm g) s = execLw c rt rs cs imm g s := rfl
theorem exec_fence (c : CoreId) (s : State) : exec (.fence c) s = execFence c s := rfl
theorem exec_interruptEntry (c : CoreId) (s : State) : exec (.interruptEntry c) s = execInterruptEntry c s := rfl
theorem exec_fetchFault (c : CoreId) (s : State) : exec (.fetchFault c) s = execFetchFault c s := rfl

/-- The fault of the first check that fails, in a list of checks with what each raises. -/
def firstFault (checks : List (Bool × Flt)) : Option Flt := (checks.find? (·.1)).map (·.2)

@[simp] theorem firstFault_nil : firstFault [] = none := rfl

@[simp] theorem firstFault_cons (b : Bool) (f : Flt) (l : List (Bool × Flt)) :
    firstFault ((b, f) :: l) = if b then some f else firstFault l := by
  cases b <;> rfl

theorem firstFault_append (l m : List (Bool × Flt)) : firstFault (l ++ m) = (firstFault l).orElse fun _ => firstFault m := by
  unfold firstFault
  rw [List.find?_append]
  cases l.find? (·.1) <;> rfl

theorem ite_some_orElse {α : Type} (p : Prop) [Decidable p] (a : α) (x : Option α) (f : Unit → Option α) :
    (if p then some a else x).orElse f = if p then some a else x.orElse f := by
  split <;> rfl

/-- Steps 1 to 4 of R157, of a use at offset `o` that names address `a`. -/
def State.useChecks (s : State) (w : World) (v : CapReg) (o a : Nat) : List (Bool × Flt) :=
  [(!v.tag, fltCap 1 o a), (decide (v.otype ≠ 0), fltCap 2 o a), (s.stale v, fltCap 3 o a), (decide (w = .field) && v.perm permGLASS, fltCap 4 o a)]

theorem State.firstFault_useChecks (s : State) (w : World) (v : CapReg) (o a : Nat) :
    firstFault (s.useChecks w v o a) = (s.useCause w v).map fun k => fltCap k o a := by
  simp only [State.useChecks, firstFault_cons, firstFault_nil, State.useCause, apply_ite (Option.map fun k => fltCap k o a), Option.map_some, Option.map_none,
    decide_eq_true_eq]
  rfl

/-- Steps 5 to 8 of R157, of a data access. -/
def accessChecks (v : CapReg) (o n : Nat) (need : Need) : List (Bool × Flt) :=
  let a := (v.base + o) % 2 ^ 32
  [(!v.perm (if need.write then permSTORE else permLOAD) || (need.cap && !v.perm (if need.write then permSTORECAP else permLOADCAP)), fltCap 5 o a),
    (decide (v.length < o + n), fltBounds 1 o a), (decide (a % n ≠ 0), fltMisaligned o a),
    (isDevice a && (!v.perm permDEVICE || need.cap), fltCap 12 o a), (need.write && need.cap && !hasTags a, fltCap 9 o a)]

/-- The core's own checks of a data access, R157 steps 1 to 8. -/
def State.ownChecks (s : State) (w : World) (v : CapReg) (o n : Nat) (need : Need) : List (Bool × Flt) :=
  s.useChecks w v o ((v.base + o) % 2 ^ 32) ++ accessChecks v o n need

theorem State.ownFault_eq_firstFault (s : State) (c : CoreId) (v : CapReg) (o n : Nat) (need : Need) :
    s.ownFault c v o n need = firstFault (s.ownChecks (s.core c).world v o n need) := by
  rw [State.ownChecks, firstFault_append, State.firstFault_useChecks, State.ownFault, State.worldOf]
  cases s.useCause (s.core c).world v with
  | some k => rfl
  | none =>
    simp only [accessChecks, firstFault_cons, firstFault_nil, decide_eq_true_eq]
    rfl

/-- Steps 5 to 8 of R157, of a fetch. -/
def fetchOwnChecks (pcc : CapReg) (o : Nat) : List (Bool × Flt) :=
  let a := (pcc.base + o) % 2 ^ 32
  [(!pcc.perm permEXEC, fltCap 5 o a), (decide (pcc.length < o + 4), fltBounds 2 o a), (decide (a % 4 ≠ 0), fltMisaligned o a),
    (isDevice a, fltCap 12 o a)]

/-- The checks of a fetch, R157 steps 1 to 8. -/
def State.fetchChecks (s : State) (w : World) (pcc : CapReg) (o : Nat) : List (Bool × Flt) :=
  s.useChecks w pcc o ((pcc.base + o) % 2 ^ 32) ++ fetchOwnChecks pcc o

/-- What can fail of a fetch that passes steps 1 to 8: the system MPU's judgement (step 9), then the place it reads, unless the instruction
cache serves it. -/
def State.fetchTargetFault (s : State) (c : CoreId) (w : World) (o a : Nat) : Option Flt :=
  match s.mpuJudge (coreNum c) w .fetch a with
  | some (sub, n) => some { cls := 7, sub := sub, tval := o, taddr := a, region := n, fetch := true }
  | none => if (s.core c).codeLine? a then none else (s.fetchBus a).map fun sub => fltBus sub o a

theorem State.fetchCheck_eq (s : State) (c : CoreId) (w : World) (pcc : CapReg) (o : Nat) :
    s.fetchCheck c w pcc o =
      (firstFault (s.fetchChecks w pcc o)).orElse fun _ => s.fetchTargetFault c w o ((pcc.base + o) % 2 ^ 32) := by
  rw [State.fetchChecks, firstFault_append, State.firstFault_useChecks, State.fetchCheck]
  cases s.useCause w pcc with
  | some k => rfl
  | none =>
    simp only [fetchOwnChecks, firstFault_cons, firstFault_nil, decide_eq_true_eq, Option.map_none, Option.orElse_none, ite_some_orElse]
    rfl

/-! ### The fault of a data access, from the list of its checks -/

theorem State.ownFault_of_find (s : State) (c : CoreId) (v : CapReg) (o n : Nat) (need : Need) (e : Bool × Flt)
    (h : (s.ownChecks (s.core c).world v o n need).find? (·.1) = some e) : s.ownFault c v o n need = some e.2 := by
  rw [State.ownFault_eq_firstFault, firstFault, h, Option.map_some]

theorem State.ownFault_of_find_none (s : State) (c : CoreId) (v : CapReg) (o n : Nat) (need : Need)
    (h : (s.ownChecks (s.core c).world v o n need).find? (·.1) = none) : s.ownFault c v o n need = none := by
  rw [State.ownFault_eq_firstFault, firstFault, h, Option.map_none]

/-- The fault of an access that the system MPU refuses (R157 step 9). -/
def mpuFlt (sub r o a : Nat) (store : Bool) : Flt := { cls := 7, sub := sub, tval := o, taddr := a, region := r, write := store }

theorem State.mpuFault_of_judge (s : State) (c : CoreId) (o a : Nat) (wr : Bool) (sub r : Nat)
    (h : s.mpuJudge (coreNum c) (s.core c).world (if wr then .write else .read) a = some (sub, r)) :
    s.mpuFault c o a wr = some (mpuFlt sub r o a wr) := by
  rw [State.mpuFault, State.worldOf, h]
  rfl

theorem State.accessFault_of_ownFault (s : State) (c : CoreId) (v : CapReg) (o n : Nat) (need : Need) (f : Flt)
    (h : s.ownFault c v o n need = some f) : s.accessFault c v o n need = some f := by
  rw [State.accessFault, h]
  rfl

theorem State.accessFault_of_mpuFault (s : State) (c : CoreId) (v : CapReg) (o n : Nat) (need : Need)
    (h : s.ownFault c v o n need = none) : s.accessFault c v o n need = s.mpuFault c o (capAddr v o) need.write := by
  rw [State.accessFault, h]
  rfl

/-- Command `i` of core `c` makes an access of `n` bytes at offset `o` of `v`: its first failing check of R157 steps 1 to 8 raises its fault. -/
def State.raisesOwn (s : State) (c : CoreId) (v : CapReg) (o n : Nat) (need : Need) (i : Instr) : Prop :=
  let t := s.fetched c
  ∀ e, (t.ownChecks (t.core c).world v o n need).find? (·.1) = some e → exec i s = .next (t.raise c e.2)

/-- Likewise of step 9, the system MPU's, where the steps before it pass. -/
def State.raisesMpu (s : State) (c : CoreId) (v : CapReg) (o n : Nat) (need : Need) (i : Instr) : Prop :=
  let t := s.fetched c
  let a := (v.base + o) % 2 ^ 32
  ∀ sub r, (t.ownChecks (t.core c).world v o n need).find? (·.1) = none →
    t.mpuJudge (coreNum c) (t.core c).world (if need.write then .write else .read) a = some (sub, r) →
    exec i s = .next (t.raise c (mpuFlt sub r o a need.write))

/-- A command that raises the fault of `State.accessFault` raises the fault of the first check that fails. -/
theorem State.raises_of_accessFault {s : State} {c : CoreId} {v : CapReg} {o n : Nat} {need : Need} {i : Instr}
    (h : ∀ f, (s.fetched c).accessFault c v o n need = some f → exec i s = .next ((s.fetched c).raise c f)) :
    s.raisesOwn c v o n need i ∧ s.raisesMpu c v o n need i := by
  refine ⟨fun e he => h _ ?_, fun sub r hn hj => h _ ?_⟩
  · exact State.accessFault_of_ownFault _ _ _ _ _ _ _ (State.ownFault_of_find _ _ _ _ _ _ e he)
  · rw [State.accessFault_of_mpuFault _ _ _ _ _ _ (State.ownFault_of_find_none _ _ _ _ _ _ hn)]
    exact State.mpuFault_of_judge _ _ _ _ _ _ _ hj

/-- R166: an STC would let a capability without GLOBAL leave through an authority with it. -/
def State.leaksLocal (s : State) (u au : CapReg) : Prop :=
  u.tag = true ∧ s.stale u = false ∧ u.perm permGLOBAL = false ∧ au.perm permGLOBAL = true

theorem State.leaksLocal_iff (s : State) (u au : CapReg) :
    s.leaksLocal u au ↔ (u.tag && !s.stale u && !u.perm permGLOBAL && au.perm permGLOBAL) = true := by
  simp [State.leaksLocal, and_assoc]

/-! ### Loads and stores of a core that runs

`v` is the authority of the access and `o` its offset (R189), as what the fetch leaves gives them. -/

section
variable {s t : State} {c : CoreId} {rs : Fin 32} {cs : Fin 8} {imm : BitVec 13} {g : Integ} {v : CapReg} {o : Nat}
  (hv : (s.core c).crd cs = v) (ho : ((s.core c).offset rs imm).toNat = o)
include hv ho

theorem State.load_of_fault {word n : Nat} {cap : Bool} {fin : State → Nat → Nat → Nat → State} {f : Flt}
    (h : s.accessFault c v o n ⟨false, cap⟩ = some f) : s.load c word rs cs imm n cap g fin = s.raise c f := by
  simp only [State.load, hv, ho, h]

theorem State.load_of_value {word n : Nat} {cap : Bool} {fin : State → Nat → Nat → Nat → State} {d : Nat}
    (h : s.accessFault c v o n ⟨false, cap⟩ = none) (hr : s.coreRead c o (capAddr v o) n g = (t, .ok d)) :
    s.load c word rs cs imm n cap g fin = (fin t o (capAddr v o) d).settle := by
  simp only [State.load, hv, ho, h, hr]

theorem State.load_of_busError {word n e : Nat} {cap : Bool} {fin : State → Nat → Nat → Nat → State}
    (h : s.accessFault c v o n ⟨false, cap⟩ = none) (hr : s.coreRead c o (capAddr v o) n g = (t, .error (some e))) :
    s.load c word rs cs imm n cap g fin = t.busFault c e o (capAddr v o) := by
  simp only [State.load, hv, ho, h, hr]

theorem State.load_of_stall {word n : Nat} {cap : Bool} {fin : State → Nat → Nat → Nat → State}
    (h : s.accessFault c v o n ⟨false, cap⟩ = none) (hr : s.coreRead c o (capAddr v o) n g = (t, .error none)) :
    s.load c word rs cs imm n cap g fin = (t.stall c word).settle := by
  simp only [State.load, hv, ho, h, hr]

end

section
variable {s : State} {c : CoreId} (hr : s.runs c) {rt rs : Fin 32} {cs : Fin 8} {imm : BitVec 13} {g : Integ} {v : CapReg} {o : Nat}
  (hv : ((s.fetched c).core c).crd cs = v) (ho : (((s.fetched c).core c).offset rs imm).toNat = o) {i : Instr}
include hr hv ho

/-- A load into a general register: the first failing check raises its fault. -/
theorem State.loadW_raises {op n : Nat} {ext : Nat → Word} (hi : exec i s = .next (s.loadW c op rt rs cs imm n g ext)) :
    s.raisesOwn c v o n ⟨false, false⟩ i ∧ s.raisesMpu c v o n ⟨false, false⟩ i :=
  State.raises_of_accessFault fun _ hf => by
    rw [hi, State.loadW, State.execMem_runs s c _ _ hr, State.load_of_fault hv ho hf]

/-- A load into a general register whose checks pass: the value that the read gives, its precise bus error (R215), or the stall (R82). -/
theorem State.loadW_brings {op n : Nat} {ext : Nat → Word} (hi : exec i s = .next (s.loadW c op rt rs cs imm n g ext))
    (hf : (s.fetched c).accessFault c v o n ⟨false, false⟩ = none) :
    (∀ t d, (s.fetched c).coreRead c o (capAddr v o) n g = (t, .ok d) → exec i s = .next (t.finish c rt (ext d)).settle) ∧
      (∀ t e, (s.fetched c).coreRead c o (capAddr v o) n g = (t, .error (some e)) → exec i s = .next (t.busFault c e o (capAddr v o))) ∧
      ∀ t, (s.fetched c).coreRead c o (capAddr v o) n g = (t, .error none) → exec i s = .next (t.stall c (wordM op rt rs cs imm)).settle := by
  rw [hi, State.loadW, State.execMem_runs s c _ _ hr]
  refine ⟨fun t d h => ?_, fun t e h => ?_, fun t h => ?_⟩
  · rw [State.load_of_value hv ho hf h]
  · rw [State.load_of_busError hv ho hf h]
  · rw [State.load_of_stall hv ho hf h]

/-- A data store: the first failing check raises its fault. -/
theorem State.storeW_raises {op n : Nat} (hi : exec i s = .next (s.storeW c op rt rs cs imm n g)) :
    s.raisesOwn c v o n ⟨true, false⟩ i ∧ s.raisesMpu c v o n ⟨true, false⟩ i :=
  State.raises_of_accessFault fun _ hf => by
    rw [hi, State.storeW, State.execMem_runs s c _ _ hr]
    simp only [hv, ho, hf]

/-- A data store whose checks pass: it stalls (R82), or reaches its register page or memory (R189, R215). -/
theorem State.storeW_hands {op n : Nat} (hi : exec i s = .next (s.storeW c op rt rs cs imm n g))
    (hf : (s.fetched c).accessFault c v o n ⟨true, false⟩ = none) :
    let t := s.fetched c
    let a := capAddr v o
    let d := (t.core c).rd rt
    (t.risingAt a = true → exec i s = .next (t.stall c (wordM op rt rs cs imm)).settle) ∧
      (t.risingAt a = false → regionOf a = .pages → exec i s = .next (t.corePageWrite c o a n d g).settle) ∧
      (t.risingAt a = false → regionOf a ≠ .pages → exec i s = .next (t.coreStore c o a n (d.toNat % 256 ^ n) g).settle) := by
  have h256 : 2 ^ (8 * n) = 256 ^ n := by rw [Nat.pow_mul]
  rw [hi, State.storeW, State.execMem_runs s c _ _ hr]
  simp only [hv, ho, hf, h256]
  refine ⟨fun hs => ?_, fun hs hp => ?_, fun hs hp => ?_⟩
  · simp only [hs, if_true]
  · simp only [hs, hp, if_true, Bool.false_eq_true, if_false]
  · simp only [hs, hp, Bool.false_eq_true, if_false]

theorem exec_lrw_raises : s.raisesOwn c v o 4 ⟨false, false⟩ (.lrw c rt rs cs imm g) ∧ s.raisesMpu c v o 4 ⟨false, false⟩ (.lrw c rt rs cs imm g) :=
  State.raises_of_accessFault fun _ hf => by
    rw [exec_lrw, execLrw, State.execMem_runs s c _ _ hr, State.load_of_fault hv ho hf]

theorem exec_scw_raises : s.raisesOwn c v o 4 ⟨true, false⟩ (.scw c rt rs cs imm g) ∧ s.raisesMpu c v o 4 ⟨true, false⟩ (.scw c rt rs cs imm g) :=
  State.raises_of_accessFault fun _ hf => by
    rw [exec_scw, execScw, State.execMem_runs s c _ _ hr]
    simp only [hv, ho, hf]

theorem exec_ldc_raises (hc : isCap rt = true) :
    s.raisesOwn c v o 16 ⟨false, true⟩ (.ldc c rt rs cs imm g) ∧ s.raisesMpu c v o 16 ⟨false, true⟩ (.ldc c rt rs cs imm g) :=
  State.raises_of_accessFault fun _ hf => by
    rw [exec_ldc, execLdc, State.execMem_runs s c _ _ hr, State.withCaps_one _ _ _ _ _ hc, State.load_of_fault hv ho hf]

theorem exec_stc_raisesOwn (hc : isCap rt = true) : s.raisesOwn c v o 16 ⟨true, true⟩ (.stc c rt rs cs imm g) := fun e he => by
  rw [exec_stc, execStc, State.execMem_runs s c _ _ hr, State.withCaps_one _ _ _ _ _ hc]
  simp only [hv, ho, State.ownFault_of_find _ _ _ _ _ _ e he]

theorem exec_stc_local (hc : isCap rt = true) (hf : (s.fetched c).ownFault c v o 16 ⟨true, true⟩ = none)
    (hl : (s.fetched c).leaksLocal (((s.fetched c).core c).crd (capOf rt)) v) :
    exec (.stc c rt rs cs imm g) s = .next ((s.fetched c).raise c (fltCap 8 o (capAddr v o))) := by
  rw [exec_stc, execStc, State.execMem_runs s c _ _ hr, State.withCaps_one _ _ _ _ _ hc]
  simp only [hv, ho, hf, (State.leaksLocal_iff _ _ _).1 hl, if_true]
  rfl

theorem exec_stc_raisesMpu (hc : isCap rt = true)
    (hl : ¬ (s.fetched c).leaksLocal (((s.fetched c).core c).crd (capOf rt)) v) :
    s.raisesMpu c v o 16 ⟨true, true⟩ (.stc c rt rs cs imm g) := fun sub r hn hj => by
  have hf := State.ownFault_of_find_none _ _ _ _ _ _ hn
  have hm : (s.fetched c).mpuFault c o (capAddr v o) true = _ := State.mpuFault_of_judge _ _ _ _ _ _ _ hj
  rw [State.leaksLocal_iff] at hl
  rw [exec_stc, execStc, State.execMem_runs s c _ _ hr, State.withCaps_one _ _ _ _ _ hc]
  simp only [hv, ho, hf, hl, hm]
  rfl

end

/-! ### Fetches -/

section
variable {s : State} {c : CoreId} (h : s.atBoundary c)
include h

/-- FETCH_FAULT raises the fault of the fetch's first failing check. -/
theorem exec_fetchFault_of_check {e : Flt}
    (he : s.fetchCheck c (s.core c).world (s.core c).bank.pcc (s.core c).pc.toNat = some e) :
    exec (.fetchFault c) s = .next (s.raise c e) := by
  rw [exec_fetchFault, execFetchFault, State.worldOf, he]
  exact congrArg _ (State.execOn_of_fetchFault s c id h e he)

/-- A fetch that passes its checks and reads memory may fail there (R215). -/
theorem exec_fetchFault_of_memory
    (he : s.fetchCheck c (s.core c).world (s.core c).bank.pcc (s.core c).pc.toNat = none)
    (hl : (s.core c).codeLine? (s.core c).fetchAddr = false) (hs : s.readStalls (s.core c).fetchAddr = false) :
    exec (.fetchFault c) s = .next ((s.deferLines c).fetchFails c) := by
  obtain ⟨-, -, -, hev⟩ := id h
  have hst : s.fetchStalls c = false := by rw [State.fetchStalls, hl, hs]; rfl
  rw [exec_fetchFault, execFetchFault, State.worldOf, he]
  simp only [hl, Bool.false_eq_true, if_false]
  rw [State.boundary_of_atBoundary s c _ h]
  simp [hev, hst]

end

theorem State.fetchCheck_of_find (s : State) (c : CoreId) (w : World) (pcc : CapReg) (o : Nat) (e : Bool × Flt)
    (h : (s.fetchChecks w pcc o).find? (·.1) = some e) : s.fetchCheck c w pcc o = some e.2 := by
  rw [State.fetchCheck_eq, firstFault, h]
  rfl

theorem State.fetchCheck_of_find_none (s : State) (c : CoreId) (w : World) (pcc : CapReg) (o : Nat)
    (h : (s.fetchChecks w pcc o).find? (·.1) = none) :
    s.fetchCheck c w pcc o = s.fetchTargetFault c w o ((pcc.base + o) % 2 ^ 32) := by
  rw [State.fetchCheck_eq, firstFault, h]
  rfl

theorem State.fetchTargetFault_of_mpu (s : State) (c : CoreId) (w : World) (o a sub r : Nat)
    (h : s.mpuJudge (coreNum c) w .fetch a = some (sub, r)) :
    s.fetchTargetFault c w o a = some { cls := 7, sub := sub, tval := o, taddr := a, region := r, fetch := true } := by
  rw [State.fetchTargetFault, h]

theorem State.fetchTargetFault_of_memory (s : State) (c : CoreId) (w : World) (o a : Nat)
    (h : s.mpuJudge (coreNum c) w .fetch a = none) (hl : (s.core c).codeLine? a = false) :
    s.fetchTargetFault c w o a = (s.fetchBus a).map fun sub => fltBus sub o a := by
  rw [State.fetchTargetFault, h, hl]
  rfl

/-- Settles O11: a command's access as the list of its checks, the MPU's judgement and its target; a stall; the fetch. -/
theorem memoryChecks : Obligations.MemoryChecks := by
  unfold Obligations.MemoryChecks
  refine ⟨fun s₀ c rt rs cs imm g hr => ?data, fun s c rt rs cs imm g w hs hw => ?stalled, fun s c hb => ?fetch⟩
  case data =>
    -- each `rfl`: the authority, the offset and, of the loads and stores that share one meaning, the dispatch to it
    refine ⟨State.loadW_raises hr rfl rfl rfl, State.loadW_raises hr rfl rfl rfl, State.loadW_raises hr rfl rfl rfl,
      State.loadW_raises hr rfl rfl rfl, State.loadW_raises hr rfl rfl rfl, exec_lrw_raises hr rfl rfl,
      State.storeW_raises hr rfl rfl rfl, State.storeW_raises hr rfl rfl rfl, State.storeW_raises hr rfl rfl rfl, exec_scw_raises hr rfl rfl,
      State.loadW_brings hr rfl rfl rfl, State.loadW_brings hr rfl rfl rfl, State.loadW_brings hr rfl rfl rfl,
      State.loadW_brings hr rfl rfl rfl, State.loadW_brings hr rfl rfl rfl, State.storeW_hands hr rfl rfl rfl,
      State.storeW_hands hr rfl rfl rfl, State.storeW_hands hr rfl rfl rfl, fun hc => ?_⟩
    exact ⟨exec_ldc_raises hr rfl rfl hc, exec_stc_raisesOwn hr rfl rfl hc,
      fun hn => exec_stc_local hr rfl rfl hc (State.ownFault_of_find_none _ _ _ _ _ _ hn), exec_stc_raisesMpu hr rfl rfl hc⟩
  case stalled =>
    have hsome : (s.core c).stalled.isSome = true := by rw [hs]; rfl
    refine ⟨?_, ?_, ?_⟩
    · rw [exec_lw, execLw, State.loadW, State.execMem_stalled_other s c _ w _ hs hw]
    · rw [exec_fence, execFence, State.execOn_stalled s c _ hsome]
    · rw [exec_interruptEntry, execInterruptEntry, State.boundary_stalled _ c _ (by rwa [State.deferLines_core])]
  case fetch =>
    refine ⟨fun e he => exec_fetchFault_of_check hb (State.fetchCheck_of_find _ _ _ _ _ e he), fun hn => ?_⟩
    have htarget := State.fetchCheck_of_find_none s c _ _ _ hn
    refine ⟨fun sub r hj => ?mpu, fun hj hl => ?memory⟩
    case mpu => exact exec_fetchFault_of_check hb (htarget.trans (State.fetchTargetFault_of_mpu _ _ _ _ _ _ _ hj))
    case memory =>
      have hmem := htarget.trans (State.fetchTargetFault_of_memory _ _ _ _ _ hj hl)
      exact ⟨fun e he => exec_fetchFault_of_check hb (hmem.trans (congrArg _ he)),
        fun he hs => exec_fetchFault_of_memory hb (hmem.trans (congrArg _ he)) hl hs⟩

end Sys2Proof.Machine
end

section
/-!
PROOFS. The system registers as tables (R153, R205), and the mask levels that a world may set (R207).
-/
namespace Sys2Proof.Machine
open Sys2Proof

theorem exec_mfsr (c : CoreId) (rd : Fin 32) (imm : BitVec 12) (s : State) : exec (.mfsr c rd imm) s = execMfsr c rd imm s := rfl
theorem exec_mtsr (c : CoreId) (rs1 : Fin 32) (imm : BitVec 12) (s : State) : exec (.mtsr c rs1 imm) s = execMtsr c rs1 imm s := rfl
theorem exec_maskx (c : CoreId) (rd rs1 : Fin 32) (s : State) : exec (.maskx c rd rs1) s = execMaskx c rd rs1 s := rfl
theorem exec_maski (c : CoreId) (rd : Fin 32) (imm : BitVec 12) (s : State) : exec (.maski c rd imm) s = execMaski c rd imm s := rfl

/-- The system registers that MFSR reads, with their values (R153, R205). -/
def State.readableRegs (s : State) (c : CoreId) : List (BitVec 12 × Word) :=
  let k := s.core c
  let b := k.bank
  [(0x000, BitVec.ofNat 32 (coreNum c + 0x0200)), (0x001, BitVec.ofNat 32 (worldCode k.world)), (0x002, BitVec.ofNat 32 k.mask),
    (0x008, b.ctabBase), (0x009, b.ctabCount), (0x010, BitVec.ofNat 32 s.aon.tstamp), (0x020, b.tcause), (0x021, b.tpc), (0x022, b.tval),
    (0x023, b.taddr), (0x024, b.timpr), (0x025, b.timprAddr), (0x030, k.scause), (0x031, k.spc), (0x032, k.sval)]

/-- A number that none of the listed keys is, as a natural number. -/
theorem toNat_ne_of_absent {w : Nat} {α : Type} (l : List (BitVec w × α)) (n : BitVec w) (h : ∀ e ∈ l, e.1 ≠ n) :
    ∀ m ∈ l.map (·.1.toNat), m ≠ n.toNat := by
  simp only [List.mem_map]
  rintro m ⟨e, he, rfl⟩ hm
  exact h e he (BitVec.eq_of_toNat_eq hm)

theorem State.sysRead_readable (s : State) (c : CoreId) : ∀ e ∈ s.readableRegs c, s.sysRead c e.1.toNat = some e.2 := by
  simp [State.readableRegs, State.sysRead]

theorem State.sysRead_absent (s : State) (c : CoreId) (n : BitVec 12) (h : ∀ e ∈ s.readableRegs c, e.1 ≠ n) :
    s.sysRead c n.toNat = none := by
  have h' := toNat_ne_of_absent _ _ h
  simp only [State.readableRegs, List.map_cons, List.map_nil, List.forall_mem_cons] at h'
  unfold State.sysRead
  split <;> simp_all

/-- The system registers that MTSR writes beside MASK, with the core that a write of `x` leaves (R205). -/
def Core.writableRegs (k : Core) (x : Word) : List (BitVec 12 × Core) :=
  let b := k.bank
  [(0x008, k.setBank { b with ctabBase := x &&& 0xFFFFFFF0 }), (0x009, k.setBank { b with ctabCount := x &&& 0xFFFF }),
    (0x020, k.setBank { b with tcause := x &&& 0x00FFFFFF }), (0x021, k.setBank { b with tpc := x }), (0x022, k.setBank { b with tval := x })]

theorem Core.sysWrite_writable (k : Core) (x : Word) : ∀ e ∈ k.writableRegs x, k.sysWrite e.1.toNat x = some e.2 := by
  simp [Core.writableRegs, Core.sysWrite]

theorem Core.sysWrite_absent (k : Core) (x : Word) (n : BitVec 12) (hm : n ≠ 2) (h : ∀ e ∈ k.writableRegs x, e.1 ≠ n) :
    k.sysWrite n.toNat x = none := by
  have hm' : n.toNat ≠ 2 := fun e => hm (BitVec.eq_of_toNat_eq e)
  have h' := toNat_ne_of_absent _ _ h
  simp only [Core.writableRegs, List.map_cons, List.map_nil, List.forall_mem_cons] at h'
  unfold Core.sysWrite
  split <;> simp_all

theorem Core.writableRegs_pc (k : Core) (x : Word) : ∀ e ∈ k.writableRegs x, e.1 ≠ 2#12 ∧ e.2.pc = k.pc := by
  simp [Core.writableRegs]

/-- R207: the mask levels that the running world may set. -/
theorem State.maskRefused_eq_false_iff (s : State) (c : CoreId) (l : Nat) :
    s.maskRefused c l = false ↔ (s.core c).world = .glass ∨ l ≤ 13 := by
  cases hw : (s.core c).world <;> simp [State.maskRefused, State.worldOf, hw]

section
variable {s : State} {c : CoreId} (h : s.runs c)
include h

theorem exec_mfsr_readable (rd : Fin 32) : ∀ e ∈ (s.fetched c).readableRegs c,
    exec (.mfsr c rd e.1) s =
      .next ((s.fetched c).setCore c { ((s.fetched c).core c).wr rd e.2 with pc := ((s.fetched c).core c).pc + 4 }) := by
  intro e he
  simp [exec_mfsr, execMfsr, State.execOn_runs s c _ h, State.sysRead_readable _ _ e he, State.finish_eq]

theorem exec_mfsr_absent (rd : Fin 32) (n : BitVec 12) (hn : ∀ e ∈ (s.fetched c).readableRegs c, e.1 ≠ n) :
    exec (.mfsr c rd n) s = .next ((s.fetched c).illegal c (wordS rd 0 n 6)) := by
  simp [exec_mfsr, execMfsr, State.execOn_runs s c _ h, State.sysRead_absent _ _ n hn]

theorem exec_mtsr_writable (rs1 : Fin 32) : ∀ e ∈ ((s.fetched c).core c).writableRegs (((s.fetched c).core c).rd rs1),
    exec (.mtsr c rs1 e.1) s = .next ((s.fetched c).setCore c { e.2 with pc := ((s.fetched c).core c).pc + 4 }) := by
  intro e he
  obtain ⟨hne, hpc⟩ := Core.writableRegs_pc _ _ e he
  simp [exec_mtsr, execMtsr, State.execOn_runs s c _ h, Core.sysWrite_writable _ _ e he, hne, Core.next, hpc]

theorem exec_mtsr_absent (rs1 : Fin 32) (n : BitVec 12) (h2 : n ≠ 2)
    (hn : ∀ e ∈ ((s.fetched c).core c).writableRegs (((s.fetched c).core c).rd rs1), e.1 ≠ n) :
    exec (.mtsr c rs1 n) s = .next ((s.fetched c).illegal c (wordS 0 rs1 n 7)) := by
  simp [exec_mtsr, execMtsr, State.execOn_runs s c _ h, Core.sysWrite_absent _ _ n h2 hn]

theorem exec_mtsr_mask (rs1 : Fin 32) (hl : (s.fetched c).maskRefused c ((((s.fetched c).core c).rd rs1).toNat % 16) = false) :
    exec (.mtsr c rs1 2) s = .next ((s.fetched c).setCore c
      { (s.fetched c).core c with mask := (((s.fetched c).core c).rd rs1).toNat % 16, pc := ((s.fetched c).core c).pc + 4 }) := by
  simp [exec_mtsr, execMtsr, State.execOn_runs s c _ h, hl, Core.sysWrite, Core.next]

theorem exec_mtsr_mask_refused (rs1 : Fin 32) (hl : (s.fetched c).maskRefused c ((((s.fetched c).core c).rd rs1).toNat % 16) = true) :
    exec (.mtsr c rs1 2) s = .next ((s.fetched c).illegal c (wordS 0 rs1 2 7)) := by
  simp [exec_mtsr, execMtsr, State.execOn_runs s c _ h, hl]

end

/-- MASKX and MASKI at a level that the world may set: rd receives the old level (R207). -/
theorem State.maskSet_allowed (s : State) (c : CoreId) (rd : Fin 32) (l word : Nat) (hl : s.maskRefused c l = false) :
    s.maskSet c rd l word = s.setCore c
      { (s.core c).wr rd (BitVec.ofNat 32 (s.core c).mask) with mask := l, pc := (s.core c).pc + 4 } := by
  simp [State.maskSet, hl, Core.next]

theorem State.maskSet_refused (s : State) (c : CoreId) (rd : Fin 32) (l word : Nat) (hl : s.maskRefused c l = true) :
    s.maskSet c rd l word = s.illegal c word := by
  simp [State.maskSet, hl]

/-- MASKX sets the level of rs1[3:0]. -/
theorem exec_maskx_runs {s : State} {c : CoreId} (h : s.runs c) (rd rs1 : Fin 32) :
    exec (.maskx c rd rs1) s =
      .next ((s.fetched c).maskSet c rd ((((s.fetched c).core c).rd rs1).toNat % 16) (wordS rd rs1 0 8)) := by
  rw [exec_maskx, execMaskx, State.execOn_runs s c _ h]

/-- MASKI sets the level of its immediate, where that is a level. -/
theorem exec_maski_runs {s : State} {c : CoreId} (h : s.runs c) (rd : Fin 32) (imm : BitVec 12) :
    exec (.maski c rd imm) s = .next (if 16 ≤ imm.toNat then (s.fetched c).illegal c (wordS rd 0 imm 9)
      else (s.fetched c).maskSet c rd imm.toNat (wordS rd 0 imm 9)) := by
  rw [exec_maski, execMaski, State.execOn_runs s c _ h]

/-- Settles O17: MFSR, MTSR, MASKX and MASKI by the tables of the readable and the writable registers. -/
theorem systemRegisters : Obligations.SystemRegisters := by
  unfold Obligations.SystemRegisters
  intro s₀ c rd rs1 imm hr
  have allowed (l : Nat) := State.maskRefused_eq_false_iff (s₀.fetched c) c l
  have refused {l : Nat} (hl : ¬ (((s₀.fetched c).core c).world = .glass ∨ l ≤ 13)) : (s₀.fetched c).maskRefused c l = true := by
    rwa [← allowed, Bool.not_eq_false] at hl
  refine ⟨exec_mfsr_readable hr rd, exec_mfsr_absent hr rd imm, exec_mtsr_writable hr rs1, fun hl => ?mtsr, fun hl => ?mtsrRefused,
    exec_mtsr_absent hr rs1 imm, fun hl => ?maskx, fun hl => ?maskxRefused, fun h16 hl => ?maski, fun hl => ?maskiRefused⟩
  case mtsr => exact exec_mtsr_mask hr rs1 ((allowed _).2 hl)
  case mtsrRefused => exact exec_mtsr_mask_refused hr rs1 (refused hl)
  case maskx => rw [exec_maskx_runs hr, State.maskSet_allowed _ _ _ _ _ ((allowed _).2 hl)]
  case maskxRefused => rw [exec_maskx_runs hr, State.maskSet_refused _ _ _ _ _ (refused hl)]
  case maski => rw [exec_maski_runs hr, if_neg (by omega), State.maskSet_allowed _ _ _ _ _ ((allowed _).2 hl)]
  case maskiRefused =>
    rw [exec_maski_runs hr]
    split
    · rfl
    next h16 => rw [State.maskSet_refused _ _ _ _ _ (refused (hl.resolve_left h16))]

end Sys2Proof.Machine
end

section
/-!
PROOFS. Epoch counters, sweeps and the table walk of LDCAPX (R168 to R175).
-/
namespace Sys2Proof.Machine
open Sys2Proof

theorem exec_ebump (c : CoreId) (wd ws : Fin 32) (s : State) : exec (.ebump c wd ws) s = execEbump c wd ws s := rfl
theorem exec_esweep (c : CoreId) (wd ws : Fin 32) (s : State) : exec (.esweep c wd ws) s = execEsweep c wd ws s := rfl
theorem exec_sweepDone (s : State) : exec .sweepDone s = execSweepDone s := rfl
theorem exec_ldcapx (c : CoreId) (cd ws : Fin 32) (g : Integ) (s : State) : exec (.ldcapx c cd ws g) s = execLdcapx c cd ws g s := rfl

/-! ### The sweep-done bits -/

/-- Taking a set bit away clears that bit alone. -/
theorem testBit_sub_two_pow (d i j : Nat) (h : d.testBit i = true) :
    (d - 2 ^ i).testBit j = (d.testBit j && decide (j ≠ i)) := by
  induction i generalizing d j with
  | zero =>
    have hodd : d % 2 = 1 := by simpa using h
    cases j with
    | zero => simp; omega
    | succ j =>
      have hhalf : (d - 1) / 2 = d / 2 := by omega
      simp [Nat.testBit_succ, hhalf]
  | succ i ih =>
    have hge : 2 ^ (i + 1) ≤ d := Nat.ge_two_pow_of_testBit h
    rw [Nat.pow_succ] at hge
    cases j with
    | zero =>
      have hmod : (d - 2 ^ i * 2) % 2 = d % 2 := by omega
      simp [Nat.testBit_zero, Nat.pow_succ, hmod]
    | succ j =>
      have hhalf : (d - 2 ^ i * 2) / 2 = d / 2 - 2 ^ i := by omega
      rw [Nat.testBit_succ] at h
      simp [Nat.testBit_succ, Nat.pow_succ, hhalf, ih (d / 2) j h]

/-- A sweep-done bit after one of them is set or cleared. -/
theorem testBit_setDone (d i j : Nat) (b : Bool) : (setDone d i b).testBit j = if j = i then b else d.testBit j := by
  unfold setDone
  cases b with
  | true => by_cases hj : j = i <;> simp [hj, Ne.symm]
  | false =>
    by_cases hd : d.testBit i = true
    · by_cases hj : j = i <;> simp [hd, testBit_sub_two_pow, hj]
    · by_cases hj : j = i <;> simp_all

theorem State.epochStat_onlyPages (s : State) (c : CoreId) (res : Nat) : s.OnlyPages (s.epochStat c res) := by
  unfold State.epochStat
  dsimp only
  split
  · exact (State.put_onlyPages ..).trans (State.inc_onlyPages ..)
  · split
    · exact (State.put_onlyPages ..).trans (State.inc_onlyPages ..)
    · exact State.put_onlyPages ..

/-! ### EBUMP (R168, R169) -/

/-- The refusal of an epoch index that no counter has, or that the running world may not name. -/
def indexRefusal (w : World) (i : Nat) : Option Nat :=
  if 64 ≤ i then some 0x0E else if w = .field ∧ 32 ≤ i then some 0x06 else none

theorem State.bumpResult_eq (s : State) (w : World) (x : Word) :
    s.bumpResult w x = (indexRefusal w x.toNat).getD
      (if s.sweep.map (·.index) = some x.toNat ∨ s.epochOf x.toNat = 255 ∧ s.sweepDone.testBit x.toNat = false then 0x04 else 0) := by
  unfold State.bumpResult indexRefusal
  by_cases h64 : 64 ≤ x.toNat
  · simp [h64]
  by_cases hw : w = .field ∧ 32 ≤ x.toNat
  · simp [h64, hw]
  simp only [h64, hw, if_false, Option.getD_none]
  refine ite_congr (propext ?_) (fun _ => rfl) fun _ => rfl
  rw [Bool.or_eq_true, Bool.and_eq_true, decide_eq_true_eq, Bool.not_eq_true']
  refine or_congr ?_ Iff.rfl
  cases s.sweep <;> simp

/-- What an EBUMP of index `i` that is not refused does to the epoch file. -/
def State.bumped (s : State) (c : CoreId) (i : Nat) : State :=
  let t := { s with epochs := tabSet 0 i ((s.epochOf i + 1) % 256) s.epochs, fab := { s.fab with bump := some (c, i) } }
  if s.epochOf i = 255 then { t with sweepDone := setDone t.sweepDone i false } else t

theorem State.bumped_fields (s : State) (c : CoreId) (i : Nat) :
    (∀ d, (s.bumped c i).core d = s.core d) ∧ (s.bumped c i).mem = s.mem ∧ (s.bumped c i).tags = s.tags ∧
      (s.bumped c i).epochs = tabSet 0 i ((s.epochOf i + 1) % 256) s.epochs ∧
      (s.bumped c i).sweepDone = if s.epochOf i = 255 then setDone s.sweepDone i false else s.sweepDone := by
  unfold State.bumped
  dsimp only
  split
  · exact ⟨fun d => by cases d <;> rfl, rfl, rfl, rfl, rfl⟩
  · exact ⟨fun d => by cases d <;> rfl, rfl, rfl, rfl, rfl⟩

theorem State.epochOf_bumped (s : State) (c : CoreId) (i j : Nat) :
    (s.bumped c i).epochOf j = if j = i then (s.epochOf i + 1) % 256 else s.epochOf j := by
  obtain ⟨-, -, -, he, -⟩ := s.bumped_fields c i
  rw [State.epochOf, he, tabGet_tabSet]
  rfl

theorem State.testBit_sweepDone_bumped (s : State) (c : CoreId) (i j : Nat) :
    (s.bumped c i).sweepDone.testBit j = if j = i ∧ s.epochOf i = 255 then false else s.sweepDone.testBit j := by
  obtain ⟨-, -, -, -, hd⟩ := s.bumped_fields c i
  rw [hd]
  by_cases he : s.epochOf i = 255
  · simp [he, testBit_setDone]
  · simp [he]

/-- An EBUMP of a core whose fetch passes, as the epochs its fetch may have seen let it. -/
theorem exec_ebump_runs (s₀ : State) (c : CoreId) (wd ws : Fin 32) (hb : (s₀.bumpSeen c).2.atBoundary c)
    (hf : ((s₀.bumpSeen c).1 (s₀.bumpSeen c).2).fetchCheck c ((s₀.bumpSeen c).2.core c).world ((s₀.bumpSeen c).2.core c).bank.pcc
      ((s₀.bumpSeen c).2.core c).pc.toNat = none) (hs : (s₀.bumpSeen c).2.fetchStalls c = false) :
    let s := (s₀.bumpSeen c).2.fetched c
    let x := (s.core c).rd ws
    let res := s.bumpResult (s.worldOf c) x
    exec (.ebump c wd ws) s₀ =
      .next (((if res ≠ 0 then s else s.bumped c x.toNat).epochStat c res).finish c wd (BitVec.ofNat 32 res)) := by
  rw [exec_ebump, execEbump]
  dsimp only
  rw [State.execSeen_runs _ c _ _ hb hf hs]
  rfl

/-- The result of an EBUMP or ESWEEP is counted in CPUn, rd receives it, and the core goes on: nothing else of the cores, memory, tags and
epochs changes. -/
theorem State.epochStat_finish (s : State) (c : CoreId) (wd : Fin 32) (res : Nat) :
    let t := (s.epochStat c res).finish c wd (BitVec.ofNat 32 res)
    (∀ d, t.core d = if d = c then { (s.core c).wr wd (BitVec.ofNat 32 res) with pc := (s.core c).pc + 4 } else s.core d) ∧ t.mem = s.mem ∧
      t.tags = s.tags ∧ t.epochs = s.epochs ∧ t.sweepDone = s.sweepDone ∧ t.sweep = s.sweep := by
  obtain ⟨hc, hm, ht, he, hd, hs⟩ := s.epochStat_onlyPages c res
  simp [State.finish_eq, hc, hm, ht, he, hd, hs]

theorem State.epochStat_finish_field (s : State) (c : CoreId) (wd : Fin 32) (res : Nat) (d : CoreId) :
    (((s.epochStat c res).finish c wd (BitVec.ofNat 32 res)).core d).field = (s.core d).field := by
  obtain ⟨hc, -⟩ := State.epochStat_finish s c wd res
  rw [hc]
  split
  next h => rw [h, Core.wr_field]
  next => rfl

/-- What an EBUMP with result `res` leaves. -/
theorem State.ebump_effect (s : State) (c : CoreId) (wd : Fin 32) (i res : Nat) :
    let t := ((if res ≠ 0 then s else s.bumped c i).epochStat c res).finish c wd (BitVec.ofNat 32 res)
    t.core c = { (s.core c).wr wd (BitVec.ofNat 32 res) with pc := (s.core c).pc + 4 } ∧ t.mem = s.mem ∧ t.tags = s.tags ∧
      (∀ j, t.epochOf j = if res = 0 ∧ j = i then (s.epochOf i + 1) % 256 else s.epochOf j) ∧
      (∀ j, t.sweepDone.testBit j = if res = 0 ∧ j = i ∧ s.epochOf i = 255 then false else s.sweepDone.testBit j) := by
  obtain ⟨hc, hm, ht, he, hd, -⟩ := State.epochStat_finish (if res ≠ 0 then s else s.bumped c i) c wd res
  obtain ⟨bc, bm, bt, -, -⟩ := s.bumped_fields c i
  refine ⟨(hc c).trans ?_, hm.trans ?_, ht.trans ?_, fun j => ?_, fun j => ?_⟩
  · rw [if_pos rfl]
    split <;> simp [bc]
  · split <;> simp [bm]
  · split <;> simp [bt]
  · rw [State.epochOf, he]
    split
    next h => rw [if_neg fun hr => h hr.1]; rfl
    next h => exact (s.epochOf_bumped c i j).trans (by simp [Decidable.not_not.1 h])
  · rw [hd]
    split
    next h => rw [if_neg fun hr => h hr.1]
    next h => exact (s.testBit_sweepDone_bumped c i j).trans (by simp [Decidable.not_not.1 h])

/-! ### ESWEEP (R170, R171 step 1) -/

theorem State.sweepResult_eq (s : State) (w : World) (x : Word) :
    s.sweepResult w x = (indexRefusal w x.toNat).getD (if s.sweep.isSome then 0x01 else 0) := by
  unfold State.sweepResult indexRefusal
  by_cases h64 : 64 ≤ x.toNat
  · simp [h64]
  by_cases hw : w = .field ∧ 32 ≤ x.toNat
  · simp [h64, hw]
  simp [h64, hw]

/-- A sweep of index `i` that core `c` has started: the capability registers are swept, and the banks that are on wait for it. -/
def State.sweepStarted (s : State) (c : CoreId) (i : Nat) : State :=
  let n := s.sweepCount i s.core0.field + s.sweepCount i s.core0.glass + s.sweepCount i s.core1.field + s.sweepCount i s.core1.glass
  let banks := (numsFrom 5 0).filter fun b => s.pdOn (bankRange b).2.2
  { s.sweepCores i with sweep := some ⟨i, c, banks, n⟩, sweepLast := (i, s.sweepLast.2) }

theorem State.sweepStarted_fields (s : State) (c : CoreId) (i : Nat) :
    (∀ d, (s.sweepStarted c i).core d =
      { s.core d with field := s.sweepBank i (s.core d).field, glass := s.sweepBank i (s.core d).glass }) ∧
      (s.sweepStarted c i).mem = s.mem ∧ (s.sweepStarted c i).tags = s.tags ∧ (s.sweepStarted c i).sweepDone = s.sweepDone ∧
      (s.sweepStarted c i).sweep.map (fun x => (x.index, x.core)) = some (i, c) :=
  ⟨fun d => by cases d <;> rfl, rfl, rfl, rfl, rfl⟩

/-- An ESWEEP of a core that runs. -/
theorem exec_esweep_runs {s₀ : State} {c : CoreId} (h : s₀.runs c) (wd ws : Fin 32) :
    let s := s₀.fetched c
    let x := (s.core c).rd ws
    let res := s.sweepResult (s.worldOf c) x
    exec (.esweep c wd ws) s₀ = .next
      (((if res ≠ 0 ∨ s.sweepDone.testBit x.toNat then s else s.sweepStarted c x.toNat).epochStat c res).finish c wd (BitVec.ofNat 32 res)) := by
  rw [exec_esweep, execEsweep, State.execOn_runs s₀ c _ h]
  rfl

theorem State.getElem_sweepBank (s : State) (i : Nat) (b : Bank) (j : Fin 8) :
    (s.sweepBank i b).c[j] = if s.swept i b.c[j] then { b.c[j] with tag := false } else b.c[j] := by
  simp [State.sweepBank, State.sweepReg]

/-- What an ESWEEP with result `res` leaves: it starts only where the result is 0 and the index's sweep is not done. -/
theorem State.esweep_effect (s : State) (c : CoreId) (wd : Fin 32) (i res : Nat) :
    let starts := res = 0 ∧ s.sweepDone.testBit i = false
    let t := ((if res ≠ 0 ∨ s.sweepDone.testBit i then s else s.sweepStarted c i).epochStat c res).finish c wd (BitVec.ofNat 32 res)
    (t.core c).w = ((s.core c).wr wd (BitVec.ofNat 32 res)).w ∧ (t.core c).pc = (s.core c).pc + 4 ∧
      t.mem = s.mem ∧ t.tags = s.tags ∧ t.sweepDone = s.sweepDone ∧
      (starts → t.sweep.map (fun x => (x.index, x.core)) = some (i, c)) ∧ (¬ starts → t.sweep = s.sweep) ∧
      (∀ d (j : Fin 8), (t.core d).field.c[j] =
        if starts ∧ s.swept i (s.core d).field.c[j] then { (s.core d).field.c[j] with tag := false } else (s.core d).field.c[j]) := by
  intro starts
  have hstarts : (res ≠ 0 ∨ s.sweepDone.testBit i = true) ↔ ¬ starts := by
    rw [Classical.not_and_iff_not_or_not, Bool.not_eq_false]
  by_cases h : starts
  · rw [if_neg (by rwa [hstarts, Classical.not_not])]
    obtain ⟨hc, hm, ht, -, hd, hs⟩ := State.epochStat_finish (s.sweepStarted c i) c wd res
    obtain ⟨sc, sm, st, sd, ss⟩ := s.sweepStarted_fields c i
    refine ⟨?_, ?_, hm.trans sm, ht.trans st, hd.trans sd, fun _ => by rw [hs, ss], fun hn => absurd h hn, fun d j => ?_⟩
    · rw [hc, if_pos rfl]
      exact Core.wr_w_congr (by rw [sc]) _ _
    · rw [hc, if_pos rfl, sc]
    · simp only [State.epochStat_finish_field, sc, State.getElem_sweepBank, h, true_and]
  · rw [if_pos (hstarts.2 h)]
    obtain ⟨hc, hm, ht, -, hd, hs⟩ := State.epochStat_finish s c wd res
    refine ⟨by rw [hc, if_pos rfl], by rw [hc, if_pos rfl], hm, ht, hd, fun hn => absurd hn h, fun _ => hs, fun d j => ?_⟩
    simp only [State.epochStat_finish_field, h, false_and, if_false]

/-! ### The end of a sweep (R171 steps 2 and 3, R172) -/

theorem State.swept_congr {s t : State} (h : t.epochs = s.epochs) (i : Nat) (v : CapReg) : t.swept i v = s.swept i v := by
  rw [State.swept, State.stale_congr h, State.swept]

theorem State.granuleCap_congr {s t : State} (hm : t.mem = s.mem) (ht : t.tags = s.tags) (g : Nat) : t.granuleCap g = s.granuleCap g := by
  rw [State.granuleCap, State.loadN_congr hm, State.tag, ht, State.granuleCap, State.tag]

/-- A granule that a sweep of index `i` would clear. -/
def State.sweptAt (s : State) (i g : Nat) : Bool := s.swept i (s.granuleCap g)

theorem State.sweptAt_congr {s t : State} (hm : t.mem = s.mem) (ht : t.tags = s.tags) (he : t.epochs = s.epochs) (i g : Nat) :
    t.sweptAt i g = s.sweptAt i g := by
  rw [State.sweptAt, State.granuleCap_congr hm ht, State.swept_congr he, State.sweptAt]

/-- A granule is swept once: its tag is 0 then, and no other granule is touched. -/
theorem State.sweptAt_setTag (s : State) (i g x : Nat) : (s.setTag g false).sweptAt i x = (s.sweptAt i x && decide (x ≠ g)) := by
  have hl : (s.setTag g false).loadN (16 * x) 16 = s.loadN (16 * x) 16 := State.loadN_congr rfl ..
  rw [State.sweptAt, State.granuleCap, hl, State.tag_setTag, State.swept_congr (s := s) (t := s.setTag g false) rfl]
  by_cases hx : x = g
  · simp [hx, State.swept]
  · simp [hx, State.sweptAt, State.granuleCap]

theorem State.sweepGranule_fields (i g : Nat) (s : State) :
    let t := State.sweepGranule i g s
    t.mem = s.mem ∧ t.epochs = s.epochs ∧ t.sweepDone = s.sweepDone ∧
      ∀ x, t.tag x = (s.tag x && !(decide (x = g) && s.sweptAt i x)) ∧ t.sweptAt i x = (s.sweptAt i x && decide (x ≠ g)) := by
  have hdef : State.sweepGranule i g s = if s.sweptAt i g then s.setTag g false else s := rfl
  rw [hdef]
  by_cases hg : s.sweptAt i g = true
  · rw [if_pos hg]
    refine ⟨rfl, rfl, rfl, fun x => ⟨?_, State.sweptAt_setTag ..⟩⟩
    by_cases hx : x = g <;> simp [hx, hg]
  · rw [if_neg hg]
    refine ⟨rfl, rfl, rfl, fun x => ?_⟩
    by_cases hx : x = g <;> simp [hx, hg]

theorem State.sweepGranules_fields (i : Nat) (gs : List Nat) (s : State) :
    let t := foldState (State.sweepGranule i) gs s
    t.mem = s.mem ∧ t.epochs = s.epochs ∧ t.sweepDone = s.sweepDone ∧
      ∀ x, t.tag x = (s.tag x && !(decide (x ∈ gs) && s.sweptAt i x)) := by
  induction gs generalizing s with
  | nil => exact ⟨rfl, rfl, rfl, fun x => by simp [foldState]⟩
  | cons g gs ih =>
    obtain ⟨gm, ge, gd, gt⟩ := s.sweepGranule_fields i g
    obtain ⟨hm, he, hd, ht⟩ := ih (State.sweepGranule i g s)
    refine ⟨hm.trans gm, he.trans ge, hd.trans gd, fun x => (ht x).trans ?_⟩
    obtain ⟨htag, hswept⟩ := gt x
    rw [htag, hswept]
    by_cases hx : x = g <;> cases s.sweptAt i x <;> simp [hx]

theorem mem_keys_of_tabGet (t : List (Nat × Bool)) (g : Nat) (h : tabGet false t g = true) : g ∈ t.map (·.1) := by
  induction t with
  | nil => simp [tabGet] at h
  | cons e t ih =>
    obtain ⟨k, v⟩ := e
    by_cases hk : g = k
    · simp [hk]
    · simp only [tabGet, hk, if_false] at h
      exact List.mem_cons_of_mem _ (ih h)

/-- The granules that the end of a sweep visits. -/
def State.sweepVisits (s : State) (sw : Sweep) : List Nat :=
  (s.tags.map (·.1)).filter fun g => inBanks sw.banks (16 * g) && !(s.badTags sw).1.contains g

/-- What the visits of a sweep's end start from: the caches share the lines of its banks, and a free value has told of the tag copies. -/
def State.sweepShared (s : State) (sw : Sweep) : State :=
  let share (k : Core) : Core := { k with dcache := k.dcache.map fun l => if inBanks sw.banks l.addr then l.share else l }
  let t := (s.badTags sw).2
  { t with core0 := share t.core0, core1 := share t.core1 }

theorem State.sweepEnd_eq (s : State) (sw : Sweep) (h : s.sweep = some sw) :
    let t := foldState (fun g s => s.integrity F.SMPU.INTEG.sram (16 * g)) (s.badTags sw).1
      (foldState (State.sweepGranule sw.index) (s.sweepVisits sw) (s.sweepShared sw))
    ∃ n, s.sweepEnd = ({ t with sweep := none, sweepDone := setDone t.sweepDone sw.index true, sweepLast := (sw.index, n) }).irq (cpuPage sw.core) 0 := by
  rw [State.sweepEnd, h]
  exact ⟨_, rfl⟩

/-- A tag after a sweep's end: kept where its copies disagree, or where the sweep does not clear it. -/
theorem State.tag_sweepVisits (s : State) (sw : Sweep) (g : Nat) :
    (s.tag g && !(decide (g ∈ s.sweepVisits sw) && s.sweptAt sw.index g)) =
      (s.tag g && ((s.badTags sw).1.contains g || !(inBanks sw.banks (16 * g) && s.sweptAt sw.index g))) := by
  by_cases ht : s.tag g = true
  · have hkey : g ∈ s.tags.map (·.1) := mem_keys_of_tabGet _ _ ht
    have hvisit : decide (g ∈ s.sweepVisits sw) = (inBanks sw.banks (16 * g) && !(s.badTags sw).1.contains g) := by
      rw [State.sweepVisits, Bool.eq_iff_iff, decide_eq_true_eq, List.mem_filter, and_iff_right hkey]
    rw [hvisit]
    cases (s.badTags sw).1.contains g <;> simp
  · simp [ht]

theorem State.sweepEnd_effect (s : State) (sw : Sweep) (h : s.sweep = some sw) :
    let t := s.sweepEnd
    t.sweep = none ∧ t.sweepDone = s.sweepDone ||| 2 ^ sw.index ∧ t.mem = s.mem ∧
      ∀ g, t.tag g = (s.tag g && ((s.badTags sw).1.contains g || !(inBanks sw.banks (16 * g) && s.sweptAt sw.index g))) := by
  obtain ⟨n, hn⟩ := s.sweepEnd_eq sw h
  obtain ⟨vm, -, vd, vt⟩ := State.sweepGranules_fields sw.index (s.sweepVisits sw) (s.sweepShared sw)
  have hrep := State.foldState_onlyPages (fun g s => s.integrity F.SMPU.INTEG.sram (16 * g)) (fun g s => s.integrity_onlyPages _ _)
    (s.badTags sw).1 (foldState (State.sweepGranule sw.index) (s.sweepVisits sw) (s.sweepShared sw))
  rw [hn]
  refine ⟨rfl, ?_, hrep.mem.trans vm, fun g => ?_⟩
  · rw [State.irq_sweepDone, hrep.sweepDone, vd]
    rfl
  · rw [← State.tag_sweepVisits]
    exact (hrep.tag g).trans (vt g)

/-! ### LDCAPX (R174, R175) -/

theorem State.memRead_sram_ok (s : State) (c : CoreId) (w w' : World) (a n : Nat) (hw : walkSram w' a = true)
    (hd : s.domainReady (addrDomain a) = true) :
    ∃ t, s.OnlyCaches t ∧ s.memRead (coreIni c) w a n .ok = (t, .ok (s.loadN a n)) := by
  have hregion : regionOf a = .sramF ∨ regionOf a = .sramG := by
    simp only [walkSram, Bool.or_eq_true, Bool.and_eq_true, decide_eq_true_eq] at hw
    exact hw.imp_right And.right
  obtain h | h := hregion <;> simpa [State.memRead, hd, h] using s.sramRead_ok c a n

/-- A walk to a tagged granule of the running world's SRAM, which the MPU passes, finds the capability there. -/
theorem State.walk_ok (s : State) (c : CoreId) (a : Nat) (hw : walkSram (s.core c).world a = true)
    (hm : s.mpuJudge (coreNum c) (s.core c).world .read a = none) (hd : s.domainReady (addrDomain a) = true) (hr : s.risingAt a = false)
    (ht : s.tag (a / 16) = true) :
    ∃ t, s.OnlyCaches t ∧ s.walk c a .ok = (t, .ok ⟨BitVec.ofNat 128 (s.loadN a 16), true⟩) := by
  obtain ⟨t, hcaches, hread⟩ := s.memRead_sram_ok c (s.core c).world _ a 16 hw hd
  have hdev : isDevice a = false := by
    simp only [walkSram, Bool.or_eq_true, Bool.and_eq_true, decide_eq_true_eq] at hw
    obtain h | ⟨-, h⟩ := hw <;> simp [isDevice, h]
  have htag : t.tag (a / 16) = true := by rw [State.tag, hcaches.tags]; exact ht
  exact ⟨t, hcaches, by simp [State.walk, State.worldOf, hdev, hw, hm, hr, hread, htag]⟩

/-- A tagged capability arrives in a core that may hold it: untagged where it is stale (R165, R167). -/
theorem State.arrive_ok (s : State) (c : CoreId) (bits : BitVec 128)
    (hg : (s.core c).world = .glass ∨ CapReg.perm ⟨bits, true⟩ permGLASS = false) :
    ∃ t, s.OnlyPages t ∧ s.arrive c ⟨bits, true⟩ = .ok (⟨bits, !s.stale ⟨bits, true⟩⟩, t) := by
  have hmay : s.arrive c ⟨bits, true⟩ = .ok (s.moveCap c ⟨bits, true⟩) := by
    obtain h | h := hg <;> simp [State.arrive, State.worldOf, h]
  rw [hmay, State.moveCap]
  cases s.stale ⟨bits, true⟩
  · exact ⟨s, .refl s, rfl⟩
  · exact ⟨_, s.inc_onlyPages _, rfl⟩

/-- An LDCAPX whose table entry lies in the running world's SRAM: the checks on the index and the walk pass, the tagged capability found there
arrives, and nothing else of memory and registers changes. -/
theorem exec_ldcapx_effect {s₀ : State} {c : CoreId} (hrun : s₀.runs c) (cd ws : Fin 32) (hc : isCap cd = true) :
    let s := s₀.fetched c
    let k := s.core c
    let i := (k.rd ws).toNat
    let a := (k.bank.ctabBase.toNat + 16 * i) % 2 ^ 32
    let m : CapReg := ⟨BitVec.ofNat 128 (s.loadN a 16), s.tag (a / 16)⟩
    i < 65536 → i < k.bank.ctabCount.toNat →
    walkSram k.world a = true → s.mpuJudge (coreNum c) k.world .read a = none → s.domainReady (addrDomain a) = true → s.risingAt a = false →
    m.tag = true → (k.world = .glass ∨ m.perm permGLASS = false) →
    ∃ t, exec (.ldcapx c cd ws .ok) s₀ = .next t ∧ (t.core c).crd (capOf cd) = ⟨m.bits, !s.stale m⟩ ∧ (t.core c).pc = k.pc + 4 ∧
      (t.core c).w = k.w ∧ t.mem = s.mem ∧ t.tags = s.tags := by
  intro s k i a m h16 hcount hw hj hd hr htag hg
  obtain ⟨u, hu, hwalk⟩ := s.walk_ok c a hw hj hd hr htag
  have hm : m = ⟨m.bits, true⟩ := by rw [← htag]
  obtain ⟨hworld, hpc, hregs⟩ := hu.core_fields c
  have hstale : u.stale ⟨m.bits, true⟩ = s.stale m := by rw [State.stale_congr hu.epochs, ← hm]
  obtain ⟨x, hx, harrive⟩ := u.arrive_ok c m.bits (by rwa [hworld, ← hm])
  rw [hstale] at harrive
  have hexec : exec (.ldcapx c cd ws .ok) s₀ = .next ((x.finishCap c (capOf cd) ⟨m.bits, !s.stale m⟩).settle) := by
    rw [exec_ldcapx, execLdcapx, State.execMem_runs s₀ c _ _ hrun, State.withCaps_one _ _ _ _ _ hc]
    dsimp only
    have hindex : ¬ (65536 ≤ i ∨ k.bank.ctabCount.toNat ≤ i) := by omega
    rw [if_neg hindex, hwalk]
    dsimp only
    rw [harrive]
  obtain ⟨fv, fpc, fw, fm, ft⟩ := x.finishCap_fields c (capOf cd) ⟨m.bits, !s.stale m⟩
  have hs := (x.finishCap c (capOf cd) ⟨m.bits, !s.stale m⟩).settle_onlyPages
  refine ⟨_, hexec, ?_, ?_, ?_, ?_, ?_⟩
  · rw [hs.core, fv]
  · rw [hs.core, fpc, hx.core, hpc]
  · rw [hs.core, fw, hx.core, hregs]
  · rw [hs.mem, fm, hx.mem, hu.mem]
  · rw [hs.tags, ft, hx.tags, hu.tags]

/-- Settles O16: EBUMP, ESWEEP, the end of a sweep and LDCAPX, each by what it leaves. -/
theorem epochsAndSweeps : Obligations.EpochsAndSweeps := by
  unfold Obligations.EpochsAndSweeps
  intro s₀ c wd ws
  refine ⟨fun hb hf hs => ?ebump, fun hr => ?esweep, fun sw hsw => ?sweepDone, fun hr cd hc => exec_ldcapx_effect hr cd ws hc⟩
  case ebump =>
    refine ⟨_, exec_ebump_runs s₀ c wd ws hb hf hs, ?_⟩
    rw [State.bumpResult_eq]
    exact State.ebump_effect _ c wd _ _
  case esweep =>
    refine ⟨_, exec_esweep_runs hr wd ws, ?_⟩
    rw [State.sweepResult_eq]
    exact State.esweep_effect _ c wd _ _
  case sweepDone =>
    obtain ⟨hs, hd, hm, ht⟩ := s₀.sweepEnd_effect sw hsw
    have hset := s₀.sweepEnd.settle_onlyPages
    exact ⟨_, exec_sweepDone s₀, hset.sweep.trans hs, hset.sweepDone.trans hd, hset.mem.trans hm, fun g => (hset.tag g).trans (ht g)⟩

end Sys2Proof.Machine
end

section
/-!
PROOFS. The integer instructions (R186 to R188): the results of the ALU in terms of integers, and what an instruction with such a result leaves.
-/
namespace Sys2Proof.Machine
open Sys2Proof

/-! ### The results in terms of integers -/

theorem aluAdd_eq_ofNat (x y : Word) : aluAdd x y = BitVec.ofNat 32 (x.toNat + y.toNat) := by
  simp [aluAdd, BitVec.ofNat_add]

theorem aluAdd_eq_ofInt (x y : Word) : aluAdd x y = BitVec.ofInt 32 (x.toInt + y.toInt) := by
  simp [aluAdd, BitVec.ofInt_add]

theorem aluSub_eq_ofInt (x y : Word) : aluSub x y = BitVec.ofInt 32 ((x.toNat : Int) - y.toNat) := by
  apply BitVec.eq_of_toNat_eq
  rw [aluSub, BitVec.toNat_sub, BitVec.toNat_ofInt]
  have hx := x.isLt
  have hy := y.isLt
  omega

theorem aluSll_eq_ofNat (x y : Word) : aluSll x y = BitVec.ofNat 32 (x.toNat * 2 ^ (y.toNat % 32)) := by
  apply BitVec.eq_of_toNat_eq
  simp [aluSll, Nat.shiftLeft_eq]

theorem aluSrl_eq_ofNat (x y : Word) : aluSrl x y = BitVec.ofNat 32 (x.toNat / 2 ^ (y.toNat % 32)) := by
  apply BitVec.eq_of_toNat_eq
  have hlt := Nat.lt_of_le_of_lt (Nat.div_le_self x.toNat (2 ^ (y.toNat % 32))) x.isLt
  rw [aluSrl, BitVec.toNat_ushiftRight, Nat.shiftRight_eq_div_pow, BitVec.toNat_ofNat, Nat.mod_eq_of_lt hlt]

theorem aluSra_eq_ofInt (x y : Word) : aluSra x y = BitVec.ofInt 32 (x.toInt >>> (y.toNat % 32)) := rfl

theorem aluSlt_eq_ite (x y : Word) : aluSlt x y = if x.toInt < y.toInt then 1 else 0 := by
  simp only [aluSlt, BitVec.slt_iff_toInt_lt]

theorem aluSltu_eq_ite (x y : Word) : aluSltu x y = if x.toNat < y.toNat then 1 else 0 := by
  simp only [aluSltu, BitVec.ult_iff_lt, BitVec.lt_def]

theorem aluMul_eq_ofNat (x y : Word) : aluMul x y = BitVec.ofNat 32 (x.toNat * y.toNat) := by
  simp [aluMul, BitVec.ofNat_mul]

/-- The shift by 32, whichever way the literal is read (as a natural number, or with Mathlib's instance as an integer), is the quotient. -/
theorem shiftRight_32_eq_div (p : Int) : p >>> 32 = p / 4294967296 := by
  have hshift : p >>> 32 = Int.shiftRight p 32 := by cases p <;> rfl
  exact hshift.trans (Int.shiftRight_eq_div_pow p 32)

/-- The high half of a product is taken from the integer product of what the two operands stand for. -/
theorem aluHigh_ofInt (a b : Int) : aluHigh (BitVec.ofInt 64 a) (BitVec.ofInt 64 b) = BitVec.ofInt 32 ((a * b) >>> 32) := by
  apply BitVec.eq_of_toNat_eq
  rw [aluHigh, ← BitVec.ofInt_mul]
  generalize a * b = p
  simp only [BitVec.toNat_setWidth, BitVec.toNat_ushiftRight, BitVec.toNat_ofInt, Nat.shiftRight_eq_div_pow, shiftRight_32_eq_div]
  omega

theorem aluMulh_eq_ofInt (x y : Word) : aluMulh x y = BitVec.ofInt 32 ((x.toInt * y.toInt) >>> 32) := aluHigh_ofInt ..

theorem setWidth_eq_ofInt (x : Word) : x.setWidth 64 = BitVec.ofInt 64 x.toNat := by
  rw [BitVec.ofInt_natCast, BitVec.ofNat_toNat]

theorem aluMulhu_eq_ofNat (x y : Word) : aluMulhu x y = BitVec.ofNat 32 (x.toNat * y.toNat / 2 ^ 32) := by
  rw [aluMulhu, setWidth_eq_ofInt, setWidth_eq_ofInt, aluHigh_ofInt, ← BitVec.ofInt_natCast, shiftRight_32_eq_div]
  rfl

theorem aluMulhsu_eq_ofInt (x y : Word) : aluMulhsu x y = BitVec.ofInt 32 ((x.toInt * y.toNat) >>> 32) := by
  rw [aluMulhsu, setWidth_eq_ofInt]
  exact aluHigh_ofInt ..

/-- Division of two's-complement words is that of integers, rounded toward 0; the one quotient that overflows wraps. -/
theorem sdiv_eq_ofInt (x y : Word) : x.sdiv y = BitVec.ofInt 32 (x.toInt.tdiv y.toInt) := by
  rw [← BitVec.ofInt_toInt (x := x.sdiv y), BitVec.toInt_sdiv]
  exact BitVec.eq_of_toInt_eq (by simp [BitVec.toInt_ofInt])

theorem srem_eq_ofInt (x y : Word) : x.srem y = BitVec.ofInt 32 (x.toInt.tmod y.toInt) := by
  rw [← BitVec.toInt_srem, BitVec.ofInt_toInt]

theorem aluDiv_eq_ite (x y : Word) : aluDiv x y = if y = 0 then 0 else BitVec.ofInt 32 (x.toInt.tdiv y.toInt) := by
  unfold aluDiv
  refine ite_congr rfl (fun _ => rfl) fun _ => ?_
  split
  next h =>
    obtain ⟨rfl, rfl⟩ := h
    rfl
  next => exact sdiv_eq_ofInt x y

theorem aluRem_eq_ite (x y : Word) : aluRem x y = if y = 0 then x else BitVec.ofInt 32 (x.toInt.tmod y.toInt) := by
  unfold aluRem
  refine ite_congr rfl (fun _ => rfl) fun _ => ?_
  split
  next h =>
    obtain ⟨rfl, rfl⟩ := h
    rfl
  next => exact srem_eq_ofInt x y

theorem aluDivu_eq_ofNat (x y : Word) : aluDivu x y = BitVec.ofNat 32 (x.toNat / y.toNat) := by
  unfold aluDivu
  split
  next h => simp [h]
  next =>
    apply BitVec.eq_of_toNat_eq
    rw [BitVec.toNat_udiv, BitVec.toNat_ofNat, Nat.mod_eq_of_lt (Nat.lt_of_le_of_lt (Nat.div_le_self ..) x.isLt)]

theorem aluRemu_eq_ofNat (x y : Word) : aluRemu x y = BitVec.ofNat 32 (x.toNat % y.toNat) := by
  unfold aluRemu
  split
  next h => simp [h]
  next =>
    apply BitVec.eq_of_toNat_eq
    rw [BitVec.toNat_umod, BitVec.toNat_ofNat, Nat.mod_eq_of_lt (Nat.lt_of_le_of_lt (Nat.mod_le ..) x.isLt)]

/-! ### Immediates -/

/-- The five bits of a SHIFTI form are the shift. -/
theorem toNat_shamt_mod (sh : BitVec 5) : (sh.setWidth 32).toNat % 32 = sh.toNat := by
  have h := sh.isLt
  rw [BitVec.toNat_setWidth]
  omega

theorem movhi_eq_ofNat (imm : BitVec 16) : imm.setWidth 32 <<< 16 = BitVec.ofNat 32 (2 ^ 16 * imm.toNat) := by
  apply BitVec.eq_of_toNat_eq
  have h := imm.isLt
  simp only [BitVec.toNat_shiftLeft, BitVec.toNat_setWidth, BitVec.toNat_ofNat, Nat.shiftLeft_eq]
  omega

/-! ### What the instructions leave -/

/-- Command `i` of core `c` writes `v` to general register `rd` and goes on at pc + 4: nothing else changes. -/
def State.writesReg (s : State) (c : CoreId) (rd : Fin 32) (v : Word) (i : Instr) : Prop :=
  let t := s.fetched c
  exec i s = .next (t.setCore c { (t.core c).wr rd v with pc := (t.core c).pc + 4 })

section
variable {s : State} {c : CoreId} (hr : s.runs c) {rd rs1 rs2 : Fin 32} {f : Word → Word → Word} {v : Word} {i : Instr}
include hr

/-- An instruction whose whole effect is to write rd and go on. -/
theorem exec_finish {g : State → Word} (hi : exec i s = .next (s.execOn c fun t => t.finish c rd (g t))) (hg : g (s.fetched c) = v) :
    s.writesReg c rd v i := by
  rw [State.writesReg, hi, State.execOn_runs s c _ hr, hg, State.finish_eq]

theorem exec_aluR (hi : exec i s = .next (s.aluR c rd rs1 rs2 f))
    (hf : f (((s.fetched c).core c).rd rs1) (((s.fetched c).core c).rd rs2) = v) : s.writesReg c rd v i :=
  exec_finish hr (g := fun t => f ((t.core c).rd rs1) ((t.core c).rd rs2)) hi hf

theorem exec_aluI {imm : Word} (hi : exec i s = .next (s.aluI c rd rs1 imm f))
    (hf : f (((s.fetched c).core c).rd rs1) imm = v) : s.writesReg c rd v i :=
  exec_finish hr (g := fun t => f ((t.core c).rd rs1) imm) hi hf

/-- A SHIFTI form whose upper immediate bits are 0. -/
theorem exec_shiftI {k : Nat} {sh : BitVec 5} (hi : exec i s = .next (s.shiftI c rd rs1 0 k sh f))
    (hf : f (((s.fetched c).core c).rd rs1) (sh.setWidth 32) = v) : s.writesReg c rd v i := by
  rw [State.writesReg, hi, State.shiftI, State.execOn_runs s c _ hr, if_neg (by decide), ← State.finish_eq, ← hf]
  rfl

/-- A SHIFTI form whose upper immediate bits are not 0 is an illegal opcode (R183, R186). -/
theorem exec_shiftI_illegal {k n : Nat} {up : BitVec 9} {sh : BitVec 5} (hi : exec i s = .next (s.shiftI c rd rs1 up k sh f)) (hup : up ≠ 0)
    (hn : up.toNat * 128 + k * 32 + sh.toNat = n) :
    exec i s = .next ((s.fetched c).illegal c (wordI 0x08 rd rs1 (BitVec.ofNat 16 n))) := by
  rw [hi, State.shiftI, State.execOn_runs s c _ hr, if_pos hup, hn]

end

/-- Settles O8: each instruction writes rd with what its ALU function gives, and that is the integer of the table. -/
theorem integerResults : Obligations.IntegerResults := by
  unfold Obligations.IntegerResults
  refine ⟨fun s₀ c rd rs1 rs2 hr => ?registers, fun s₀ c rd rs1 rs2 rs3 imm hi sh hr => ?immediates⟩
  case registers =>
    exact ⟨exec_aluR hr rfl (aluAdd_eq_ofNat ..), exec_aluR hr rfl (aluSub_eq_ofInt ..), exec_aluR hr rfl rfl, exec_aluR hr rfl rfl,
      exec_aluR hr rfl rfl, exec_aluR hr rfl (aluSll_eq_ofNat ..), exec_aluR hr rfl (aluSrl_eq_ofNat ..),
      exec_aluR hr rfl (aluSra_eq_ofInt ..), exec_aluR hr rfl (aluSlt_eq_ite ..), exec_aluR hr rfl (aluSltu_eq_ite ..),
      exec_aluR hr rfl (aluMul_eq_ofNat ..), exec_aluR hr rfl (aluMulh_eq_ofInt ..), exec_aluR hr rfl (aluMulhu_eq_ofNat ..),
      exec_aluR hr rfl (aluMulhsu_eq_ofInt ..), exec_aluR hr rfl (aluDiv_eq_ite ..), exec_aluR hr rfl (aluDivu_eq_ofNat ..),
      exec_aluR hr rfl (aluRem_eq_ite ..), exec_aluR hr rfl (aluRemu_eq_ofNat ..)⟩
  case immediates =>
    have himm : imm.setWidth 32 = BitVec.ofNat 32 imm.toNat := (BitVec.ofNat_toNat 32 imm).symm
    have hext : (imm.signExtend 32).toInt = imm.toInt := BitVec.toInt_signExtend_of_le (by decide)
    have hsh := toNat_shamt_mod sh
    refine ⟨exec_aluI hr rfl ?_, exec_aluI hr rfl (congrArg _ himm), exec_aluI hr rfl (congrArg _ himm), exec_aluI hr rfl (congrArg _ himm),
      exec_aluI hr rfl ?_, exec_aluI hr rfl (aluSltu_eq_ite ..), exec_shiftI hr rfl ?_, exec_shiftI hr rfl ?_, exec_shiftI hr rfl ?_,
      fun hup => ⟨exec_shiftI_illegal hr rfl hup (by omega), exec_shiftI_illegal hr rfl hup (by omega),
        exec_shiftI_illegal hr rfl hup (by omega)⟩,
      exec_finish hr rfl (movhi_eq_ofNat imm), exec_finish hr rfl rfl⟩
    · rw [aluAdd_eq_ofInt, hext]
    · rw [aluSlt_eq_ite, hext]
    · rw [aluSll_eq_ofNat, hsh]
    · rw [aluSrl_eq_ofNat, hsh]
    · rw [aluSra_eq_ofInt, hsh]

end Sys2Proof.Machine
end

section
/-!
PROOFS. Control transfer (R196 to R199): where branches and jumps go, and the faults of a target and of a new PCC.
-/
namespace Sys2Proof.Machine
open Sys2Proof

theorem exec_cjalr (c : CoreId) (rd rs1 : Fin 32) (cs cd : Fin 8) (lc : Bool) (imm : BitVec 9) (s : State) :
    exec (.cjalr c rd rs1 cs cd lc imm) s = execCjalr c rd rs1 cs cd lc imm s := rfl

/-! ### The check of a target (R198) and of a new PCC (R199) -/

theorem targetFault_of_bounds (pcc : CapReg) (t : Word) (h : pcc.length < t.toNat + 4) :
    targetFault pcc t = some (fltBounds bndFETCH t.toNat (capAddr pcc t.toNat)) := by
  rw [targetFault, if_pos h]

theorem targetFault_of_misaligned (pcc : CapReg) (t : Word) (h : t.toNat + 4 ≤ pcc.length) (ha : t.toNat % 4 ≠ 0) :
    targetFault pcc t = some (fltMisaligned t.toNat (capAddr pcc t.toNat)) := by
  rw [targetFault, if_neg (Nat.not_lt.2 h), if_pos ha]

theorem targetFault_of_ok (pcc : CapReg) (t : Word) (h : t.toNat + 4 ≤ pcc.length) (ha : t.toNat % 4 = 0) : targetFault pcc t = none := by
  rw [targetFault, if_neg (Nat.not_lt.2 h), if_neg (fun hne => hne ha)]

/-- A CJALR that keeps the old PCC, or names no register for it, has a legal form. -/
theorem cjalr_form_legal {lc : Bool} {cd : Fin 8} (h : lc = true ∨ cd = 0) : (!lc && decide (cd ≠ 0)) = false := by
  obtain h | h := h <;> simp [h]

/-- A command that raises the fault of its target, and otherwise goes there. -/
theorem State.goesTo_of_targetFault {s : State} {c : CoreId} {i : Instr} {pcc : CapReg} {t : Word} {k : Core}
    (hfault : ∀ f, targetFault pcc t = some f → exec i s = .next ((s.fetched c).raise c f))
    (hgo : targetFault pcc t = none → exec i s = .next ((s.fetched c).setCore c { k with pc := t })) : s.goesTo c i pcc t k :=
  ⟨fun h ha => hgo (targetFault_of_ok pcc t h ha), fun h => hfault _ (targetFault_of_bounds pcc t h),
    fun h ha => hfault _ (targetFault_of_misaligned pcc t h ha)⟩

theorem State.newPccFault_of_useCause (s : State) (c : CoreId) (v : CapReg) (t : Word) (word e : Nat)
    (h : s.useCause (s.core c).world v = some e) : s.newPccFault c v t word = some (fltCap e word 0) := by
  rw [State.newPccFault, State.worldOf, h]

theorem State.newPccFault_of_noExec (s : State) (c : CoreId) (v : CapReg) (t : Word) (word : Nat)
    (h : s.useCause (s.core c).world v = none) (hx : v.perm permEXEC = false) : s.newPccFault c v t word = some (fltCap 5 word 0) := by
  simp only [State.newPccFault, State.worldOf, h, hx]
  rfl

theorem State.newPccFault_of_usable (s : State) (c : CoreId) (v : CapReg) (t : Word) (word : Nat)
    (h : s.useCause (s.core c).world v = none) (hx : v.perm permEXEC = true) : s.newPccFault c v t word = targetFault v t := by
  simp only [State.newPccFault, State.worldOf, h, hx]
  rfl

/-! ### The conditions of the branches (R196) -/

theorem condEq_iff (x y : Word) : condEq x y = true ↔ x = y := beq_iff_eq
theorem condNe_iff (x y : Word) : condNe x y = true ↔ x ≠ y := bne_iff_ne
theorem condLt_iff (x y : Word) : condLt x y = true ↔ x.toInt < y.toInt := BitVec.slt_iff_toInt_lt
theorem condLtu_iff (x y : Word) : condLtu x y = true ↔ x.toNat < y.toNat := BitVec.ult_iff_lt
theorem condGe_iff (x y : Word) : condGe x y = true ↔ y.toInt ≤ x.toInt := by
  rw [condGe, Bool.not_eq_true', ← Bool.not_eq_true, BitVec.slt_iff_toInt_lt, Int.not_lt]
theorem condGeu_iff (x y : Word) : condGeu x y = true ↔ y.toNat ≤ x.toNat := by
  rw [condGeu, Bool.not_eq_true', ← Bool.not_eq_true, BitVec.ult_iff_lt, BitVec.not_lt, BitVec.le_def]

/-! ### Branches and jumps of a core that runs -/

section
variable {s : State} {c : CoreId} (hr : s.runs c) {i : Instr}
include hr

/-- A branch whose condition is `taken`: a taken branch goes to its target and trains the predictor up, another goes on and trains it down. -/
theorem exec_branch {rs1 rs2 : Fin 32} {imm : BitVec 16} {cond : Word → Word → Bool} {taken : Prop}
    (hi : exec i s = .next (s.branch c rs1 rs2 imm cond))
    (hc : cond (((s.fetched c).core c).rd rs1) (((s.fetched c).core c).rd rs2) = true ↔ taken) :
    let t := s.fetched c
    let k := t.core c
    (taken → s.goesTo c i k.bank.pcc (k.pc + 4 * imm.signExtend 32) (k.train true)) ∧
      (¬ taken → exec i s = .next (t.setCore c { k.train false with pc := k.pc + 4 })) := by
  rw [State.branch, State.execOn_runs s c _ hr] at hi
  refine ⟨fun ht => ?taken, fun ht => ?goesOn⟩
  case taken =>
    simp only [hc.2 ht, if_true] at hi
    exact State.goesTo_of_targetFault (fun f hf => by simp only [hi, hf]) fun hf => by simp only [hi, hf]
  case goesOn =>
    rw [← hc] at ht
    simp only [ht] at hi
    exact hi

/-- A jump within PCC links pc + 4 in rd and goes to its target. -/
theorem exec_jump {rd : Fin 32} {t : State → Word} (hi : exec i s = .next (s.execOn c fun s => s.jump c rd (t s))) :
    let k := (s.fetched c).core c
    s.goesTo c i k.bank.pcc (t (s.fetched c)) (k.wr rd (k.pc + 4)) := by
  rw [State.execOn_runs s c _ hr] at hi
  exact State.goesTo_of_targetFault (fun f hf => by simp only [hi, State.jump, hf]) fun hf => by simp only [hi, State.jump, hf]

section
variable {rd rs1 : Fin 32} {cs cd : Fin 8} {lc : Bool} {imm : BitVec 9} {v : CapReg} {t : Word} (hlc : lc = true ∨ cd = 0)
  (hv : ((s.fetched c).core c).crd cs = v) (ht : ((s.fetched c).core c).rd rs1 + 4 * imm.signExtend 32 = t)
include hlc hv ht

theorem exec_cjalr_of_fault {f : Flt} (hf : (s.fetched c).newPccFault c v t (wordCJ 0x2A rd rs1 cs cd lc imm) = some f) :
    exec (.cjalr c rd rs1 cs cd lc imm) s = .next ((s.fetched c).raise c f) := by
  rw [exec_cjalr, execCjalr, State.execOn_runs s c _ hr]
  simp only [cjalr_form_legal hlc, hv, ht, hf, Bool.false_eq_true, if_false]

theorem exec_cjalr_of_passes (hf : (s.fetched c).newPccFault c v t (wordCJ 0x2A rd rs1 cs cd lc imm) = none) :
    let k := (s.fetched c).core c
    let linked := k.wr rd (k.pc + 4)
    let kept := if lc then linked.cwr cd k.bank.pcc else linked
    exec (.cjalr c rd rs1 cs cd lc imm) s = .next ((s.fetched c).setCore c { kept.setBank { kept.bank with pcc := v } with pc := t }) := by
  rw [exec_cjalr, execCjalr, State.execOn_runs s c _ hr]
  simp only [cjalr_form_legal hlc, hv, ht, hf, Bool.false_eq_true, if_false]

/-- CJALR's checks of cs (R157 steps 1 to 5, EXEC needed) raise their own faults; past them it sets PCC to cs and goes to its target. -/
theorem exec_cjalr_goes :
    let u := s.fetched c
    let k := u.core c
    let word := wordCJ 0x2A rd rs1 cs cd lc imm
    let linked := k.wr rd (k.pc + 4)
    let kept := if lc then linked.cwr cd k.bank.pcc else linked
    (∀ e, u.useCause k.world v = some e → exec (.cjalr c rd rs1 cs cd lc imm) s = .next (u.raise c (fltCap e word 0))) ∧
      (u.useCause k.world v = none → v.perm permEXEC = false →
        exec (.cjalr c rd rs1 cs cd lc imm) s = .next (u.raise c (fltCap 5 word 0))) ∧
      (u.useCause k.world v = none → v.perm permEXEC = true →
        s.goesTo c (.cjalr c rd rs1 cs cd lc imm) v t (kept.setBank { kept.bank with pcc := v })) := by
  refine ⟨fun e he => ?use, fun he hx => ?noExec, fun he hx => ?go⟩
  case use => exact exec_cjalr_of_fault hr hlc hv ht (State.newPccFault_of_useCause _ _ _ _ _ _ he)
  case noExec => exact exec_cjalr_of_fault hr hlc hv ht (State.newPccFault_of_noExec _ _ _ _ _ he hx)
  case go =>
    have htarget := State.newPccFault_of_usable _ _ _ t (wordCJ 0x2A rd rs1 cs cd lc imm) he hx
    exact State.goesTo_of_targetFault (fun f hf => exec_cjalr_of_fault hr hlc hv ht (htarget.trans hf))
      fun hf => exec_cjalr_of_passes hr hlc hv ht (htarget.trans hf)

end

/-- A CJALR that links a PCC which it does not keep is an illegal opcode. -/
theorem exec_cjalr_illegal {rd rs1 : Fin 32} {cs cd : Fin 8} {imm : BitVec 9} (hcd : cd ≠ 0) :
    exec (.cjalr c rd rs1 cs cd false imm) s = .next ((s.fetched c).illegal c (wordCJ 0x2A rd rs1 cs cd false imm)) := by
  rw [exec_cjalr, execCjalr, State.execOn_runs s c _ hr]
  simp [hcd]

end

/-- Settles O13: branches, jumps within PCC and CJALR, each by the check of its target. -/
theorem branchesAndJumps : Obligations.BranchesAndJumps := by
  unfold Obligations.BranchesAndJumps
  intro s₀ c rd rs1 rs2 cs cd lc imm imm21 imm9 hr
  refine ⟨exec_branch hr rfl (condEq_iff ..), exec_branch hr rfl (condNe_iff ..), exec_branch hr rfl (condLt_iff ..),
    exec_branch hr rfl (condGe_iff ..), exec_branch hr rfl (condLtu_iff ..), exec_branch hr rfl (condGeu_iff ..),
    exec_jump hr (t := fun s => (s.core c).pc + 4 * imm21.signExtend 32) rfl,
    exec_jump hr (t := fun s => (s.core c).rd rs1 + imm.signExtend 32) rfl,
    fun hlc => exec_cjalr_goes hr hlc rfl rfl, fun hlc hcd => ?_⟩
  subst hlc
  exact exec_cjalr_illegal hr hcd

end Sys2Proof.Machine
end

section
/-!
PROOFS. The check instructions (R203), and that CBOUND and CANDP narrow (R162).
-/
namespace Sys2Proof.Machine
open Sys2Proof

theorem exec_chkr (c : CoreId) (idx lo hi : Fin 32) (s : State) :
    exec (.chkr c idx lo hi) s = .next (s.execOn c fun s => s.chkr c ((s.core c).rd idx) ((s.core c).rd lo) ((s.core c).rd hi)) := rfl
theorem exec_chkri (c : CoreId) (idx : Fin 32) (limit : BitVec 16) (s : State) :
    exec (.chkri c idx limit) s = .next (s.execOn c fun s => s.chkr c ((s.core c).rd idx) 0 (limit.setWidth 32)) := rfl

/-- A CHK whose capability field names a register (R182). -/
theorem exec_chk_legal (c : CoreId) {cs : Fin 32} (hc : isCap cs = true) (off size : Fin 32) (s : State) :
    exec (.chk c cs off size) s =
      .next (s.execOn c fun s => s.chk c (capOf cs) ((s.core c).rd off) ((s.core c).rd size) (wordR 0x31 cs off size 0)) := by
  have hdef : exec (.chk c cs off size) s = execChk c cs off size s := rfl
  simp only [hdef, execChk, hc, if_true]

/-- A CHKI whose capability field names a register (R182). -/
theorem exec_chki_legal (c : CoreId) {cs : Fin 32} (hc : isCap cs = true) (off : Fin 32) (size : BitVec 16) (s : State) :
    exec (.chki c cs off size) s =
      .next (s.execOn c fun s => s.chk c (capOf cs) ((s.core c).rd off) (size.setWidth 32) (wordI 0x32 cs off size)) := by
  have hdef : exec (.chki c cs off size) s = execChki c cs off size s := rfl
  simp only [hdef, execChki, hc, if_true]

/-! ### The check instructions -/

/-- Command `i` of core `c` changes nothing but pc where `p` holds, and raises the fault `f` where it does not. -/
def State.checksThat (s : State) (c : CoreId) (p : Prop) [Decidable p] (f : Flt) (i : Instr) : Prop :=
  let t := s.fetched c
  exec i s = if p then .next (t.setCore c { t.core c with pc := (t.core c).pc + 4 }) else .next (t.raise c f)

theorem State.chk_of_useCause (s : State) (c : CoreId) (cs : Fin 8) (off size : Word) (word e : Nat)
    (h : s.useCause (s.core c).world ((s.core c).crd cs) = some e) : s.chk c cs off size word = s.raise c (fltCap e word 0) := by
  rw [State.chk, State.worldOf, h]
  rfl

theorem State.chk_of_usable (s : State) (c : CoreId) (cs : Fin 8) (off size : Word) (word : Nat)
    (h : s.useCause (s.core c).world ((s.core c).crd cs) = none) :
    s.chk c cs off size word = if off.toNat + size.toNat ≤ ((s.core c).crd cs).length then s.modCore c Core.next
      else s.raise c (fltBounds bndCHK off.toNat (capAddr ((s.core c).crd cs) off.toNat)) := by
  simp only [State.chk, State.worldOf, h, ← Nat.not_lt, ite_not]

section
variable {s : State} {c : CoreId} (hr : s.runs c) {i : Instr}
include hr

/-- CHK and CHKI: cs by steps 1 to 4 of R157, then the bounds of `n` bytes at its offset. -/
theorem exec_chk_checks {cs : Fin 8} {r1 : Fin 32} {size : State → Word} {n word : Nat}
    (hi : exec i s = .next (s.execOn c fun s => s.chk c cs ((s.core c).rd r1) (size s) word)) (hn : (size (s.fetched c)).toNat = n) :
    let t := s.fetched c
    let k := t.core c
    let v := k.crd cs
    let o := (k.rd r1).toNat
    (∀ e, t.useCause k.world v = some e → exec i s = .next (t.raise c (fltCap e word 0))) ∧
      (t.useCause k.world v = none → s.checksThat c (o + n ≤ v.length) (fltBounds bndCHK o (capAddr v o)) i) := by
  rw [State.execOn_runs s c _ hr] at hi
  refine ⟨fun e he => ?unusable, fun he => ?bounds⟩
  case unusable => rw [hi, State.chk_of_useCause _ _ _ _ _ _ _ he]
  case bounds =>
    rw [State.checksThat, hi, State.chk_of_usable _ _ _ _ _ _ he, hn, apply_ite Host.Outcome.next]
    rfl

/-- CHKR and CHKRI: the index is at least `lo` and below `hi`. -/
theorem exec_chkr_checks {r1 : Fin 32} {lo hi : State → Word} {p : Prop} [Decidable p]
    (he : exec i s = .next (s.execOn c fun s => s.chkr c ((s.core c).rd r1) (lo s) (hi s)))
    (hp : (lo (s.fetched c)).toNat ≤ (((s.fetched c).core c).rd r1).toNat ∧
      (((s.fetched c).core c).rd r1).toNat < (hi (s.fetched c)).toNat ↔ p) :
    s.checksThat c p (fltBounds bndCHKR (((s.fetched c).core c).rd r1).toNat 0) i := by
  rw [State.execOn_runs s c _ hr] at he
  rw [State.checksThat, he, State.chkr, apply_ite Host.Outcome.next]
  exact ite_congr (propext hp) (fun _ => rfl) fun _ => rfl

end

theorem toNat_setWidth_imm16 (n : BitVec 16) : (n.setWidth 32).toNat = n.toNat := by
  have h := n.isLt
  rw [BitVec.toNat_setWidth]
  omega

/-! ### The fields of a capability that is built (R154) -/

section
variable (base length perms otype epoch eidx : Nat) (tag : Bool)

theorem base_capBits : CapReg.base ⟨capBits base length perms otype epoch eidx, tag⟩ = base % 2 ^ 32 := by
  simp only [CapReg.base, capBits, bitsOf, BitVec.toNat_ofNat, Nat.shiftRight_eq_div_pow]
  omega

theorem length_capBits : CapReg.length ⟨capBits base length perms otype epoch eidx, tag⟩ = length % 2 ^ 32 := by
  simp only [CapReg.length, capBits, bitsOf, BitVec.toNat_ofNat, Nat.shiftRight_eq_div_pow]
  omega

theorem perms_capBits : CapReg.perms ⟨capBits base length perms otype epoch eidx, tag⟩ = perms % 2 ^ 11 := by
  simp only [CapReg.perms, capBits, bitsOf, BitVec.toNat_ofNat, Nat.shiftRight_eq_div_pow]
  omega

end

theorem CapReg.base_lt (v : CapReg) : v.base < 2 ^ 32 := Nat.mod_lt _ (by decide)
theorem CapReg.length_lt (v : CapReg) : v.length < 2 ^ 32 := Nat.mod_lt _ (by decide)
theorem CapReg.perms_lt (v : CapReg) : v.perms < 2 ^ 11 := Nat.mod_lt _ (by decide)

/-! ### CBOUND and CANDP -/

/-- What CBOUND makes of `v`: off + len within its length, and the base moved by off, modulo 2^32; its permissions are those of `v`. -/
theorem boundCap_ok {v u : CapReg} {off len : Word} (h : boundCap v off len = .ok u) :
    off.toNat + len.toNat ≤ v.length ∧ u.base = (v.base + off.toNat) % 2 ^ 32 ∧ u.length = len.toNat ∧ u.perms = v.perms := by
  unfold boundCap at h
  split at h
  · cases h
  next hle =>
    cases h
    rw [base_capBits, length_capBits, perms_capBits]
    exact ⟨Nat.not_lt.1 hle, rfl, Nat.mod_eq_of_lt len.isLt, Nat.mod_eq_of_lt v.perms_lt⟩

/-- The bounds that CBOUND makes lie inside those of a capability that does not pass the end of memory; a base that wraps to 0 has length 0. -/
theorem boundCap_inside {v u : CapReg} {off len : Word} (h : boundCap v off len = .ok u) (hv : v.base + v.length ≤ 2 ^ 32) :
    u.length = 0 ∨ v.base ≤ u.base ∧ u.base + u.length ≤ v.base + v.length := by
  obtain ⟨hle, hbase, hlen, -⟩ := boundCap_ok h
  omega

/-- CANDP keeps the bounds, and of the permissions those of the mask. -/
theorem andpCap_fields (v : CapReg) (mask : Word) :
    (andpCap v mask).base = v.base ∧ (andpCap v mask).length = v.length ∧ (andpCap v mask).perms = v.perms &&& (mask.toNat % 2 ^ 11) := by
  rw [andpCap, base_capBits, length_capBits, perms_capBits]
  exact ⟨Nat.mod_eq_of_lt v.base_lt, Nat.mod_eq_of_lt v.length_lt, Nat.mod_eq_of_lt (Nat.lt_of_le_of_lt Nat.and_le_left v.perms_lt)⟩

theorem andpCap_perm (v : CapReg) (mask : Word) (p : Nat) (h : (andpCap v mask).perm p = true) : v.perm p = true := by
  obtain ⟨-, -, hperms⟩ := andpCap_fields v mask
  rw [CapReg.perm, hperms, Nat.testBit_and, Bool.and_eq_true] at h
  exact h.1

/-- Settles O14: the checks by what `State.chk` and `State.chkr` leave, the derivations by the fields of what they build. -/
theorem checksAndNarrowing : Obligations.ChecksAndNarrowing := by
  unfold Obligations.ChecksAndNarrowing
  refine ⟨fun s₀ c cs r1 r2 r3 n hr hc => ?checks, fun v u off len mask => ?narrowing⟩
  case checks =>
    have hn := toNat_setWidth_imm16 n
    obtain ⟨hchkUse, hchk⟩ := exec_chk_checks hr (exec_chk_legal c hc r1 r2 s₀) rfl
    obtain ⟨hchkiUse, hchki⟩ := exec_chk_checks hr (exec_chki_legal c hc r1 n s₀) hn
    have hbelow (o : Word) : (0 : Word).toNat ≤ o.toNat ∧ o.toNat < (n.setWidth 32).toNat ↔ o.toNat < n.toNat := by
      rw [hn]
      exact and_iff_right (Nat.zero_le o.toNat)
    exact ⟨fun e he => ⟨hchkUse e he, hchkiUse e he⟩, fun he => ⟨hchk he, hchki he⟩,
      exec_chkr_checks hr (exec_chkr c r1 r2 r3 s₀) Iff.rfl, exec_chkr_checks hr (exec_chkri c r1 n s₀) (hbelow _)⟩
  case narrowing =>
    obtain ⟨hbase, hlength, -⟩ := andpCap_fields v mask
    refine ⟨fun h hv => ?_, fun h hv hu => ?_, fun h p hp => ?_, andpCap_perm v mask, hbase, hlength⟩
    · exact (boundCap_inside h hv).symm.imp_left And.left
    · exact ((boundCap_inside h hv).resolve_left hu).2
    · obtain ⟨-, -, -, hperms⟩ := boundCap_ok h
      rwa [CapReg.perm, hperms] at hp

end Sys2Proof.Machine
end

section
/-!
PROOFS. Stores to SRAM and the reservations of LRW and SCW (R161, R189 to R193, R262).
-/
namespace Sys2Proof.Machine
open Sys2Proof

/-! ### Bytes of a number -/

@[simp] theorem length_bytesLE (n v : Nat) : (bytesLE n v).length = n := by
  induction n generalizing v with
  | zero => rfl
  | succ n ih => simp [bytesLE, ih]

theorem getD_bytesLE (n v i : Nat) (h : i < n) : (bytesLE n v).getD i 0 = BitVec.ofNat 8 (v / 256 ^ i) := by
  induction n generalizing v i with
  | zero => omega
  | succ n ih =>
    cases i with
    | zero => simp [bytesLE]
    | succ i => rw [bytesLE, List.getD_cons_succ, ih _ _ (by omega), Nat.div_div_eq_div_mul, Nat.pow_succ']

/-- The bytes that a store takes of a register depend on its low bytes alone. -/
theorem bytesLE_mod (n v : Nat) : bytesLE n (v % 256 ^ n) = bytesLE n v := by
  induction n generalizing v with
  | zero => rfl
  | succ n ih =>
    have hlow : v % 256 ^ (n + 1) % 256 = v % 256 := Nat.mod_mod_of_dvd v (Nat.pow_succ' ▸ Nat.dvd_mul_right 256 (256 ^ n))
    have hbyte : BitVec.ofNat 8 (v % 256 ^ (n + 1)) = BitVec.ofNat 8 v := BitVec.eq_of_toNat_eq hlow
    rw [bytesLE, bytesLE, hbyte, Nat.pow_succ', Nat.mod_mul_right_div_self, ih]

/-! ### Memory and tags after a store -/

theorem State.byte_congr {s t : State} (h : t.mem = s.mem) (x : Nat) : t.byte x = s.byte x := by
  rw [State.byte, h, State.byte]

theorem State.tag_congr {s t : State} (h : t.tags = s.tags) (g : Nat) : t.tag g = s.tag g := by
  rw [State.tag, h, State.tag]

theorem State.setBytes_tags_core (s : State) (a : Nat) (bs : List Byte) :
    (s.setBytes a bs).tags = s.tags ∧ ∀ d, (s.setBytes a bs).core d = s.core d := by
  induction bs generalizing s a with
  | nil => exact ⟨rfl, fun _ => rfl⟩
  | cons b bs ih =>
    obtain ⟨ht, hc⟩ := ih (s.setByte a b) (a + 1)
    exact ⟨ht, fun d => (hc d).trans (by cases d <;> rfl)⟩

theorem State.touchSram_fields (s : State) (a : Nat) (h : hasTags a = true) :
    (s.touchSram a).mem = s.mem ∧ (s.touchSram a).tags = (s.setTag (a / 16) false).tags ∧ ∀ d, (s.touchSram a).core d = s.core d := by
  rw [State.touchSram, if_pos h]
  exact ⟨rfl, rfl, fun d => by cases d <;> rfl⟩

/-- Bytes stored in SRAM: those bytes, the granule's tag, and of the cores nothing (R161). -/
theorem State.sramStore_fields (s : State) (a n v : Nat) (h : hasTags a = true) :
    (∀ x, (s.sramStore a n v).byte x = if a ≤ x ∧ x < a + n then BitVec.ofNat 8 (v / 256 ^ (x - a)) else s.byte x) ∧
      (∀ g, (s.sramStore a n v).tag g = (s.tag g && decide (g ≠ a / 16))) ∧ ∀ d, (s.sramStore a n v).core d = s.core d := by
  obtain ⟨ht, hc⟩ := s.setBytes_tags_core a (bytesLE n v)
  obtain ⟨um, ut, uc⟩ := (s.setBytes a (bytesLE n v)).touchSram_fields a h
  refine ⟨fun x => ?byte, fun g => ?tag, fun d => (uc d).trans (hc d)⟩
  case byte =>
    rw [State.sramStore, State.byte_congr um, State.byte_setBytes, length_bytesLE]
    refine ite_congr rfl (fun hx => getD_bytesLE _ _ _ ?_) fun _ => rfl
    omega
  case tag =>
    rw [State.sramStore, State.tag_congr ut, State.tag_setTag, State.tag_congr ht]
    by_cases hg : g = a / 16 <;> simp [hg]

/-- A core's write ends the other core's reservation of the granule alone (R192). -/
theorem State.breakResv_fields (s : State) (c : CoreId) (a : Nat) :
    (s.breakResv (coreIni c) a).mem = s.mem ∧ (s.breakResv (coreIni c) a).tags = s.tags ∧ (s.breakResv (coreIni c) a).core c = s.core c ∧
      (s.breakResv (coreIni c) a).core (otherCore c) = (s.core (otherCore c)).endResv (a / 16) := by
  cases c <;> exact ⟨rfl, rfl, rfl, rfl⟩

/-! ### A core's write of SRAM -/

theorem State.coreOwnLine_onlyCaches (s : State) (c : CoreId) (a : Nat) : s.OnlyCaches (s.coreOwnLine c a) := by
  have htrl (u : State) : u.OnlyCaches (u.dropTrl a) := ⟨fun d => by cases d <;> rfl, rfl, rfl, rfl⟩
  have hdrop (u : State) := State.modCore_onlyCaches u (otherCore c) (·.dropLine a) fun _ => rfl
  have hshared := (s.snoop_onlyCaches (coreIni c) a).trans ((hdrop _).trans (htrl _))
  unfold State.coreOwnLine
  split
  · exact .refl s
  · exact hshared.trans (State.modCore_onlyCaches _ c _ fun _ => rfl)
  · exact hshared.trans ((State.allocate_onlyCaches _ c a).trans (State.modCore_onlyCaches _ c _ fun _ => rfl))

/-- `t` is `s` after core `c` has stored the low `n` bytes of `v` at `a` in SRAM: the bytes, the granule's tag, the other core's reservation of
the granule, and of the cores their data caches have changed. -/
structure State.StoredBy (s t : State) (c : CoreId) (a n v : Nat) : Prop where
  byte : ∀ x, t.byte x = if a ≤ x ∧ x < a + n then BitVec.ofNat 8 (v / 256 ^ (x - a)) else s.byte x
  tag : ∀ g, t.tag g = (s.tag g && decide (g ≠ a / 16))
  core : (t.core c).sansCache = (s.core c).sansCache
  other : (t.core (otherCore c)).sansCache = ((s.core (otherCore c)).endResv (a / 16)).sansCache

theorem Core.endResv_sansCache (k : Core) (g : Nat) : (k.endResv g).sansCache = k.sansCache.endResv g := by
  by_cases h : k.resv = some g <;> simp [Core.endResv, Core.sansCache, h]

theorem Core.endResv_resv (k : Core) (g : Nat) : (k.endResv g).resv = if k.resv = some g then none else k.resv := by
  unfold Core.endResv
  split <;> rfl

theorem State.sramWrite_ok (s : State) (c : CoreId) (a n v : Nat) (h : hasTags a = true) :
    ∃ t, s.StoredBy t c a n v ∧ s.sramWrite (coreIni c) a n v .ok = (t, none) := by
  obtain ⟨hcore, hmem, htags, -⟩ := s.coreOwnLine_onlyCaches c a
  obtain ⟨sb, st, sc⟩ := (s.coreOwnLine c a).sramStore_fields a n v h
  obtain ⟨bm, bt, bc, bo⟩ := ((s.coreOwnLine c a).sramStore a n v).breakResv_fields c a
  have hwrite : s.sramWrite (coreIni c) a n v .ok = (((s.coreOwnLine c a).sramStore a n v).breakResv (coreIni c) a, none) := by
    simp [State.sramWrite, State.sramFails, iniCore_coreIni]
  refine ⟨_, ⟨fun x => ?_, fun g => ?_, ?_, ?_⟩, hwrite⟩
  · rw [State.byte_congr bm, sb, State.byte_congr hmem]
  · rw [State.tag_congr bt, st, State.tag_congr htags]
  · rw [bc, sc, hcore]
  · rw [bo, sc, Core.endResv_sansCache, hcore, ← Core.endResv_sansCache]

theorem State.memWrite_sram_ok (s : State) (c : CoreId) (w : World) (a n v : Nat) (h : hasTags a = true)
    (hd : s.domainReady (addrDomain a) = true) : ∃ t, s.StoredBy t c a n v ∧ s.memWrite (coreIni c) w a n v .ok = (t, none) := by
  have hregion : regionOf a = .sramF ∨ regionOf a = .sramG := of_decide_eq_true h
  obtain hg | hg := hregion <;> simpa [State.memWrite, hd, hg] using s.sramWrite_ok c a n v h

theorem regionOf_ne_pages (a : Nat) (h : hasTags a = true) : regionOf a ≠ .pages := by
  intro hp
  simp [hasTags, hp] at h

/-! ### The end of a store, and of an SCW -/

theorem State.StoredBy.core_fields {s t : State} {c : CoreId} {a n v : Nat} (h : s.StoredBy t c a n v) :
    (t.core c).pc = (s.core c).pc ∧ (t.core c).w = (s.core c).w := by
  have hp := congrArg Core.pc h.core
  have hw := congrArg Core.w h.core
  exact ⟨hp, hw⟩

theorem State.StoredBy.other_resv {s t : State} {c : CoreId} {a n v : Nat} (h : s.StoredBy t c a n v) :
    (t.core (otherCore c)).resv = if (s.core (otherCore c)).resv = some (a / 16) then none else (s.core (otherCore c)).resv := by
  have ho := congrArg Core.resv h.other
  exact ho.trans (Core.endResv_resv ..)

theorem State.StoredBy.of_mod {s t : State} {c : CoreId} {a n v : Nat} (h : s.StoredBy t c a n (v % 256 ^ n)) : s.StoredBy t c a n v := by
  refine ⟨fun x => (h.byte x).trans (ite_congr rfl (fun hx => ?_) fun _ => rfl), h.tag, h.core, h.other⟩
  have hlt : x - a < n := by omega
  rw [← getD_bytesLE n _ _ hlt, bytesLE_mod, getD_bytesLE n _ _ hlt]

theorem State.coreStore_sram_ok (s : State) (c : CoreId) (o a n v : Nat) (h : hasTags a = true) (hd : s.domainReady (addrDomain a) = true) :
    ∃ t, s.StoredBy t c a n v ∧ s.coreStore c o a n v .ok = t.modCore c Core.next := by
  obtain ⟨t, ht, hw⟩ := s.memWrite_sram_ok c (s.worldOf c) a n v h hd
  exact ⟨t, ht, by simp only [State.coreStore, hw]⟩

@[simp] theorem Core.wr_resv (k : Core) (r : Fin 32) (v : Word) : (k.wr r v).resv = k.resv := by
  unfold Core.wr; split <;> rfl

/-- The end of an SCW: no reservation, the code in rt, and nothing else of the core's registers, memory, tags and register pages (R191). -/
theorem State.scwEnd_fields (s : State) (c : CoreId) (rt : Fin 32) (v : Word) :
    let t := s.scwEnd c rt v
    (t.core c).resv = none ∧ (t.core c).pc = (s.core c).pc + 4 ∧ (t.core c).w = ((s.core c).wr rt v).w ∧ t.mem = s.mem ∧ t.tags = s.tags ∧
      t.regs = s.regs := by
  have hw := Core.wr_w_congr (k := { s.core c with resv := none }) (k' := s.core c) rfl rt v
  simp [State.scwEnd, State.finish_eq, hw]

section
variable {s : State} {c : CoreId} (hr : s.runs c) {rt rs : Fin 32} {cs : Fin 8} {imm : BitVec 13} {v : CapReg} {o : Nat}
  (hv : ((s.fetched c).core c).crd cs = v) (ho : (((s.fetched c).core c).offset rs imm).toNat = o)
include hr hv ho

/-- A data store to SRAM whose checks pass. -/
theorem exec_storeW_sram {op n : Nat} {i : Instr} (hi : exec i s = .next (s.storeW c op rt rs cs imm n .ok))
    (ht : hasTags (capAddr v o) = true) (hd : (s.fetched c).domainReady (addrDomain (capAddr v o)) = true)
    (hs : (s.fetched c).risingAt (capAddr v o) = false) (hf : (s.fetched c).accessFault c v o n ⟨true, false⟩ = none) :
    let u := s.fetched c
    let k := u.core c
    let a := capAddr v o
    ∃ t, exec i s = .next t ∧
      (∀ x, t.byte x = if a ≤ x ∧ x < a + n then BitVec.ofNat 8 ((k.rd rt).toNat / 256 ^ (x - a)) else u.byte x) ∧
      (∀ g, t.tag g = (u.tag g && decide (g ≠ a / 16))) ∧ (t.core c).w = k.w ∧ (t.core c).pc = k.pc + 4 ∧
      (t.core (otherCore c)).resv =
        if (u.core (otherCore c)).resv = some (a / 16) then none else (u.core (otherCore c)).resv := by
  intro u k a
  obtain ⟨t, hmod, hstore⟩ := u.coreStore_sram_ok c o a n ((k.rd rt).toNat % 256 ^ n) ht hd
  obtain ⟨-, -, hands⟩ := State.storeW_hands hr hv ho hi hf
  have hst := hmod.of_mod
  obtain ⟨hpc, hw⟩ := hst.core_fields
  have hset := (t.modCore c Core.next).settle_onlyPages
  have hother : otherCore c ≠ c := by cases c <;> decide
  have hexec : exec i s = .next (t.modCore c Core.next).settle := by rw [hands hs (regionOf_ne_pages _ ht), ← hstore]
  refine ⟨_, hexec, fun x => ?_, fun g => ?_, ?_, ?_, ?_⟩
  · rw [State.byte_congr hset.mem, State.byte_congr (State.modCore_mem ..), hst.byte]
  · rw [hset.tag, State.tag_congr (State.modCore_tags ..), hst.tag]
  · rw [hset.core, State.core_modCore, if_pos rfl, ← hw, Core.next]
  · rw [hset.core, State.core_modCore, if_pos rfl, ← hpc, Core.next]
  · rw [hset.core, State.core_modCore, if_neg hother, hst.other_resv]

/-- An LRW that brings a value reserves its granule, in SRAM alone (R191, R193). -/
theorem exec_lrw_value {g : Integ} {t : State} {d : Nat} (hf : (s.fetched c).accessFault c v o 4 ⟨false, false⟩ = none)
    (hread : (s.fetched c).coreRead c o (capAddr v o) 4 g = (t, .ok d)) :
    exec (.lrw c rt rs cs imm g) s = .next (((t.modCore c fun k => { k with
      resv := if hasTags (capAddr v o) then some (capAddr v o / 16) else none }).finish c rt (BitVec.ofNat 32 d)).settle) := by
  rw [exec_lrw, execLrw, State.execMem_runs s c _ _ hr, State.load_of_value hv ho hf hread]

/-- An SCW without this core's reservation of a granule of SRAM stores nothing and answers 1. -/
theorem exec_scw_unreserved {g : Integ} (hf : (s.fetched c).accessFault c v o 4 ⟨true, false⟩ = none)
    (hs : (s.fetched c).risingAt (capAddr v o) = false)
    (hresv : ¬ (hasTags (capAddr v o) = true ∧ ((s.fetched c).core c).resv = some (capAddr v o / 16))) :
    exec (.scw c rt rs cs imm g) s = .next ((s.fetched c).scwEnd c rt 1) := by
  rw [exec_scw, execScw, State.execMem_runs s c _ _ hr]
  simp only [hv, ho, hf, hs, Bool.and_eq_true, decide_eq_true_eq, hresv, if_false, Bool.false_eq_true]

/-- An SCW with it stores rt and answers 0. -/
theorem exec_scw_reserved {g : Integ} {t : State} (hf : (s.fetched c).accessFault c v o 4 ⟨true, false⟩ = none)
    (hs : (s.fetched c).risingAt (capAddr v o) = false)
    (hresv : hasTags (capAddr v o) = true ∧ ((s.fetched c).core c).resv = some (capAddr v o / 16))
    (hw : (s.fetched c).memWrite (coreIni c) ((s.fetched c).worldOf c) (capAddr v o) 4 (((s.fetched c).core c).rd rt).toNat g = (t, none)) :
    exec (.scw c rt rs cs imm g) s = .next (t.scwEnd c rt 0).settle := by
  rw [exec_scw, execScw, State.execMem_runs s c _ _ hr]
  simp only [hv, ho, hf, hs, Bool.and_eq_true, decide_eq_true_eq, hresv, and_self, if_true, hw, if_false, Bool.false_eq_true]

/-- An SCW whose checks pass, by whether this core holds a reservation of a granule of SRAM; either way the reservation is gone. -/
theorem exec_scw_effect (hf : (s.fetched c).accessFault c v o 4 ⟨true, false⟩ = none)
    (hd : (s.fetched c).domainReady (addrDomain (capAddr v o)) = true) (hs : (s.fetched c).risingAt (capAddr v o) = false) :
    let u := s.fetched c
    let k := u.core c
    let a := capAddr v o
    ∃ t, exec (.scw c rt rs cs imm .ok) s = .next t ∧ (t.core c).resv = none ∧ (t.core c).pc = k.pc + 4 ∧
      (hasTags a = true ∧ k.resv = some (a / 16) →
        (t.core c).w = (k.wr rt 0).w ∧
        ∀ x, t.byte x = if a ≤ x ∧ x < a + 4 then BitVec.ofNat 8 ((k.rd rt).toNat / 256 ^ (x - a)) else u.byte x) ∧
      (¬ (hasTags a = true ∧ k.resv = some (a / 16)) →
        (t.core c).w = (k.wr rt 1).w ∧ t.mem = u.mem ∧ t.tags = u.tags ∧ t.regs = u.regs) := by
  intro u k a
  by_cases hresv : hasTags a = true ∧ k.resv = some (a / 16)
  case pos =>
    obtain ⟨t, hst, hw⟩ := u.memWrite_sram_ok c (u.worldOf c) a 4 (k.rd rt).toNat hresv.1 hd
    obtain ⟨hpc, hregs⟩ := hst.core_fields
    obtain ⟨fresv, fpc, fw, fm, -, -⟩ := t.scwEnd_fields c rt 0
    have hset := (t.scwEnd c rt 0).settle_onlyPages
    refine ⟨_, exec_scw_reserved hr hv ho hf hs hresv hw, ?_, ?_, fun _ => ⟨?_, fun x => ?_⟩, fun hn => absurd hresv hn⟩
    · rw [hset.core, fresv]
    · rw [hset.core, fpc, hpc]
    · rw [hset.core, fw, Core.wr_w_congr hregs]
    · rw [State.byte_congr hset.mem, State.byte_congr fm, hst.byte]
  case neg =>
    obtain ⟨fresv, fpc, fw, fm, ft, fr⟩ := u.scwEnd_fields c rt 1
    exact ⟨_, exec_scw_unreserved hr hv ho hf hs hresv, fresv, fpc, fun hp => absurd hp hresv, fun _ => ⟨fw, fm, ft, fr⟩⟩

end

/-- Settles O10: the data stores by what a write of SRAM leaves, LRW and SCW by the reservation of the granule. -/
theorem storesAndReservations : Obligations.StoresAndReservations := by
  unfold Obligations.StoresAndReservations
  refine ⟨fun s₀ c rt rs cs imm hr => ?stores, fun s₀ c rt rs cs imm hr => ?reservations⟩
  case stores =>
    intro s k v o a effect ht hd hs
    -- each `rfl`: the authority, the offset, and the dispatch to the one meaning that the stores share
    exact ⟨exec_storeW_sram hr rfl rfl rfl ht hd hs, exec_storeW_sram hr rfl rfl rfl ht hd hs, exec_storeW_sram hr rfl rfl rfl ht hd hs⟩
  case reservations =>
    exact ⟨fun g t d hf hread => exec_lrw_value hr rfl rfl hf hread, fun hf hd hs => exec_scw_effect hr rfl rfl hf hd hs⟩

end Sys2Proof.Machine
end

section
/-!
PROOFS. Riddle's choice among matching rules (R406), in a rule table whose entries do not stand in ascending order.
-/
namespace Sys2Proof.Machine
open Sys2Proof

/-- A rule that matches every frame and drops it. -/
def dropAll : RdlRule := { RdlRule.none with act := 8 }

/-- A radio frame with an empty payload. -/
def emptyBeacon : InFrame := ⟨2, List.replicate 6 0, false, 0⟩

/-- Riddle has one frame to classify, and the list that holds its rules names rule 5 before rule 3. -/
def misorderedRules : State :=
  ({ State.reset with rin := [emptyBeacon], rules := [(5, dropAll), (3, dropAll)] }).put (F.PWR.DOMAIN.on.bit 11) 1

/-- `State.Inv` asks for the canonical form of the registers, memory, tags and rows, and leaves the list of rules open. -/
theorem misorderedRules_inv : misorderedRules.Inv := by
  unfold State.Inv
  decide +kernel

/-- Both rules match the frame. Riddle takes rule 5, which is listed first: that rule counts the hit, and rule 3 counts none. -/
theorem misorderedRules_frameClassify_hits :
    misorderedRules.frameClassify.settle.get (ruleHits 5) = 1 ∧ misorderedRules.frameClassify.settle.get (ruleHits 3) = 0 := by
  decide +kernel

/-- Refutes O48: the lowest-numbered matching rule need not be the one whose action Riddle takes. Under `State.Inv` the list of rules may name
rule 5 before rule 3; where both match, R406 asks for rule 3 and its hit, and FRAME_CLASSIFY applies rule 5 and counts the hit there. -/
theorem not_frameClassificationAndActions : ¬ Obligations.FrameClassificationAndActions := by
  unfold Obligations.FrameClassificationAndActions
  rintro ⟨hclassify, -⟩
  have hon : misorderedRules.pdOn 11 = true := by decide +kernel
  have hrin : misorderedRules.rin = [emptyBeacon] := rfl
  have hports : ∀ f ∈ misorderedRules.rin, f.port < 3 := by simp [hrin, emptyBeacon]
  obtain ⟨f, before, after, hsplit, -, -, -, -, -, -, -, hrule⟩ :=
    (hclassify misorderedRules misorderedRules_inv hon).2 (by simp [hrin]) hports
  obtain ⟨rfl, rfl, rfl⟩ : before = [] ∧ f = emptyBeacon ∧ after = [] := by
    simpa [List.append_eq_singleton_iff] using hsplit.symm.trans hrin
  -- the premises for rule 3: the frame parses, no bypass, rule 3 matches, rules 0 to 2 do not
  have hclaim := hrule 3 (by decide +kernel) (by decide +kernel) (by decide +kernel) (by decide +kernel)
  have hsame := Host.Outcome.next.inj hclaim
  -- the state claimed counts one hit of rule 3
  refine absurd misorderedRules_frameClassify_hits.2 ?_
  rw [hsame]
  decide +kernel

end Sys2Proof.Machine
end

section
/-!
PROOFS. What settling, a log entry and a snapshot trigger leave: the registers of the radio port's page, and the radio port itself.
-/
namespace Sys2Proof.Machine
open Sys2Proof

/-! ### Settling (R533, R584) -/

theorem lt_of_mem_numsFrom {n a x : Nat} (h : x ∈ numsFrom n a) : x < a + n := by
  induction n generalizing a with
  | zero => simp [numsFrom] at h
  | succ n ih =>
    obtain rfl | h := List.mem_cons.1 h
    · omega
    · have := ih h
      omega

/-- Latching the lines of a list changes latches in registers of lines alone. -/
theorem State.foldState_latchLine (l : List Nat) (hl : ∀ n ∈ l, n < 128) (s : State) :
    ∃ r, foldState State.latchLine l s = { s with regs := r } ∧ ∀ a, settledReg a = false → tabGet 0 r a = s.reg a := by
  induction l generalizing s with
  | nil => exact ⟨s.regs, rfl, fun _ _ => rfl⟩
  | cons n l ih =>
    have hn : n < 128 := hl n List.mem_cons_self
    have hstep : ∃ r, State.latchLine n s = { s with regs := r } ∧ ∀ a, settledReg a = false → tabGet 0 r a = s.reg a := by
      unfold State.latchLine
      split
      · refine ⟨_, rfl, fun a ha => (State.reg_put ..).trans (if_neg ?_)⟩
        rintro rfl
        simp [settledReg, Fld.idx, F.INTC.LINE.latched, R.INTC.LINE] at ha
        omega
      · exact ⟨s.regs, rfl, fun _ _ => rfl⟩
    obtain ⟨r, hr, hkeep⟩ := hstep
    obtain ⟨r', hr', hkeep'⟩ := ih (fun m hm => hl m (List.mem_cons_of_mem _ hm)) { s with regs := r }
    refine ⟨r', ?_, fun a ha => (hkeep' a ha).trans (hkeep a ha)⟩
    rw [foldState, hr, hr']

/-- Settling changes what `State.changesOnly` excepts, and nothing else. -/
theorem State.settle_eq (s : State) :
    ∃ r m l, s.settle = { s with regs := r, intcSample := m, aon := { s.aon with alertLast := l } } ∧
      ∀ a, settledReg a = false → tabGet 0 r a = s.reg a := by
  have hlines : ∀ n ∈ (numsFrom 128 0).filter fun n => s.latchAlerts.sources.testBit n && !s.latchAlerts.intcSample.testBit n, n < 128 :=
    fun n hn => by simpa using lt_of_mem_numsFrom (List.mem_filter.1 hn).1
  obtain ⟨r, hr, hkeep⟩ := State.foldState_latchLine _ hlines s.latchAlerts
  refine ⟨r, s.latchAlerts.sources, s.alertLevels, ?_, fun a ha => (hkeep a ha).trans ((State.reg_put ..).trans (if_neg ?_))⟩
  · rw [State.settle, State.sampleLines, hr]
    rfl
  · rintro rfl
    exact absurd ha (by decide)

/-- Settling leaves the registers of the RLP page. -/
theorem settledReg_of_rlp {a : Nat} (h : a / 0x1000 = 0x40016) : settledReg a = false := by
  unfold settledReg R.INTC.LINE R.MGP.ALERT
  exact decide_eq_false (by omega)

theorem State.reg_settle (s : State) (a : Nat) (h : settledReg a = false) : s.settle.reg a = s.reg a := by
  obtain ⟨r, m, l, hs, hkeep⟩ := s.settle_eq
  rw [hs]
  exact hkeep a h

theorem State.get_settle (s : State) (f : Fld) (h : settledReg f.addr = false) : s.settle.get f = s.get f := by
  rw [State.get, State.reg_settle s _ h, State.get]

theorem State.on_congr {s t : State} {f : Fld} (h : t.get f = s.get f) : t.on f = s.on f := congrArg (fun n => decide (n ≠ 0)) h

theorem State.on_settle (s : State) (f : Fld) (h : settledReg f.addr = false) : s.settle.on f = s.on f := State.on_congr (s.get_settle f h)

/-- Settling changes nothing beyond what `State.changesOnly` excepts, whatever of the radio port is set beside. -/
theorem State.changesOnly_settle {s t : State} {r : Radio} {as : List Nat} (h : s.changesOnly { t with radio := r } as) :
    s.changesOnly { t.settle with radio := r } as := by
  obtain ⟨regs, m, l, ht, hkeep⟩ := t.settle_eq
  obtain ⟨hreg, hrest⟩ := h
  rw [ht]
  refine ⟨fun a ha => ?_, hrest⟩
  by_cases hset : settledReg a = true
  · exact .inl hset
  · exact (hreg a ha).imp_right ((hkeep a (Bool.eq_false_iff.2 hset)).trans ·)

section
variable (s : State)

@[simp] theorem State.settle_radio : s.settle.radio = s.radio := by obtain ⟨r, m, l, h, -⟩ := s.settle_eq; rw [h]
@[simp] theorem State.settle_rin : s.settle.rin = s.rin := by obtain ⟨r, m, l, h, -⟩ := s.settle_eq; rw [h]
@[simp] theorem State.settle_sieve : s.settle.sieve = s.sieve := by obtain ⟨r, m, l, h, -⟩ := s.settle_eq; rw [h]
@[simp] theorem State.settle_resp : s.settle.resp = s.resp := by obtain ⟨r, m, l, h, -⟩ := s.settle_eq; rw [h]

end

/-! ### Log entries (R546) and snapshot triggers (R538, R541) -/

/-- A log entry that finds the queue full is counted, and raises an event of the SNAP page: the only registers that it changes. -/
theorem State.reg_log (s : State) (k c d a : Nat) (hlost : a ≠ F.SNAP.LOG_STAT.lost.addr) (hirq : a ≠ (eventBit pageSNAP 2).addr) :
    (s.log k c d).reg a = s.reg a := by
  unfold State.log
  split
  · rfl
  · exact ((State.reg_put ..).trans (if_neg hirq)).trans ((State.reg_put ..).trans (if_neg hlost))

theorem State.get_log (s : State) (k c d : Nat) (f : Fld) (hlost : f.addr ≠ F.SNAP.LOG_STAT.lost.addr)
    (hirq : f.addr ≠ (eventBit pageSNAP 2).addr) : (s.log k c d).get f = s.get f := by
  rw [State.get, State.reg_log s k c d _ hlost hirq, State.get]

@[simp] theorem State.log_radio (s : State) (k c d : Nat) : (s.log k c d).radio = s.radio := by
  unfold State.log
  split <;> rfl

/-- A trigger that is merged is counted in TRIG_STAT: the only register that a trigger changes. -/
theorem State.reg_trig (s : State) (b a : Nat) (h : a ≠ R.SNAP.TRIG_STAT) : (s.trig b).reg a = s.reg a := by
  unfold State.trig
  split
  · split
    · exact ((State.reg_put ..).trans (if_neg h)).trans ((State.reg_put ..).trans (if_neg h))
    · rfl
  · rfl

theorem State.get_trig (s : State) (b : Nat) (f : Fld) (h : f.addr ≠ R.SNAP.TRIG_STAT) : (s.trig b).get f = s.get f := by
  rw [State.get, State.reg_trig s b _ h, State.get]

/-- A trigger changes TRIG_STAT and what the snapshot sequencer holds. -/
theorem State.trig_eq (s : State) (b : Nat) : ∃ r a, s.trig b = { s with regs := r, aon := a } := by
  unfold State.trig
  split
  · split
    · exact ⟨_, _, rfl⟩
    · exact ⟨_, _, rfl⟩
  · exact ⟨_, _, rfl⟩

section
variable (s : State) (b : Nat)

@[simp] theorem State.trig_radio : (s.trig b).radio = s.radio := by obtain ⟨r, a, h⟩ := s.trig_eq b; rw [h]
@[simp] theorem State.trig_rin : (s.trig b).rin = s.rin := by obtain ⟨r, a, h⟩ := s.trig_eq b; rw [h]
@[simp] theorem State.trig_sieve : (s.trig b).sieve = s.sieve := by obtain ⟨r, a, h⟩ := s.trig_eq b; rw [h]
@[simp] theorem State.trig_resp : (s.trig b).resp = s.resp := by obtain ⟨r, a, h⟩ := s.trig_eq b; rw [h]

end

/-! ### Counters and event bits -/

theorem State.get_setReg_addr (s : State) (a : Nat) (w : Word) (f : Fld) (h : f.addr ≠ a) : (s.setReg a w).get f = s.get f := by
  simp [State.get, h]

theorem State.get_lt (s : State) (f : Fld) : s.get f < 2 ^ f.width := Nat.mod_lt _ (Nat.two_pow_pos _)

/-- A counter that saturates, after one event. -/
theorem State.get_inc (s : State) (f : Fld) (h : f.ok = true) : (s.inc f).get f = satAdd f.max (s.get f) 1 := by
  have hlt := s.get_lt f
  rw [State.inc, State.addSat, State.get_put s f _ h, Nat.mod_eq_of_lt]
  unfold satAdd Fld.max
  split <;> omega

theorem State.get_inc_addr (s : State) (f g : Fld) (h : g.addr ≠ f.addr) : (s.inc f).get g = s.get g := State.get_put_addr _ _ _ _ h

theorem State.get_inc_other (s : State) (f g : Fld) (h : f.ok = true) (hg : g.ok = true) (d : f.hi < g.lo ∨ g.hi < f.lo) :
    (s.inc f).get g = s.get g := State.get_put_other _ _ _ _ h hg d

theorem State.get_irq (s : State) (p k : Nat) (f : Fld) (h : f.addr ≠ R.HDR.IRQ_RAW + pageBase p) : (s.irq p k).get f = s.get f :=
  State.get_put_addr _ _ _ _ h

/-- An event's bit is set once it is raised. -/
theorem State.get_irq_eventBit (s : State) (p k : Nat) (h : k < 32) : (s.irq p k).get (eventBit p k) = 1 := by
  have hok : (eventBit p k).ok = true := by simp [eventBit, Fld.bit, Fld.onPage, F.HDR.IRQ_RAW.raw, Fld.ok]; omega
  have hwidth : (eventBit p k).width = 1 := by simp [eventBit, Fld.bit, Fld.width]
  have hget := State.get_put s (eventBit p k) 1 hok
  rwa [hwidth] at hget

end Sys2Proof.Machine
end

section
/-!
PROOFS. What the radio link port does with a received frame (R443 to R446, R451), and RL_WAKE.
-/
namespace Sys2Proof.Machine
open Sys2Proof

theorem exec_rlRxFrame (bytes : List Byte) (whole : Bool) (ticks : Word) (s : State) :
    exec (.rlRxFrame bytes whole ticks) s = .next (s.rlReceive bytes whole ticks.toNat).settle := rfl
theorem exec_rlWake (s : State) : exec .rlWake s = execRlWake s := rfl

/-! ### Bytes of a frame and of its CRC -/

theorem frameByte_append_right (b c : List Byte) (k : Nat) (h : b.length ≤ k) : frameByte (b ++ c) k = frameByte c (k - b.length) := by
  rw [frameByte, List.getD_eq_getElem?_getD, List.getElem?_append_right h, ← List.getD_eq_getElem?_getD, frameByte]

theorem frameByte_lt (b : List Byte) (k : Nat) : frameByte b k < 256 := BitVec.isLt _

/-- Two bytes, the first the more significant. -/
theorem frameNum_two (b : List Byte) (k : Nat) : frameNum b k 2 = 256 * frameByte b k + frameByte b (k + 1) := by
  simp [frameNum, numsFrom]

theorem frameNum_two_lt (b : List Byte) (k : Nat) : frameNum b k 2 < 65536 := by
  have h := frameByte_lt b k
  have h' := frameByte_lt b (k + 1)
  rw [frameNum_two]
  omega

/-- The CRC of a frame is read behind its other bytes. -/
theorem frameNum_append_crc (b crc : List Byte) : frameNum (b ++ crc) b.length 2 = frameNum crc 0 2 := by
  rw [frameNum_two, frameNum_two, frameByte_append_right _ _ _ (by omega), frameByte_append_right _ _ _ (by omega)]
  simp

/-- A radio frame parses where its length field names the payload (R402). -/
theorem parseRadio_cause_eq_zero (b : List Byte) : (parseRadio b).cause = 0 ↔ frameNum b 4 2 = b.length - 6 := by
  unfold parseRadio
  by_cases h : frameNum b 4 2 = b.length - 6 <;> simp [h, Parsed.fail, Parsed.start]

/-! ### The checks of a frame in their order -/

theorem State.rlArmed_iff (s : State) :
    s.rlArmed = true ↔ s.pdOn 1 = true ∧ (s.radio.wake = true ∨ (s.aon.pstate = 0 ∧ s.on F.RLP.CTRL.rx_en = true)) := by
  simp [State.rlArmed]

theorem State.duringSend_of_sending (s : State) (ref : Word) (h : s.radio.sending.isSome = true) : s.duringSend ref = true := by
  simp [State.duringSend, h]

section
variable {s : State} {bytes : List Byte} {whole : Bool} {ticks : Word}

theorem State.rlReceive_of_off (h : s.pdOn 1 = false) : s.rlReceive bytes whole ticks.toNat = s := by
  simp [State.rlReceive, h]

theorem State.rlReceive_lost (hon : s.pdOn 1 = true)
    (h : s.rlArmed = false ∨ s.duringSend (s.reg R.RLP.ST_NOW - ticks) = true) :
    s.rlReceive bytes whole ticks.toNat = s.rlError 3 := by
  obtain h | h := h <;> simp [State.rlReceive, hon, h]

/-- What an armed port makes of a frame that did not start during a sending. -/
theorem State.rlReceive_armed (harmed : s.rlArmed = true)
    (hduring : s.duringSend (s.reg R.RLP.ST_NOW - ticks) = false) :
    s.rlReceive bytes whole ticks.toNat =
      if bytes.length < 8 then s.rlError 1
      else if 1032 < bytes.length || !whole then s.rlError 2
      else if crc16 (bytes.take (bytes.length - 2)) ≠ frameNum bytes (bytes.length - 2) 2 then s.rlError 0
      else
        let u := s.inc F.RLP.RXCNT.frames
        (if u.isBeacon (bytes.take (bytes.length - 2)) then
            u.beacon (bytes.take (bytes.length - 2)) (u.reg R.RLP.ST_NOW - ticks).toNat
          else u).rlDeliver (bytes.take (bytes.length - 2)) := by
  have hon : s.pdOn 1 = true := ((s.rlArmed_iff).1 harmed).1
  simp [State.rlReceive, hon, harmed, hduring]

theorem State.rlReceive_runt (harmed : s.rlArmed = true)
    (hduring : s.duringSend (s.reg R.RLP.ST_NOW - ticks) = false) (hlen : bytes.length < 8) :
    s.rlReceive bytes whole ticks.toNat = s.rlError 1 := by
  rw [State.rlReceive_armed harmed hduring, if_pos hlen]

theorem State.rlReceive_size (harmed : s.rlArmed = true)
    (hduring : s.duringSend (s.reg R.RLP.ST_NOW - ticks) = false) (hlen : 8 ≤ bytes.length)
    (hsize : 1032 < bytes.length ∨ whole = false) : s.rlReceive bytes whole ticks.toNat = s.rlError 2 := by
  rw [State.rlReceive_armed harmed hduring, if_neg (by omega), if_pos (by simpa using hsize)]

end

section
variable {s : State} {b crc : List Byte} {ticks : Word} (harmed : s.rlArmed = true)
  (hduring : s.duringSend (s.reg R.RLP.ST_NOW - ticks) = false)
  (hmin : 8 ≤ (b ++ crc).length) (hmax : (b ++ crc).length ≤ 1032) (hcrc : crc.length = 2)
include harmed hduring hmin hmax hcrc

/-- What is received of a frame of a good size with the two bytes of its CRC. -/
theorem State.rlReceive_sized :
    s.rlReceive (b ++ crc) true ticks.toNat =
      if crc16 b ≠ frameNum crc 0 2 then s.rlError 0
      else
        let u := s.inc F.RLP.RXCNT.frames
        (if u.isBeacon b then u.beacon b (u.reg R.RLP.ST_NOW - ticks).toNat else u).rlDeliver b := by
  have hlen : (b ++ crc).length - 2 = b.length := by simp [hcrc]
  have hmax' : (decide (1032 < (b ++ crc).length) || !true) ≠ true := by simpa using hmax
  rw [State.rlReceive_armed harmed hduring, if_neg (by omega), if_neg hmax', hlen, List.take_left, frameNum_append_crc]

theorem State.rlReceive_badCrc (h : crc16 b ≠ frameNum crc 0 2) : s.rlReceive (b ++ crc) true ticks.toNat = s.rlError 0 := by
  rw [State.rlReceive_sized harmed hduring hmin hmax hcrc, if_pos h]

theorem State.rlReceive_plain (h : crc16 b = frameNum crc 0 2) (hb : (s.inc F.RLP.RXCNT.frames).isBeacon b = false) :
    s.rlReceive (b ++ crc) true ticks.toNat = (s.inc F.RLP.RXCNT.frames).rlDeliver b := by
  rw [State.rlReceive_sized harmed hduring hmin hmax hcrc, if_neg fun hne => hne h]
  simp [hb]

theorem State.rlReceive_beacon (h : crc16 b = frameNum crc 0 2) (hb : (s.inc F.RLP.RXCNT.frames).isBeacon b = true) :
    s.rlReceive (b ++ crc) true ticks.toNat =
      ((s.inc F.RLP.RXCNT.frames).beacon b (s.reg R.RLP.ST_NOW - ticks).toNat).rlDeliver b := by
  have hnow : (s.inc F.RLP.RXCNT.frames).reg R.RLP.ST_NOW = s.reg R.RLP.ST_NOW := (State.reg_put ..).trans (if_neg (by decide))
  rw [State.rlReceive_sized harmed hduring hmin hmax hcrc, if_neg fun hne => hne h]
  simp [hb, hnow]

end

/-! ### Beacons (R451) -/

theorem State.pdOn_congr {s t : State} (h : t.reg R.PWR.DOMAIN = s.reg R.PWR.DOMAIN) (d : Nat) : t.pdOn d = s.pdOn d :=
  congrArg (fun w => decide ((F.PWR.DOMAIN.on.bit d).get w ≠ 0)) h

theorem State.pdOn_inc_frames (s : State) (d : Nat) : (s.inc F.RLP.RXCNT.frames).pdOn d = s.pdOn d :=
  State.pdOn_congr ((State.reg_put ..).trans (if_neg (by decide))) d

/-- Counting a frame leaves what BCN_MATCH says of it. -/
theorem State.isBeacon_inc_frames (s : State) (b : List Byte) :
    (s.inc F.RLP.RXCNT.frames).isBeacon b = true ↔ s.on F.RLP.BCN_MATCH.en = true ∧ frameNum b 4 2 = b.length - 6 ∧
      (frameByte b 0 ^^^ s.get F.RLP.BCN_MATCH.type) &&& s.get F.RLP.BCN_MATCH.mask = 0 := by
  have hmatch (f : Fld) (hf : f.addr = R.RLP.BCN_MATCH) : (s.inc F.RLP.RXCNT.frames).get f = s.get f :=
    State.get_inc_addr s _ f (by rw [hf]; decide)
  simp only [State.isBeacon, State.on, hmatch F.RLP.BCN_MATCH.en rfl, hmatch F.RLP.BCN_MATCH.type rfl, hmatch F.RLP.BCN_MATCH.mask rfl,
    parseRadio_cause_eq_zero, Bool.and_eq_true, decide_eq_true_eq, and_assoc]

/-- What a beacon writes to registers, before the frames that wait for it are released. -/
def State.beaconMarks (s : State) (b : List Byte) (ref : Word) : State :=
  let t := ((((s.setReg R.RLP.BCN_TIME ref).put F.RLP.BCN_INFO.seq (frameByte b 3)).put F.RLP.BCN_INFO.addr (frameNum b 1 2)).put
    F.RLP.STAT.ref_valid 1).inc F.RLP.RXCNT.beacons
  (t.irq pageRLP 3).trig 5

theorem State.beacon_eq (s : State) (b : List Byte) (ref : Word) :
    s.beacon b ref.toNat = { s.beaconMarks b ref with
      radio := { s.radio with ring := s.radio.ring.map RadioTx.retarget, fwd := s.radio.fwd.map RadioTx.retarget } } := by
  have hradio : (s.beaconMarks b ref).radio = s.radio := by simp [State.beaconMarks, State.inc, State.addSat]
  have href : BitVec.ofNat 32 ref.toNat = ref := BitVec.ofNat_toNat ..
  rw [State.beacon, href, ← hradio]
  rfl

theorem State.beaconMarks_regs (s : State) (b : List Byte) (ref : Word) :
    (s.beaconMarks b ref).reg R.RLP.BCN_TIME = ref ∧ (s.beaconMarks b ref).get F.RLP.BCN_INFO.seq = frameByte b 3 ∧
      (s.beaconMarks b ref).get F.RLP.BCN_INFO.addr = frameNum b 1 2 ∧ (s.beaconMarks b ref).get F.RLP.STAT.ref_valid = 1 ∧
      (s.beaconMarks b ref).get (eventBit pageRLP 3) = 1 ∧
      (s.beaconMarks b ref).get F.RLP.RXCNT.beacons = satAdd F.RLP.RXCNT.beacons.max (s.get F.RLP.RXCNT.beacons) 1 := by
  have hseq : frameByte b 3 % 2 ^ F.RLP.BCN_INFO.seq.width = frameByte b 3 := Nat.mod_eq_of_lt (frameByte_lt b 3)
  have haddr : frameNum b 1 2 % 2 ^ F.RLP.BCN_INFO.addr.width = frameNum b 1 2 := Nat.mod_eq_of_lt (frameNum_two_lt b 1)
  unfold State.beaconMarks
  refine ⟨?time, ?seq, ?addr, ?valid, ?event, ?beacons⟩
  case time =>
    rw [State.reg_trig _ _ _ (by decide)]
    simp (disch := decide) [State.irq, State.inc, State.addSat, if_neg]
  case seq =>
    simp (disch := decide) only [State.get_trig, State.get_irq, State.get_inc_addr, State.get_put_addr, State.get_put_other, State.get_put, hseq]
  case addr =>
    simp (disch := decide) only [State.get_trig, State.get_irq, State.get_inc_addr, State.get_put_addr, State.get_put, haddr]
  case valid =>
    simp (disch := decide) only [State.get_trig, State.get_irq, State.get_inc_addr, State.get_put]
    rfl
  case event => simp (disch := decide) only [State.get_trig, State.get_irq_eventBit]
  case beacons =>
    simp (disch := decide) only [State.get_trig, State.get_irq, State.get_inc, State.get_put_addr, State.get_setReg_addr]

/-- A beacon keeps the domains that are on, and what Riddle and the sieve hold. -/
theorem State.beacon_keeps (s : State) (b : List Byte) (ref : Word) :
    (∀ d, (s.beacon b ref.toNat).pdOn d = s.pdOn d) ∧ (s.beacon b ref.toNat).rin = s.rin ∧ (s.beacon b ref.toNat).sieve = s.sieve := by
  have hon : (s.beaconMarks b ref).reg R.PWR.DOMAIN = s.reg R.PWR.DOMAIN := by
    rw [State.beaconMarks, State.reg_trig _ _ _ (by decide)]
    simp (disch := decide) [State.irq, State.inc, State.addSat, if_neg]
  rw [State.beacon_eq]
  exact ⟨fun d => State.pdOn_congr hon d, by simp [State.beaconMarks, State.inc, State.addSat],
    by simp [State.beaconMarks, State.inc, State.addSat]⟩

/-! ### Where a frame goes (R418, R423) -/

section
variable {s : State} {b : List Byte}

theorem State.rlDeliver_straight (h : s.pdOn 11 = true ∧ s.sieve.queue = [] ∧ s.sieve.waiting = []) :
    s.rlDeliver b = { s with rin := s.rin ++ [radioFrame b] } := by
  obtain ⟨hon, hqueue, hwaiting⟩ := h
  simp [State.rlDeliver, hon, hqueue, hwaiting]

theorem State.rlDeliver_sieve (h : ¬ (s.pdOn 11 = true ∧ s.sieve.queue = [] ∧ s.sieve.waiting = [])) :
    s.rlDeliver b = { s with sieve := { s.sieve with waiting := s.sieve.waiting ++ [b] } } := by
  rw [State.rlDeliver, if_neg]
  simpa [and_assoc] using h

theorem State.reg_rlDeliver (a : Nat) : (s.rlDeliver b).reg a = s.reg a := by
  unfold State.rlDeliver
  split <;> rfl

end

/-- What a received beacon leaves: its reference, its sender and number, the event and the count, and the frame on its way. -/
theorem State.beacon_delivered (s : State) (b : List Byte) (ref : Word) :
    let t := (((s.inc F.RLP.RXCNT.frames).beacon b ref.toNat).rlDeliver b).settle
    let straight := s.pdOn 11 = true ∧ s.sieve.queue = [] ∧ s.sieve.waiting = []
    t.reg R.RLP.BCN_TIME = ref ∧ t.get F.RLP.BCN_INFO.seq = frameByte b 3 ∧ t.get F.RLP.BCN_INFO.addr = frameNum b 1 2 ∧
      t.on F.RLP.STAT.ref_valid = true ∧ t.on (eventBit pageRLP 3) = true ∧
      t.get F.RLP.RXCNT.beacons = satAdd F.RLP.RXCNT.beacons.max (s.get F.RLP.RXCNT.beacons) 1 ∧
      (straight → t.rin = s.rin ++ [radioFrame b]) ∧ (¬ straight → t.sieve.waiting = s.sieve.waiting ++ [b]) := by
  intro t straight
  let u := s.inc F.RLP.RXCNT.frames
  have hreg (a : Nat) (ha : settledReg a = false) : t.reg a = (u.beaconMarks b ref).reg a := by
    rw [State.reg_settle _ a ha, State.reg_rlDeliver, State.beacon_eq]
    rfl
  have hget (f : Fld) (hf : settledReg f.addr = false) : t.get f = (u.beaconMarks b ref).get f := congrArg f.get (hreg _ hf)
  have hon (f : Fld) (hf : settledReg f.addr = false) (h1 : (u.beaconMarks b ref).get f = 1) : t.on f = true := by
    simp [State.on, hget f hf, h1]
  obtain ⟨htime, hseq, haddr, hvalid, hevent, hbeacons⟩ := u.beaconMarks_regs b ref
  obtain ⟨hpd, hrin, hsieve⟩ := u.beacon_keeps b ref
  replace hpd (d : Nat) := (hpd d).trans (s.pdOn_inc_frames d)
  refine ⟨(hreg _ (by decide)).trans htime, (hget _ (by decide)).trans hseq, (hget _ (by decide)).trans haddr, hon _ (by decide) hvalid,
    hon _ (by decide) hevent, ?beacons, fun h => ?straight, fun h => ?sieve⟩
  case beacons =>
    rw [hget _ (by decide), hbeacons, State.get_inc_other _ _ _ (by decide) (by decide) (by decide)]
  case straight =>
    rw [State.settle_rin, State.rlDeliver_straight (by rwa [hpd, hsieve])]
    exact congrArg (· ++ _) hrin
  case sieve =>
    rw [State.settle_sieve, State.rlDeliver_sieve (by rwa [hpd, hsieve])]
    exact congrArg (·.waiting ++ _) hsieve

end Sys2Proof.Machine
end

section
/-!
PROOFS. The slot windows of the radio link port and its transmission (R447 to R456).
-/
namespace Sys2Proof.Machine
open Sys2Proof

theorem exec_rlTxArm (s : State) : exec .rlTxArm s = .next s.rlArm.settle := rfl
theorem exec_slotWindowTest (s : State) : exec .slotWindowTest s = .next s.slotTest.settle := rfl
theorem exec_rlTxEnd (s : State) : exec .rlTxEnd s = .next (s.txEnd rcOK 0 0).settle := rfl
theorem exec_wClose (s : State) : exec .wClose s = .next (s.wClose s.slotSlack).settle := rfl
theorem exec_rlClkLost (s : State) : exec .rlClkLost s = .next (s.txEnd rcABORTED txCLK_LOST 2).settle := rfl
theorem exec_referenceExpire (s : State) :
    exec .referenceExpire s = .next (if s.refDue s.slotSlack then s.refExpire else s).settle := rfl

/-! ### The window and its margin (R452 to R454) -/

/-- The margin d is the window's closing times the tolerance, in millionths, rounded up. -/
theorem State.slotWindow_margin {s : State} {d : Int}
    (hlo : 1000000 * (d - 1) < s.slotWindow.2.1 * s.get F.RLP.SLOT_CFG.tol)
    (hhi : s.slotWindow.2.1 * s.get F.RLP.SLOT_CFG.tol ≤ 1000000 * d) : s.slotWindow.2.2 = d := by
  have hmargin : s.slotWindow.2.2 = -((-(s.slotWindow.2.1 * s.get F.RLP.SLOT_CFG.tol)) / 1000000) := rfl
  omega

/-- The test of R453 and R454, with the time of the frame and its preamble at `rate` 64ths of a byte a tick. -/
theorem State.txFits_iff {s : State} {x : RadioTx} {d : Int} (hd : s.slotWindow.2.2 = d) :
    s.txFits x = true ↔ 2 * (s.get F.RLP.SLOT_LEN.guard : Int) < s.get F.RLP.SLOT_LEN.len ∧ s.slotWindow.1 < s.slotWindow.2.1 - d ∧
      (s.get F.RLP.CTRL.rate : Int) * s.txStart x + s.get F.RLP.CTRL.rate * 32 + 64 * (x.payload.length + 8) ≤
        s.get F.RLP.CTRL.rate * (s.slotWindow.2.1 - d) := by
  subst hd
  simp only [State.txFits, Bool.and_eq_true, decide_eq_true_eq, and_assoc, Int.mul_add]
  exact and_congr (by omega) Iff.rfl

/-- The predicted start is at no moment before the window's opening, the tick after arming, or now (R454, R457). -/
theorem State.txStart_ge (s : State) (x : RadioTx) :
    s.slotWindow.1 ≤ s.txStart x ∧ s.fromRef ((x.armedAt + 1) % 2 ^ 32) ≤ s.txStart x ∧ s.fromRef s.slotNow ≤ s.txStart x :=
  ⟨Int.le_trans (Int.le_max_left _ _) (Int.le_max_left _ _), Int.le_trans (Int.le_max_right _ _) (Int.le_max_left _ _), Int.le_max_right _ _⟩

theorem State.startDue_iff (s : State) (x : RadioTx) : s.startDue x = true ↔ s.txStart x ≤ s.fromRef s.slotNow + s.slotSlack := by
  simp [State.startDue]

/-! ### TX_STAT -/

theorem State.txStat_fields (s : State) {result cause seq : Nat} (hr : result < 256) (hc : cause < 256) (hs : seq < 256) :
    (s.txStat result cause seq).get F.RLP.TX_STAT.result = result ∧ (s.txStat result cause seq).get F.RLP.TX_STAT.cause = cause ∧
      (s.txStat result cause seq).get F.RLP.TX_STAT.seq = seq := by
  have hreg : (s.txStat result cause seq).reg R.RLP.TX_STAT = BitVec.ofNat 32 (result + 2 ^ 8 * cause + 2 ^ 16 * seq) := by
    simp [State.txStat]
  have hword : (BitVec.ofNat 32 (result + 2 ^ 8 * cause + 2 ^ 16 * seq)).toNat = result + 2 ^ 8 * cause + 2 ^ 16 * seq := by
    rw [BitVec.toNat_ofNat]
    omega
  have hget (f : Fld) (hf : f.addr = R.RLP.TX_STAT) :
      (s.txStat result cause seq).get f = (result + 2 ^ 8 * cause + 2 ^ 16 * seq) / 2 ^ f.lo % 2 ^ f.width := by
    rw [State.get, hf, hreg, Fld.get, hword, Nat.shiftRight_eq_div_pow]
  rw [hget F.RLP.TX_STAT.result rfl, hget F.RLP.TX_STAT.cause rfl, hget F.RLP.TX_STAT.seq rfl]
  simp only [F.RLP.TX_STAT.result, F.RLP.TX_STAT.cause, F.RLP.TX_STAT.seq, Fld.width]
  omega

theorem State.get_txStat (s : State) (result cause seq : Nat) (f : Fld) (h : f.addr ≠ R.RLP.TX_STAT) :
    (s.txStat result cause seq).get f = s.get f := State.get_setReg_addr _ _ _ _ h

theorem State.get_txPut (s : State) (fwd : Bool) (x : Option RadioTx) (f : Fld) : (s.txPut fwd x).get f = s.get f := rfl

/-- A buffer takes what is put there, the other keeps its frame, and what is being sent stays. -/
theorem State.txPut_radio (s : State) (fwd : Bool) (x : Option RadioTx) :
    (if fwd then (s.txPut fwd x).radio.fwd else (s.txPut fwd x).radio.ring) = x ∧
      (if fwd then (s.txPut fwd x).radio.ring else (s.txPut fwd x).radio.fwd) = (if fwd then s.radio.ring else s.radio.fwd) ∧
      (s.txPut fwd x).radio.sending = s.radio.sending := by
  cases fwd <;> exact ⟨rfl, rfl, rfl⟩

/-! ### Holding a frame back (R455) -/

/-- From `s` to `t` the frame `x` of one of the two buffers has been held back, for a cause of TX_STAT. -/
def State.heldBack (s t : State) (x : RadioTx) (fwd : Bool) (cause : Nat) : Prop :=
  t.get F.RLP.TX_STAT.result = rcTIMEOUT ∧ t.get F.RLP.TX_STAT.cause = cause ∧ t.get F.RLP.TX_STAT.seq = 0 ∧
    t.get F.RLP.TXCNT.slot_miss = satAdd F.RLP.TXCNT.slot_miss.max (s.get F.RLP.TXCNT.slot_miss) 1 ∧ t.on (eventBit pageRLP 1) = true ∧
    t.get F.RLP.TXSEQ.next = s.get F.RLP.TXSEQ.next ∧
    (if fwd then t.radio.fwd else t.radio.ring) = (if s.on F.RLP.SLOT_CFG.retry then some { x with waits := true } else none)

section
variable {s t : State} {x : RadioTx} {fwd : Bool} {cause : Nat}

/-- A state that agrees with `s` on what holding a frame back reads will do for `s`. -/
theorem State.heldBack.of_same {s' : State} (hmiss : s'.get F.RLP.TXCNT.slot_miss = s.get F.RLP.TXCNT.slot_miss)
    (hseq : s'.get F.RLP.TXSEQ.next = s.get F.RLP.TXSEQ.next) (hretry : s'.get F.RLP.SLOT_CFG.retry = s.get F.RLP.SLOT_CFG.retry)
    (h : s'.heldBack t x fwd cause) : s.heldBack t x fwd cause := by
  rwa [State.heldBack, hmiss, hseq, State.on_congr hretry] at h

theorem State.heldBack.settle (h : s.heldBack t x fwd cause) : s.heldBack t.settle x fwd cause := by
  simpa (disch := decide) only [State.heldBack, State.on_settle, State.get_settle, State.settle_radio] using h

theorem State.txHold_heldBack (hc : cause < 256) : s.heldBack (s.txHold x fwd cause) x fwd cause := by
  obtain ⟨hresult, hcause, hseq⟩ := s.txStat_fields (result := rcTIMEOUT) (seq := 0) (by decide) hc (by decide)
  let u := (s.txStat rcTIMEOUT cause 0).inc F.RLP.TXCNT.slot_miss
  have hirq (f : Fld) (h : f.addr / 0x1000 = 0x40016) : (s.txHold x fwd cause).get f = (u.irq pageRLP 1).get f := by
    refine State.get_log _ _ _ _ f ?_ ?_ <;> intro hf <;> exact absurd (hf ▸ h) (by decide)
  have hkeep (f : Fld) (h : f.addr / 0x1000 = 0x40016) (hraw : f.addr ≠ R.HDR.IRQ_RAW + pageBase pageRLP) :
      (s.txHold x fwd cause).get f = u.get f := (hirq f h).trans (State.get_irq _ _ _ f hraw)
  have hstat (f : Fld) (h : f.addr = R.RLP.TX_STAT) : (s.txHold x fwd cause).get f = (s.txStat rcTIMEOUT cause 0).get f :=
    (hkeep f (by rw [h]; decide) (by rw [h]; decide)).trans (State.get_inc_addr _ _ f (by rw [h]; decide))
  have hevent : (s.txHold x fwd cause).get (eventBit pageRLP 1) = 1 :=
    (hirq _ (by decide)).trans (State.get_irq_eventBit _ _ _ (by decide))
  refine ⟨(hstat _ rfl).trans hresult, (hstat _ rfl).trans hcause, (hstat _ rfl).trans hseq, ?miss, by simp [State.on, hevent], ?next, ?buffer⟩
  case miss =>
    rw [hkeep _ (by decide) (by decide), State.get_inc _ _ (by decide), State.get_txStat _ _ _ _ _ (by decide)]
  case next =>
    rw [hkeep _ (by decide) (by decide), State.get_inc_addr _ _ _ (by decide), State.get_txStat _ _ _ _ _ (by decide)]
  case buffer =>
    rw [State.txHold, (State.txPut_radio _ _ _).1, State.on_congr]
    simp (disch := decide) only [State.get_log, State.get_irq, State.get_inc_addr, State.get_txStat]

end

/-! ### Arming (R448, R454) -/

/-- The frame of a buffer once it is armed at count `n`. -/
def RadioTx.armedFrom (x : RadioTx) (n : Nat) : RadioTx := { x with armed := true, armedAt := n }

/-- The register that holds the cookie of the ring frame is written where a ring frame is armed. -/
def State.noteCookie (s : State) (x : RadioTx) (fwd : Bool) : State :=
  if fwd then s else s.setReg R.RLP.TX_COOKIE (BitVec.ofNat 32 x.cookie)

section
variable {s : State} {x : RadioTx} {fwd : Bool}

theorem State.noteCookie_get (f : Fld) (h : f.addr ≠ R.RLP.TX_COOKIE) : (s.noteCookie x fwd).get f = s.get f := by
  cases fwd
  · exact State.get_setReg_addr _ _ _ _ h
  · rfl

theorem State.noteCookie_changesOnly : s.changesOnly (s.noteCookie x fwd) [R.RLP.TX_COOKIE] := by
  cases fwd
  · exact ⟨fun a ha => .inr ((State.reg_setReg ..).trans (if_neg (by simpa using ha))), rfl⟩
  · exact ⟨fun _ _ => .inr rfl, rfl⟩

theorem State.txArm_eq : s.txArm x fwd =
    if s.on F.RLP.STAT.ref_valid then (s.noteCookie x fwd).txPut fwd (some (x.armedFrom s.slotNow))
    else (s.noteCookie x fwd).txHold (x.armedFrom s.slotNow) fwd txNO_REF := by
  rw [← State.on_congr (State.noteCookie_get (x := x) (fwd := fwd) F.RLP.STAT.ref_valid (by decide))]
  rfl

/-- The ring frame is armed before the forward frame. -/
theorem State.rlArm_cold (hon : s.pdOn 1 = true) (hx : x.armed = false)
    (h : if fwd then s.radio.fwd = some x ∧ ∀ y, s.radio.ring = some y → y.armed = true else s.radio.ring = some x) :
    s.rlArm = s.txArm x fwd := by
  cases fwd with
  | false =>
    replace h : s.radio.ring = some x := h
    simp [State.rlArm, hon, h, hx, Option.filter_some]
  | true =>
    obtain ⟨hfwd, hring⟩ : s.radio.fwd = some x ∧ ∀ y, s.radio.ring = some y → y.armed = true := h
    have hnone : s.radio.ring.filter (fun t => !t.armed) = none := by
      cases hr : s.radio.ring with
      | none => rfl
      | some y => simp [hring y hr]
    simp [State.rlArm, hon, hnone, hfwd, hx, Option.filter_some]

theorem State.reg_txHold_cookie (cause : Nat) : (s.txHold x fwd cause).reg R.RLP.TX_COOKIE = s.reg R.RLP.TX_COOKIE := by
  refine (State.reg_log _ _ _ _ _ (by decide) (by decide)).trans ?_
  simp (disch := decide) [State.irq, State.inc, State.addSat, State.txStat, if_neg]

theorem State.noteCookie_cookie : fwd = false → (s.noteCookie x fwd).reg R.RLP.TX_COOKIE = BitVec.ofNat 32 x.cookie := by
  rintro rfl
  exact (State.reg_setReg ..).trans (if_pos rfl)

/-- With a valid reference an armed frame stays in its buffer, and nothing but its cookie is noted. -/
theorem State.rlTxArm_valid (hon : s.pdOn 1 = true) (hx : x.armed = false)
    (h : if fwd then s.radio.fwd = some x ∧ ∀ y, s.radio.ring = some y → y.armed = true else s.radio.ring = some x)
    (href : s.on F.RLP.STAT.ref_valid = true) :
    ∃ t, exec .rlTxArm s = .next t ∧ (fwd = false → t.reg R.RLP.TX_COOKIE = BitVec.ofNat 32 x.cookie) ∧
      (if fwd then t.radio.fwd else t.radio.ring) = some (x.armedFrom s.slotNow) ∧ s.changesOnly { t with radio := s.radio } [R.RLP.TX_COOKIE] := by
  refine ⟨_, exec_rlTxArm s, ?_⟩
  rw [State.rlArm_cold hon hx h, State.txArm_eq, if_pos href]
  refine ⟨fun hf => ?cookie, ?buffer, ?rest⟩
  case cookie => exact (State.reg_settle _ _ (by decide)).trans (State.noteCookie_cookie hf)
  case buffer =>
    rw [State.settle_radio]
    exact (State.txPut_radio _ _ _).1
  case rest =>
    refine State.changesOnly_settle ?_
    cases fwd <;> exact State.noteCookie_changesOnly

/-- With no valid reference a frame is held back as it is armed. -/
theorem State.rlTxArm_noRef (hon : s.pdOn 1 = true) (hx : x.armed = false)
    (h : if fwd then s.radio.fwd = some x ∧ ∀ y, s.radio.ring = some y → y.armed = true else s.radio.ring = some x)
    (href : s.on F.RLP.STAT.ref_valid = false) :
    ∃ t, exec .rlTxArm s = .next t ∧ (fwd = false → t.reg R.RLP.TX_COOKIE = BitVec.ofNat 32 x.cookie) ∧
      s.heldBack t (x.armedFrom s.slotNow) fwd txNO_REF := by
  refine ⟨_, exec_rlTxArm s, ?_⟩
  rw [State.rlArm_cold hon hx h, State.txArm_eq, if_neg (by simp [href])]
  refine ⟨fun hf => ?cookie, ?held⟩
  case cookie => exact ((State.reg_settle _ _ (by decide)).trans (State.reg_txHold_cookie _)).trans (State.noteCookie_cookie hf)
  case held =>
    exact ((State.txHold_heldBack (by decide)).of_same (State.noteCookie_get _ (by decide)) (State.noteCookie_get _ (by decide))
      (State.noteCookie_get _ (by decide))).settle

end

/-! ### The test at the predicted start (R453, R454), and sending (R447, R449) -/

section
variable {s : State} {x : RadioTx} {fwd : Bool}

/-- The ring frame is tested before the forward frame. -/
theorem State.txNext_live (ha : x.armed = true) (hw : x.waits = false)
    (h : if fwd then s.radio.fwd = some x ∧ ∀ y, s.radio.ring = some y → y.armed = false ∨ y.waits = true else s.radio.ring = some x) :
    s.txNext = some (x, fwd) := by
  cases fwd with
  | false =>
    replace h : s.radio.ring = some x := h
    simp [State.txNext, h, ha, hw, Option.filter_some]
  | true =>
    obtain ⟨hfwd, hring⟩ : s.radio.fwd = some x ∧ ∀ y, s.radio.ring = some y → y.armed = false ∨ y.waits = true := h
    have hnone : s.radio.ring.filter (fun t => t.armed && !t.waits) = none := by
      cases hr : s.radio.ring with
      | none => rfl
      | some y => obtain hy | hy := hring y hr <;> simp [hy]
    simp [State.txNext, hnone, hfwd, ha, hw, Option.filter_some]

theorem State.slotTest_eq (hon : s.pdOn 1 = true) (hsend : s.radio.sending = none) (href : s.on F.RLP.STAT.ref_valid = true)
    (hnext : s.txNext = some (x, fwd)) :
    s.slotTest = if !s.startDue x then s else if s.txFits x then s.txSend x fwd else s.txHold x fwd txGUARD := by
  simp [State.slotTest, hon, hsend, href, hnext]

/-- Sending takes a sequence number, notes when the frame starts, and hands the frame to the pins; it stays in its buffer. -/
theorem State.txSend_fields :
    (s.txSend x fwd).radio = { s.radio with sending := some (s.get F.RLP.TXSEQ.next, fwd) } ∧
      (s.txSend x fwd).get F.RLP.TXSEQ.next = (s.get F.RLP.TXSEQ.next + 1) % 256 ∧
      (s.txSend x fwd).resp = ⟨x.bytes (s.get F.RLP.TXSEQ.next), 0⟩ ∧
      (s.txSend x fwd).reg R.RLP.TX_WHEN = s.reg R.RLP.BCN_TIME + BitVec.ofInt 32 (s.txStart x) := by
  refine ⟨State.trig_radio _ _, ?next, State.trig_resp _ _, ?start⟩
  case next => exact (State.get_trig _ _ _ (by decide)).trans (State.get_put _ _ _ (by decide))
  case start =>
    refine (State.reg_trig _ _ _ (by decide)).trans ((State.reg_put _ _ _ _).trans ((if_neg (by decide)).trans ?_))
    exact (State.reg_setReg ..).trans (if_pos rfl)

end

/-! ### The end of a frame that is being sent (R447, R448, R456) -/

section
variable {s : State} {fwd : Bool} {result cause seq bit : Nat}

/-- What the end of a sending records: its result, the event, and where it was sent whole the count. -/
def State.txRecorded (s : State) (result cause seq bit : Nat) : State :=
  if result = rcOK then ((s.txStat result cause seq).irq pageRLP bit).inc F.RLP.TXCNT.sent else (s.txStat result cause seq).irq pageRLP bit

theorem State.txRecorded_radio : (s.txRecorded result cause seq bit).radio = s.radio := by
  unfold State.txRecorded
  split <;> rfl

theorem State.txRecorded_get (f : Fld) (h : f.addr ≠ F.RLP.TXCNT.sent.addr) :
    (s.txRecorded result cause seq bit).get f = ((s.txStat result cause seq).irq pageRLP bit).get f := by
  unfold State.txRecorded
  split
  · exact State.get_inc_addr _ _ _ h
  · rfl

theorem State.txRecorded_sent : (s.txRecorded result cause seq bit).get F.RLP.TXCNT.sent =
    if result = rcOK then satAdd F.RLP.TXCNT.sent.max (s.get F.RLP.TXCNT.sent) 1 else s.get F.RLP.TXCNT.sent := by
  have hcount : ((s.txStat result cause seq).irq pageRLP bit).get F.RLP.TXCNT.sent = s.get F.RLP.TXCNT.sent := by
    simp (disch := decide) only [State.get_irq, State.get_txStat]
  unfold State.txRecorded
  split
  · rw [State.get_inc _ _ (by decide), hcount]
  · exact hcount

theorem State.txEnd_eq (h : s.radio.sending = some (seq, fwd)) : s.txEnd result cause bit =
    State.trig { (s.txRecorded result cause seq bit).txPut fwd none with
      radio := { ((s.txRecorded result cause seq bit).txPut fwd none).radio with
        sending := none, fell := some (s.txRecorded result cause seq bit).slotNow } } 4 := by
  simp only [State.txEnd, h]
  rfl

theorem State.txEnd_radio (h : s.radio.sending = some (seq, fwd)) :
    (s.txEnd result cause bit).radio.sending = none ∧
      (if fwd then (s.txEnd result cause bit).radio.fwd else (s.txEnd result cause bit).radio.ring) = none ∧
      (if fwd then (s.txEnd result cause bit).radio.ring else (s.txEnd result cause bit).radio.fwd) =
        (if fwd then s.radio.ring else s.radio.fwd) := by
  rw [State.txEnd_eq h, State.trig_radio, ← State.txRecorded_radio (s := s) (result := result) (cause := cause) (seq := seq) (bit := bit)]
  cases fwd <;> exact ⟨rfl, rfl, rfl⟩

theorem State.txEnd_get (h : s.radio.sending = some (seq, fwd)) (f : Fld) (hf : f.addr ≠ R.SNAP.TRIG_STAT) :
    (s.txEnd result cause bit).get f = (s.txRecorded result cause seq bit).get f := by
  rw [State.txEnd_eq h]
  exact State.get_trig _ _ _ hf

/-- A frame's end: its result, cause and number, the event, its buffer free, and a count where it was sent whole. -/
theorem State.txEnd_settled (h : s.radio.sending = some (seq, fwd)) (hr : result < 256) (hc : cause < 256) (hs : seq < 256) (hbit : bit < 32) :
    let t := (s.txEnd result cause bit).settle
    t.get F.RLP.TX_STAT.result = result ∧ t.get F.RLP.TX_STAT.cause = cause ∧ t.get F.RLP.TX_STAT.seq = seq ∧
      t.on (eventBit pageRLP bit) = true ∧ t.radio.sending = none ∧ (if fwd then t.radio.fwd else t.radio.ring) = none ∧
      (if fwd then t.radio.ring else t.radio.fwd) = (if fwd then s.radio.ring else s.radio.fwd) ∧
      t.get F.RLP.TXSEQ.next = s.get F.RLP.TXSEQ.next ∧
      t.get F.RLP.TXCNT.sent = if result = rcOK then satAdd F.RLP.TXCNT.sent.max (s.get F.RLP.TXCNT.sent) 1 else s.get F.RLP.TXCNT.sent := by
  intro t
  obtain ⟨hresult, hcause, hseq⟩ := s.txStat_fields hr hc hs
  have hget (f : Fld) (hf : f.addr / 0x1000 = 0x40016) : t.get f = (s.txRecorded result cause seq bit).get f := by
    refine (State.get_settle _ _ ?_).trans (State.txEnd_get h f fun ha => absurd (ha ▸ hf) (by decide))
    exact settledReg_of_rlp hf
  have hirq (f : Fld) (hf : f.addr / 0x1000 = 0x40016) (hcnt : f.addr ≠ F.RLP.TXCNT.sent.addr) :
      t.get f = ((s.txStat result cause seq).irq pageRLP bit).get f := (hget f hf).trans (State.txRecorded_get f hcnt)
  have hstat (f : Fld) (hf : f.addr = R.RLP.TX_STAT) : t.get f = (s.txStat result cause seq).get f :=
    (hirq f (by rw [hf]; decide) (by rw [hf]; decide)).trans (State.get_irq _ _ _ f (by rw [hf]; decide))
  have hevt : (R.HDR.IRQ_RAW + pageBase pageRLP) / 0x1000 = 0x40016 ∧ R.HDR.IRQ_RAW + pageBase pageRLP ≠ F.RLP.TXCNT.sent.addr := by decide
  have hevent : t.get (eventBit pageRLP bit) = 1 := (hirq _ hevt.1 hevt.2).trans
    (State.get_irq_eventBit _ _ _ hbit)
  obtain ⟨hsending, hbuffer, hother⟩ := State.txEnd_radio (result := result) (cause := cause) (bit := bit) h
  have hradio : t.radio = (s.txEnd result cause bit).radio := State.settle_radio _
  rw [hradio]
  refine ⟨(hstat _ rfl).trans hresult, (hstat _ rfl).trans hcause, (hstat _ rfl).trans hseq, by simp [State.on, hevent], hsending, hbuffer,
    hother, ?next, (hget _ rfl).trans State.txRecorded_sent⟩
  rw [hirq _ rfl (by decide), State.get_irq _ _ _ _ (by decide), State.get_txStat _ _ _ _ _ (by decide)]

end

/-! ### The reference's expiry (R451, R454) -/

section
variable {s : State} {x : RadioTx} {fwd : Bool}

/-- What the expiry makes of the frame in one buffer: it is held back if it is armed, waits for no beacon and is not being sent. -/
def State.staleBuffer (fwd : Bool) (s : State) : State :=
  match (if fwd then s.radio.fwd else s.radio.ring) with
  | some x => if x.armed && !x.waits && decide (s.radio.sending.map (·.2) ≠ some fwd) then s.txHold x fwd txSTALE else s
  | none => s

theorem State.staleBuffer_none (h : (if fwd then s.radio.fwd else s.radio.ring) = none) : s.staleBuffer fwd = s := by
  rw [State.staleBuffer, h]

theorem State.staleBuffer_some (h : (if fwd then s.radio.fwd else s.radio.ring) = some x) : s.staleBuffer fwd =
    if x.armed && !x.waits && decide (s.radio.sending.map (·.2) ≠ some fwd) then s.txHold x fwd txSTALE else s := by
  rw [State.staleBuffer, h]

theorem State.staleBuffer_cases (s : State) (fwd : Bool) : s.staleBuffer fwd = s ∨ ∃ x, s.staleBuffer fwd = s.txHold x fwd txSTALE := by
  unfold State.staleBuffer
  split
  · split
    · exact .inr ⟨_, rfl⟩
    · exact .inl rfl
  · exact .inl rfl

/-- Holding a frame back keeps the other buffer. -/
theorem State.staleBuffer_other : (if fwd then (s.staleBuffer fwd).radio.ring else (s.staleBuffer fwd).radio.fwd) =
    if fwd then s.radio.ring else s.radio.fwd := by
  obtain h | ⟨y, h⟩ := s.staleBuffer_cases fwd <;> rw [h]
  rw [State.txHold, (State.txPut_radio _ _ _).2.1, State.log_radio]
  rfl

theorem State.refExpire_buffers (href : s.on F.RLP.STAT.ref_valid = true) :
    s.refExpire = ((s.put F.RLP.STAT.ref_valid 0).staleBuffer false).staleBuffer true := by
  rw [State.refExpire, if_pos href]
  rfl

/-- Where one buffer alone holds a frame, the expiry is what it makes of that buffer. -/
theorem State.refExpire_alone (href : s.on F.RLP.STAT.ref_valid = true)
    (h : (if fwd then s.radio.ring else s.radio.fwd) = none) : s.refExpire = (s.put F.RLP.STAT.ref_valid 0).staleBuffer fwd := by
  rw [State.refExpire_buffers href]
  cases fwd with
  | false => exact State.staleBuffer_none ((State.staleBuffer_other (fwd := false)).trans h)
  | true => exact congrArg (State.staleBuffer true) (State.staleBuffer_none h)

/-- The reference is no longer valid once it has expired. -/
theorem State.staleBuffer_ref (h : s.get F.RLP.STAT.ref_valid = 0) : (s.staleBuffer fwd).settle.on F.RLP.STAT.ref_valid = false := by
  have hzero : (s.staleBuffer fwd).get F.RLP.STAT.ref_valid = 0 := by
    obtain hs | ⟨y, hs⟩ := s.staleBuffer_cases fwd <;> rw [hs]
    · exact h
    · simp (disch := decide) only [State.txHold, State.get_txPut, State.get_log, State.get_irq, State.get_inc_addr, State.get_txStat, h]
  rw [State.on_settle _ _ (by decide), State.on, hzero]
  rfl

theorem State.refDue_of_old {slack : Nat} (href : s.on F.RLP.STAT.ref_valid = true)
    (h : 8000 * s.get F.RLP.SLOT_CFG.bcn_max ≤ (s.reg R.RLP.ST_NOW - s.reg R.RLP.BCN_TIME).toNat + slack) : s.refDue slack = true := by
  rw [State.refDue, href, decide_eq_true h]
  rfl

/-- The expiry of a reference while one buffer alone holds a frame. -/
theorem State.referenceExpire_alone (href : s.on F.RLP.STAT.ref_valid = true)
    (hold : 8000 * s.get F.RLP.SLOT_CFG.bcn_max ≤ (s.reg R.RLP.ST_NOW - s.reg R.RLP.BCN_TIME).toNat + s.slotSlack)
    (hx : (if fwd then s.radio.fwd else s.radio.ring) = some x) (hother : (if fwd then s.radio.ring else s.radio.fwd) = none) :
    ∃ t, exec .referenceExpire s = .next t ∧ t.on F.RLP.STAT.ref_valid = false ∧
      (x.armed = true → x.waits = false → s.radio.sending = none → s.heldBack t x fwd txSTALE) ∧
      (x.armed = false ∨ x.waits = true → t.radio = s.radio) := by
  let u := s.put F.RLP.STAT.ref_valid 0
  have hu : (if fwd then u.radio.fwd else u.radio.ring) = some x := hx
  have hrun : exec .referenceExpire s = .next (u.staleBuffer fwd).settle := by
    rw [exec_referenceExpire, if_pos (State.refDue_of_old href hold), State.refExpire_alone href hother]
  refine ⟨_, hrun, State.staleBuffer_ref (State.get_put _ _ _ (by decide)), fun ha hw hs => ?held, fun hidle => ?idle⟩
  case held =>
    have hsend : u.radio.sending = none := hs
    rw [State.staleBuffer_some hu, if_pos (by simp [ha, hw, hsend])]
    exact ((State.txHold_heldBack (by decide)).of_same (State.get_put_addr _ _ _ _ (by decide)) (State.get_put_addr _ _ _ _ (by decide))
      (State.get_put_addr _ _ _ _ (by decide))).settle
  case idle =>
    rw [State.staleBuffer_some hu, if_neg (by obtain h | h := hidle <;> simp [h])]
    exact State.settle_radio u

end

/-! ### The test that is due, and the closing of the window (R454, R456) -/

section
variable {s : State} {x : RadioTx} {fwd : Bool} (hon : s.pdOn 1 = true) (hsend : s.radio.sending = none)
  (href : s.on F.RLP.STAT.ref_valid = true) (hnext : s.txNext = some (x, fwd))
include hon hsend href hnext

theorem State.slotWindowTest_early (h : s.fromRef s.slotNow + s.slotSlack < s.txStart x) : exec .slotWindowTest s = .next s.settle := by
  rw [exec_slotWindowTest, State.slotTest_eq hon hsend href hnext, if_pos]
  simpa [← Bool.not_eq_true, State.startDue_iff] using h

theorem State.slotWindowTest_sends (h : s.txStart x ≤ s.fromRef s.slotNow + s.slotSlack) (hfits : s.txFits x = true) :
    exec .slotWindowTest s = .next (s.txSend x fwd).settle := by
  rw [exec_slotWindowTest, State.slotTest_eq hon hsend href hnext, if_neg (by simpa [State.startDue_iff] using h), if_pos hfits]

theorem State.slotWindowTest_holds (h : s.txStart x ≤ s.fromRef s.slotNow + s.slotSlack) (hfits : s.txFits x = false) :
    exec .slotWindowTest s = .next (s.txHold x fwd txGUARD).settle := by
  rw [exec_slotWindowTest, State.slotTest_eq hon hsend href hnext, if_neg (by simpa [State.startDue_iff] using h), if_neg (by simp [hfits])]

end

theorem State.wClose_due {s : State} (h : s.slotWindow.2.1 ≤ s.fromRef s.slotNow + s.slotSlack) :
    exec .wClose s = .next (s.txEnd rcABORTED txCUT 2).settle := by
  rw [exec_wClose, State.wClose, if_pos (by simpa [State.closeDue] using h)]

theorem State.wClose_early {s : State} (h : s.fromRef s.slotNow + s.slotSlack < s.slotWindow.2.1) : exec .wClose s = .next s.settle := by
  rw [exec_wClose, State.wClose, if_neg (by simpa [State.closeDue] using h)]

/-! ### The radio link port -/

/-- Settles O52: a received frame goes by the checks of `State.rlReceive` in their order, and a frame to send by the step it is at: armed, tested
at its predicted start, sent and ended, or held back. -/
theorem radioPort : Obligations.RadioPort := by
  unfold Obligations.RadioPort
  constructor
  · intro s b crc whole ticks ends error len armed sized during good named beacon u straight frame
    have harmed : armed → s.rlArmed = true := s.rlArmed_iff.2
    have hcold : ¬ armed → s.rlArmed = false := fun h => Bool.eq_false_iff.2 (mt s.rlArmed_iff.1 h)
    have hclear : ¬ during → s.duringSend (s.reg R.RLP.ST_NOW - ticks) = false := Bool.eq_false_iff.2
    have hends (t : State) (h : s.rlReceive (b ++ crc) whole ticks.toNat = t) : ends t := h ▸ exec_rlRxFrame _ whole ticks s
    have hplain : ¬ beacon → u.isBeacon b = false := fun h => Bool.eq_false_iff.2 (mt (s.isBeacon_inc_frames b).1 h)
    have hstraight : (u.pdOn 11 = true ∧ u.sieve.queue = [] ∧ u.sieve.waiting = []) ↔ straight := by
      rw [State.pdOn_inc_frames]
      rfl
    refine ⟨fun h => hends _ (State.rlReceive_of_off h), fun hon h => hends _ (State.rlReceive_lost hon (h.imp_left hcold)),
      State.duringSend_of_sending s _, fun ha hd h => hends _ (State.rlReceive_runt (harmed ha) (hclear hd) h),
      fun ha hd hmin h => hends _ (State.rlReceive_size (harmed ha) (hclear hd) hmin ?size), ?crc, ?straight, ?sieve, ?beacon, ?wake, ?rise, rfl⟩
    case size =>
      cases hwhole : whole with
      | false => exact .inr rfl
      | true => exact .inl (Nat.lt_of_not_le fun hmax => h ⟨hmin, hmax, hwhole⟩)
    case crc =>
      rintro ha hd ⟨hmin, hmax, rfl⟩ hcrc h
      exact hends _ (State.rlReceive_badCrc (harmed ha) (hclear hd) hmin hmax hcrc h)
    case straight =>
      rintro ⟨ha, hd, ⟨hmin, hmax, rfl⟩, hcrc, h⟩ hb hs
      refine hends _ ((State.rlReceive_plain (harmed ha) (hclear hd) hmin hmax hcrc h (hplain hb)).trans ?_)
      exact State.rlDeliver_straight (hstraight.2 hs)
    case sieve =>
      rintro ⟨ha, hd, ⟨hmin, hmax, rfl⟩, hcrc, h⟩ hb hs
      refine hends _ ((State.rlReceive_plain (harmed ha) (hclear hd) hmin hmax hcrc h (hplain hb)).trans ?_)
      exact State.rlDeliver_sieve (mt hstraight.1 hs)
    case beacon =>
      rintro ⟨ha, hd, ⟨hmin, hmax, rfl⟩, hcrc, h⟩ hb
      refine ⟨_, hends _ (State.rlReceive_beacon (harmed ha) (hclear hd) hmin hmax hcrc h ((s.isBeacon_inc_frames b).2 hb)), ?_⟩
      exact s.beacon_delivered b _
    case wake =>
      intro h
      rw [exec_rlWake, execRlWake, if_neg (by obtain h | h := h <;> simp [h])]
    case rise =>
      intro hon hw
      rw [exec_rlWake, execRlWake, if_pos (by simp [hon, hw])]
  · intro s x fwd off len guard rate open_ close n start holds slack ready cold y cookie
    have hslack : slack = s.slotSlack := by simp only [slack, State.slotSlack]; split <;> rfl
    refine ⟨fun d hlo hhi => State.txFits_iff (State.slotWindow_margin hlo hhi), s.txStart_ge x, ?early, ?sends, ?guards, ?arms, ?noRef, ?ends,
      ?stays, ?expires⟩
    case early =>
      rintro ⟨hon, hsend, href, ha, hw, hx⟩ hdue
      exact State.slotWindowTest_early hon hsend href (State.txNext_live ha hw hx) (hslack ▸ hdue)
    case sends =>
      rintro ⟨hon, hsend, href, ha, hw, hx⟩ hdue hfits
      obtain ⟨hradio, hseq, hresp, hwhen⟩ := State.txSend_fields (s := s) (x := x) (fwd := fwd)
      refine ⟨_, State.slotWindowTest_sends hon hsend href (State.txNext_live ha hw hx) (hslack ▸ hdue) hfits, ?_⟩
      rw [State.settle_radio, State.settle_resp, State.get_settle _ _ (by decide), State.reg_settle _ _ (by decide), hradio]
      exact ⟨rfl, hseq, hresp, hwhen, rfl, rfl⟩
    case guards =>
      rintro ⟨hon, hsend, href, ha, hw, hx⟩ hdue hfits
      exact ⟨_, State.slotWindowTest_holds hon hsend href (State.txNext_live ha hw hx) (hslack ▸ hdue) hfits, (State.txHold_heldBack (by decide)).settle⟩
    case arms =>
      rintro ⟨hon, hx, h⟩ href
      exact State.rlTxArm_valid hon hx h href
    case noRef =>
      rintro ⟨hon, hx, h⟩ href
      exact State.rlTxArm_noRef hon hx h href
    case ends =>
      intro i result cause bit seq hi hsend hseq hclose
      have hsettled {result cause bit : Nat} (hr : result < 256) (hc : cause < 256) (hb : bit < 32) :=
        State.txEnd_settled (result := result) (cause := cause) (bit := bit) hsend hr hc hseq hb
      simp only [List.mem_cons, List.not_mem_nil, or_false, Prod.mk.injEq] at hi
      obtain ⟨rfl, rfl, rfl, rfl⟩ | ⟨rfl, rfl, rfl, rfl⟩ | ⟨rfl, rfl, rfl, rfl⟩ := hi
      · exact ⟨_, exec_rlTxEnd s, hsettled (by decide) (by decide) (by decide)⟩
      · exact ⟨_, State.wClose_due (hslack ▸ hclose rfl), hsettled (by decide) (by decide) (by decide)⟩
      · exact ⟨_, exec_rlClkLost s, hsettled (by decide) (by decide) (by decide)⟩
    case stays => exact fun h => State.wClose_early (hslack ▸ h)
    case expires =>
      intro href hold h
      have hbuffers : (if fwd then s.radio.fwd else s.radio.ring) = some x ∧ (if fwd then s.radio.ring else s.radio.fwd) = none := by
        cases fwd <;> exact h
      exact State.referenceExpire_alone href hold hbuffers.1 hbuffers.2

end Sys2Proof.Machine
end

section
/-!
PROOFS. What the completion of a descriptor leaves alone: the cartridge host, and the registers of every page but the Trellis's own, those
that record refused and failing accesses, and the trace's.
-/
namespace Sys2Proof.Machine
open Sys2Proof

/-- The pages whose registers the completion of a descriptor may change (R82, R253, R272, R379, R396, R398, R550). -/
def trellisPages : List Nat := [pagePWR, pageSMPU, pageTRL, pageRING, pageTRC]

/-- Of `s`, the state `t` keeps the registers of all pages but `trellisPages`, and the cartridge host. -/
structure State.OnlyTrellis (s t : State) : Prop where
  reg : ∀ a, pageOf a ∉ trellisPages → t.reg a = s.reg a
  gcb : t.gcb = s.gcb

/-- What changes no register and not the cartridge host. -/
theorem State.OnlyTrellis.of_regs {s t : State} (h : t.regs = s.regs) (hgcb : t.gcb = s.gcb) : s.OnlyTrellis t :=
  ⟨fun a _ => congrArg (tabGet 0 · a) h, hgcb⟩

theorem State.OnlyTrellis.refl (s : State) : s.OnlyTrellis s := .of_regs rfl rfl

theorem State.OnlyTrellis.trans {s t u : State} (h : s.OnlyTrellis t) (h' : t.OnlyTrellis u) : s.OnlyTrellis u :=
  ⟨fun a ha => (h'.reg a ha).trans (h.reg a ha), h'.gcb.trans h.gcb⟩

theorem State.OnlyTrellis.ite {s t u : State} {c : Prop} [Decidable c] (ht : s.OnlyTrellis t) (hu : s.OnlyTrellis u) :
    s.OnlyTrellis (if c then t else u) := by
  split
  · exact ht
  · exact hu

/-- The same of a state that comes with a halt cause. -/
theorem State.OnlyTrellis.ite_fst {s : State} {p q : State × Nat} {c : Prop} [Decidable c] (hp : s.OnlyTrellis p.1) (hq : s.OnlyTrellis q.1) :
    s.OnlyTrellis (if c then p else q).1 := by
  split
  · exact hp
  · exact hq

theorem State.OnlyTrellis.get {s t : State} (h : s.OnlyTrellis t) (f : Fld) (hf : pageOf f.addr ∉ trellisPages) : t.get f = s.get f := by
  rw [State.get, h.reg _ hf, State.get]

/-! ### Registers and fields on these pages -/

section
variable {s t : State} (h : s.OnlyTrellis t)
include h

theorem State.OnlyTrellis.setReg (a : Nat) (w : Word) (ha : pageOf a ∈ trellisPages) : s.OnlyTrellis (t.setReg a w) := by
  refine h.trans ⟨fun b hb => (State.reg_setReg t a w b).trans (if_neg ?_), rfl⟩
  rintro rfl
  exact hb ha

theorem State.OnlyTrellis.put (f : Fld) (v : Nat) (hf : pageOf f.addr ∈ trellisPages) : s.OnlyTrellis (t.put f v) := h.setReg _ _ hf

theorem State.OnlyTrellis.addSat (f : Fld) (k : Nat) (hf : pageOf f.addr ∈ trellisPages) : s.OnlyTrellis (t.addSat f k) := h.put _ _ hf

theorem State.OnlyTrellis.inc (f : Fld) (hf : pageOf f.addr ∈ trellisPages) : s.OnlyTrellis (t.inc f) := h.addSat _ _ hf

theorem State.OnlyTrellis.irq (p b : Nat) (hp : pageOf (R.HDR.IRQ_RAW + pageBase p) ∈ trellisPages) : s.OnlyTrellis (t.irq p b) :=
  h.put _ _ hp

end

/-- The records of the 96 rings lie on the RING page. -/
theorem pageOf_ring {f : Fld} {n : Nat} (h : f.addr / 32 = R.RING.CFG / 32) (hn : n < 96) : pageOf (f.ring n).addr ∈ trellisPages := by
  have hpage : pageOf (f.ring n).addr = pageRING := by
    simp only [R.RING.CFG, pageOf, pageRING, Fld.ring, Fld.idx] at h ⊢
    omega
  rw [hpage]
  decide

/-- The registers of the 32 interrupt groups lie on the RING page. -/
theorem pageOf_group {f : Fld} {g : Nat} (h : f.addr / 8 = R.RING.GCFG / 8) (hg : g < 32) : pageOf (f.idx 8 g).addr ∈ trellisPages := by
  have hpage : pageOf (f.idx 8 g).addr = pageRING := by
    simp only [R.RING.GCFG, pageOf, pageRING, Fld.idx] at h ⊢
    omega
  rw [hpage]
  decide

/-! ### A refused or failing access of the Trellis (R82, R253, R272) -/

theorem State.integrity_onlyTrellis (s : State) (f : Fld) (a : Nat) (h : pageOf f.addr ∈ trellisPages) : s.OnlyTrellis (s.integrity f a) := by
  have hcount : s.OnlyTrellis (s.inc f) := (State.OnlyTrellis.refl s).inc f h
  have haddr := (hcount.setReg R.SMPU.INTADDR (BitVec.ofNat 32 a) (by decide)).put F.SMPU.INTEG.addr_valid 1 (by decide)
  exact (State.OnlyTrellis.irq (.ite hcount haddr) pageSMPU 8 (by decide)).trans (.of_regs rfl rfl)

theorem State.offAccess_onlyTrellis (s : State) (ini : Ini) (w : World) (wr : Bool) (a : Nat) : s.OnlyTrellis (s.offAccess ini w wr a) := by
  refine State.OnlyTrellis.inc (.ite ?_ ?_) _ (by decide)
  · exact (State.OnlyTrellis.refl s).put _ _ (by decide)
  · exact (((State.OnlyTrellis.refl s).setReg _ _ (by decide)).setReg _ _ (by decide)).irq _ _ (by decide)

/-- The registers of the eight channels' refusals lie on the SMPU page. -/
theorem State.mpuRecord_onlyTrellis (s : State) (ch sub region : Nat) (w : World) (write fetch : Bool) (a : Nat) (h : ch < 8) :
    s.OnlyTrellis (s.mpuRecord ch sub region w write fetch a) := by
  have hpage : ∀ k < 8, pageOf (R.SMPU.MFAULT + 4 * k) ∈ trellisPages ∧ pageOf (R.SMPU.MFADDR + 4 * k) ∈ trellisPages := by decide
  obtain ⟨hfault, haddr⟩ := hpage ch h
  have hreport (u : State) : u.OnlyTrellis (if sub = mpuOVERLAP then u.cloche 28 0 else u) := .ite (.of_regs rfl rfl) (.refl u)
  refine (State.OnlyTrellis.irq (.inc (.ite (.refl s) ?_) _ hfault) _ _ (by decide)).trans (hreport _)
  exact ((State.OnlyTrellis.refl s).setReg _ _ hfault).setReg _ _ haddr

theorem State.beatFate_onlyTrellis (s : State) (g : Integ) : s.OnlyTrellis (s.beatFate g).2 := by
  unfold State.beatFate
  split
  · exact .refl s
  · exact .of_regs rfl rfl

theorem State.descBus_onlyTrellis (s : State) (a : Nat) (g : Integ) : s.OnlyTrellis (s.descBus a g).1 := by
  have hfate := s.beatFate_onlyTrellis g
  have hfail (f : Fld) (hf : pageOf f.addr ∈ trellisPages) : s.OnlyTrellis ((s.beatFate g).2.integrity f a) :=
    hfate.trans (State.integrity_onlyTrellis _ f a hf)
  exact .ite_fst hfate (.ite_fst (hfail _ (by decide)) (.ite_fst (hfail _ (by decide)) hfate))

theorem State.dmaAllowed_trellis_onlyTrellis (s : State) (w : World) (k : Kind) (a : Nat) : s.OnlyTrellis (s.dmaAllowed .trellis w k a).1 := by
  unfold State.dmaAllowed
  simp only [iniChannel]
  split
  · exact State.mpuRecord_onlyTrellis _ _ _ _ _ _ _ _ (by decide)
  · exact .refl s

theorem State.descFault_onlyTrellis (s : State) (n : Nat) (wr : Bool) (a : Nat) (g : Integ) : s.OnlyTrellis (s.descFault n wr a g).1 := by
  have hjudged := s.dmaAllowed_trellis_onlyTrellis (s.ringWorld n) (if wr then .write else .read) a
  have hoff (w : World) := hjudged.trans (State.offAccess_onlyTrellis _ .trellis w wr a)
  have hbus := hjudged.trans (State.descBus_onlyTrellis _ a g)
  exact .ite_fst (.refl s) (.ite_fst (.refl s) (.ite_fst hjudged (.ite_fst (hoff _) hbus)))

/-! ### The Trellis's write of descriptor bytes (R161, R262) -/

theorem State.snoop_onlyTrellis (s : State) (ini : Ini) (a : Nat) : s.OnlyTrellis (s.snoop ini a) := by
  unfold State.snoop
  dsimp only
  split
  · exact .of_regs rfl rfl
  · refine State.OnlyTrellis.addSat ?_ _ _ (by decide)
    exact .of_regs rfl rfl

theorem State.modCore_onlyTrellis (s : State) (c : CoreId) (f : Core → Core) : s.OnlyTrellis (s.modCore c f) :=
  .of_regs (State.modCore_regs ..) (State.modCore_gcb ..)

theorem State.setBytes_onlyTrellis (s : State) (a : Nat) (bs : List Byte) : s.OnlyTrellis (s.setBytes a bs) := by
  induction bs generalizing s a with
  | nil => exact .refl s
  | cons b bs ih =>
    have hbyte : s.OnlyTrellis (s.setByte a b) := .of_regs rfl rfl
    exact hbyte.trans (ih _ _)

theorem State.touchSram_onlyTrellis (s : State) (a : Nat) : s.OnlyTrellis (s.touchSram a) := .ite (.of_regs rfl rfl) (.refl s)

theorem State.trlWrite_onlyTrellis (s : State) (a : Nat) (bs : List Byte) : s.OnlyTrellis (s.trlWrite a bs) := by
  have hfill (u : State) : u.OnlyTrellis (u.trlFill a .modified) := .of_regs rfl rfl
  have hresv (u : State) : u.OnlyTrellis (u.breakResv .trellis a) := .of_regs rfl rfl
  have howned : s.OnlyTrellis (((s.snoop .trellis a).modCore .core0 (·.dropLine a)).modCore .core1 (·.dropLine a)) :=
    (s.snoop_onlyTrellis .trellis a).trans ((State.modCore_onlyTrellis ..).trans (State.modCore_onlyTrellis ..))
  exact (State.OnlyTrellis.ite (.refl s) howned).trans
    (((hfill _).trans (State.setBytes_onlyTrellis ..)).trans ((State.touchSram_onlyTrellis ..).trans (hresv _)))

/-! ### A ring halts, pauses, or counts a completion (R391, R396, R398) -/

theorem State.ringGroup_lt (s : State) (n : Nat) : s.get (F.RING.CFG.group.ring n) < 32 := s.get_lt _

theorem State.OnlyTrellis.groupActive {s t : State} (h : s.OnlyTrellis t) {g : Nat} (hg : g < 32) : s.OnlyTrellis (t.groupActive g) :=
  h.put _ _ (pageOf_group (by decide) hg)

theorem State.ringHalt_onlyTrellis (s : State) {n : Nat} (cause a : Nat) (hn : n < 96) : s.OnlyTrellis (s.ringHalt n cause a) := by
  have hstate : s.OnlyTrellis (((s.put (F.RING.CTL.state.ring n) ringHALTED).put (F.RING.CTL.halt_cause.ring n) cause).irq pageTRL 0) :=
    (((State.OnlyTrellis.refl s).put _ _ (pageOf_ring (by decide) hn)).put _ _ (pageOf_ring (by decide) hn)).irq _ _ (by decide)
  have hfirst := ((hstate.put F.TRL.HALT_RING.ring n (by decide)).put F.TRL.HALT_RING.valid 1 (by decide)).setReg R.TRL.HALT_ADDR
    (BitVec.ofNat 32 a) (by decide)
  have hg := State.ringGroup_lt
  exact State.OnlyTrellis.groupActive (.put (.ite hstate hfirst) _ _ (pageOf_group (by decide) (hg ..))) (hg ..)

theorem State.ringPaused_onlyTrellis (s : State) {n : Nat} (hn : n < 96) : s.OnlyTrellis (s.ringPaused n) :=
  .ite ((State.OnlyTrellis.refl s).put (F.RING.CTL.state.ring n) ringPAUSED (pageOf_ring (by decide) hn)) (.refl s)

theorem State.groupCount_onlyTrellis (s : State) (n : Nat) (irqFlag : Bool) : s.OnlyTrellis (s.groupCount n irqFlag) := by
  have hg := s.ringGroup_lt n
  unfold State.groupCount
  dsimp only
  generalize s.get (F.RING.CFG.group.ring n) = g at hg ⊢
  have hhold : s.OnlyTrellis (if s.on (F.RING.GSTAT.pending.idx 8 g) then s else s.holdStart g) := .ite (.refl s) (.of_regs rfl rfl)
  have hcount := hhold.inc (F.RING.GSTAT.pending.idx 8 g) (pageOf_group (by decide) hg)
  exact .ite (.ite (hcount.groupActive hg) hcount) (.refl s)

theorem State.trace_onlyTrellis (s : State) (type core : Nat) (w : World) (arg arg2 : Nat) : s.OnlyTrellis (s.trace type core w arg arg2) := by
  have hlost : s.OnlyTrellis ((s.inc F.TRC.LOST.count).irq pageTRC 1) :=
    ((State.OnlyTrellis.refl s).inc _ (by decide)).irq _ _ (by decide)
  exact .ite (.ite (.of_regs rfl rfl) (hlost.trans (.of_regs rfl rfl))) (.refl s)

/-! ### The completion of a descriptor (R379, R386) -/

/-- Whether it is written back or halts its ring, a descriptor that completes changes the registers of `trellisPages` alone. -/
theorem State.completeDesc_onlyTrellis (s : State) {n : Nat} (d : Desc) (code ret flags w3 cbyte : Nat) (hn : n < 96) :
    s.OnlyTrellis (s.completeDesc n d code ret flags w3 cbyte) := by
  have hrefuse (u : State) : u.OnlyTrellis (if code = rcBOUNDS then u.inc (F.RING.REFUSE.bounds.ring n)
      else if code = rcRANGE then u.inc (F.RING.REFUSE.range.ring n) else u) :=
    .ite ((State.OnlyTrellis.refl u).inc _ (pageOf_ring (by decide) hn))
      (.ite ((State.OnlyTrellis.refl u).inc _ (pageOf_ring (by decide) hn)) (.refl u))
  have hwaits (u : State) (i : Nat) : u.OnlyTrellis
      { u.setWait n i none with trl := { (u.setWait n i none).trl with shown := (u.setWait n i none).trl.shown.filter fun e => decide (e.1 ≠ n) } } :=
    .of_regs rfl rfl
  unfold State.completeDesc
  dsimp only
  refine (s.descFault_onlyTrellis n true d.addr d.back).trans (.ite (State.ringHalt_onlyTrellis _ _ _ hn) ?_)
  refine .trans ?_ (.ite (State.trace_onlyTrellis ..) (.refl _))
  refine .trans ?_ (State.groupCount_onlyTrellis ..)
  refine .trans ?_ (hrefuse _)
  refine .put ?_ _ _ (pageOf_ring (by decide) hn)
  exact (State.OnlyTrellis.ite (State.trlWrite_onlyTrellis ..) (State.trlWrite_onlyTrellis ..)).trans (hwaits _ _)

end Sys2Proof.Machine
end

section
/-!
PROOFS. The cartridge host: which descriptors it takes (R480), the command frames it sends (R465, R475, R481, R484, R489), and how a descriptor
ends (R482, R486).
-/
namespace Sys2Proof.Machine
open Sys2Proof

/-! ### Command frames (R465, R481) -/

/-- The rows that send a command frame: the command, the index it sends, and whether it is a HELLO that is sent again. -/
def cartRows : List (Instr × Nat × Bool) :=
  [(.cartReset, 0, false), (.hello, 1, false), (.helloRetry, 1, true), (.setBus, 2, false), (.readId, 3, false), (.cartStatus, 4, false),
    (.setCount, 5, false), (.readSingle, 6, false), (.readMulti, 7, false), (.writeSingle, 8, false), (.writeMulti, 9, false),
    (.cartStop, 10, false), (.rpaRequest, 16, false), (.rpaResult, 17, false), (.lockCtrl, 18, false)]

/-- Each such command sends the frame of its index. -/
theorem exec_cartRow {i : Instr} {index : Nat} {again : Bool} (h : (i, index, again) ∈ cartRows) (s : State) :
    exec i s = .next (s.cartSend index again).settle := by
  have hrows : ∀ r ∈ cartRows, exec r.1 s = .next (s.cartSend r.2.1 r.2.2).settle := by
    simp only [cartRows, List.forall_mem_cons, List.not_mem_nil, false_imp_iff, implies_true, and_true]
    exact ⟨rfl, rfl, rfl, rfl, rfl, rfl, rfl, rfl, rfl, rfl, rfl, rfl, rfl, rfl, rfl⟩
  exact hrows _ h

/-- The descriptor in progress waits for the frame of command `index`, and the frame can be sent: the host is ON, and DAT0 is free or the
command is STATUS (R484). -/
structure State.SendsNow (s : State) (j : CartJob) (index : Nat) (again : Bool) : Prop where
  job : s.gcb.job = some j
  sent : j.sent = false
  held : j.held = none
  retry : j.retry = again
  names : j.desc.cartIndex = index
  free : s.on F.GCB.STAT.busy = false ∨ index = 4
  on : s.get F.GCB.STAT.state = gcbON

section
variable {s : State} {j : CartJob} {index : Nat} {again : Bool}

theorem State.SendsNow.cartSend_eq (h : s.SendsNow j index again) : s.cartSend index again =
    let x := s.cartSendFrame index j.desc.w3
    let multi := decide (index = 7 ∨ index = 9)
    let y := if multi then x.put F.GCB.COUNT.count 0 else x
    if index = 0 then (((x.put F.GCB.COUNT.count 0).put F.GCB.STAT.width 0).put F.GCB.STAT.speed 0).cartDone j.ring j.desc rcOK 0
    else { y with gcb := { y.gcb with job := some { j with sent := true, stop := multi && !x.on F.GCB.COUNT.count } } } := by
  obtain ⟨hjob, hsent, hheld, hretry, hindex, hfree, hon⟩ := h
  have hfree : ¬ (s.on F.GCB.STAT.busy = true ∧ index ≠ 4) := by rintro ⟨hbusy, h4⟩; simp [hbusy, h4] at hfree
  simp only [State.cartSend, hjob, hsent, hheld, hretry, hindex, hon]
  simp [hfree]

/-- RESET, which has no response, completes at once; the bus width, the speed and the pending count are cleared (R481, R489). -/
theorem State.SendsNow.reset (h : s.SendsNow j index again) (hi : index = 0) : s.cartSend index again =
    ((((s.cartSendFrame index j.desc.w3).put F.GCB.COUNT.count 0).put F.GCB.STAT.width 0).put F.GCB.STAT.speed 0).cartDone
      j.ring j.desc rcOK 0 := by
  rw [h.cartSend_eq]
  exact if_pos hi

/-- A multi-block command takes the pending count, and ends with a STOP where there was none (R481). -/
theorem State.SendsNow.multi (h : s.SendsNow j index again) (hi : index = 7 ∨ index = 9) : s.cartSend index again =
    { ((s.cartSendFrame index j.desc.w3).put F.GCB.COUNT.count 0) with
      gcb := { s.gcb with job := some { j with sent := true, stop := decide (s.get F.GCB.COUNT.count = 0) } } } := by
  have hcount : (s.cartSendFrame index j.desc.w3).on F.GCB.COUNT.count = s.on F.GCB.COUNT.count :=
    State.on_congr (s.get_inc_addr F.GCB.CNT0.commands F.GCB.COUNT.count (by decide))
  have hstop : (!s.on F.GCB.COUNT.count) = decide (s.get F.GCB.COUNT.count = 0) := by simp [State.on]
  have hzero : index ≠ 0 := by omega
  rw [h.cartSend_eq]
  simp only [hi, hzero, hcount, hstop, decide_true, Bool.true_and, if_true, if_false]
  rfl

/-- Another command leaves the pending count. -/
theorem State.SendsNow.single (h : s.SendsNow j index again) (h0 : index ≠ 0) (h7 : index ≠ 7) (h9 : index ≠ 9) :
    s.cartSend index again = { s.cartSendFrame index j.desc.w3 with gcb := { s.gcb with job := some { j with sent := true, stop := false } } } := by
  rw [h.cartSend_eq]
  simp only [h0, h7, h9, or_self, decide_false, Bool.false_and, if_false, Bool.false_eq_true]
  rfl

/-- A row that cannot occur leaves the state (log 64). -/
theorem State.cartSend_none (h : ∀ j, s.gcb.job = some j → j.sent = true ∨ j.retry ≠ again ∨ j.desc.cartIndex ≠ index) :
    s.cartSend index again = s := by
  unfold State.cartSend
  split
  next => rfl
  next j hjob =>
    refine if_pos ?_
    obtain hsent | hretry | hindex := h j hjob
    · simp [hsent]
    · simp [hretry]
    · simp [hindex]

end

/-! ### Which descriptors the host takes (R480, R485) -/

/-- What R480 asks of a descriptor: bits 7 and 6 of its command byte are 0, its index is a command's, and the direction and length are the
command's. -/
def State.CartFine (s : State) (d : Desc) : Prop :=
  let i := d.cbyte % 64
  let count := s.get F.GCB.COUNT.count
  d.cbyte / 64 = 0 ∧ ((i ∈ [0, 1, 2, 4, 5, 10] ∧ d.dirIn = true ∧ d.len = 4) ∨
    (((i ∈ [3, 6, 7, 17] ∧ d.dirIn = true) ∨ (i ∈ [8, 9, 16, 18] ∧ d.dirIn = false)) ∧
      (if i = 3 then d.len = 32 else if i = 18 then d.len = 64
        else if i = 7 ∨ i = 9 then d.len % 512 = 0 ∧ (count = 0 ∨ d.len = 512 * count) else d.len = 512)))

theorem cartPlain_iff (i : Nat) : cartPlain i = true ↔ i ∈ [0, 1, 2, 4, 5, 10] := by
  rw [cartPlain, decide_eq_true_eq]
  simp

theorem cartReads_iff (i : Nat) : cartReads i = true ↔ i ∈ [3, 6, 7, 17] := by
  rw [cartReads, decide_eq_true_eq]
  simp

theorem cartWrites_iff (i : Nat) : cartWrites i = true ↔ i ∈ [8, 9, 16, 18] := by
  rw [cartWrites, decide_eq_true_eq]
  simp

theorem ite_ok_or_range {c : Prop} [Decidable c] {x y : Nat} (hx : x = rcOK ∨ x = rcRANGE) (hy : y = rcOK ∨ y = rcRANGE) :
    (if c then x else y) = rcOK ∨ (if c then x else y) = rcRANGE := by
  split
  · exact hx
  · exact hy

theorem State.cartJudge_cases (s : State) (d : Desc) : s.cartJudge d = rcOK ∨ s.cartJudge d = rcRANGE := by
  have hlast {c : Prop} [Decidable c] : (if c then rcOK else rcRANGE) = rcOK ∨ (if c then rcOK else rcRANGE) = rcRANGE :=
    ite_ok_or_range (.inl rfl) (.inr rfl)
  exact ite_ok_or_range (.inr rfl) (ite_ok_or_range hlast (ite_ok_or_range (.inr rfl) (ite_ok_or_range hlast hlast)))

/-- A command that moves data goes the way the descriptor says. -/
theorem cartMoves_iff (i : Nat) (dirIn : Bool) : (!(cartReads i && dirIn) && !(cartWrites i && !dirIn)) = true ↔
    ¬ ((i ∈ [3, 6, 7, 17] ∧ dirIn = true) ∨ (i ∈ [8, 9, 16, 18] ∧ dirIn = false)) := by
  rw [← cartReads_iff, ← cartWrites_iff]
  cases dirIn <;> simp

theorem ite_range_eq_ok (c : Prop) [Decidable c] : (if c then rcOK else rcRANGE) = rcOK ↔ c := by
  split <;> simp [*, rcOK, rcRANGE]

theorem State.cartJudge_ok (s : State) (d : Desc) : s.cartJudge d = rcOK ↔ s.CartFine d := by
  have hrange : rcRANGE ≠ rcOK := by decide
  unfold State.cartJudge State.CartFine
  rw [Desc.cartIndex]
  dsimp only
  generalize d.cbyte % 64 = i
  by_cases hhigh : 64 ≤ d.cbyte
  · have hbits : d.cbyte / 64 ≠ 0 := by omega
    simp only [hhigh, hbits, if_true, hrange, false_and]
  have hbits : d.cbyte / 64 = 0 := by omega
  by_cases hplain : i ∈ [0, 1, 2, 4, 5, 10]
  · have hdata : i ∉ [3, 6, 7, 17] ∧ i ∉ [8, 9, 16, 18] := by
      simp only [List.mem_cons, List.not_mem_nil, or_false] at hplain ⊢
      omega
    rw [if_neg hhigh, if_pos ((cartPlain_iff i).2 hplain), ite_range_eq_ok]
    simp only [hbits, hplain, hdata, true_and, false_and, or_false, Bool.and_eq_true, decide_eq_true_eq]
  rw [if_neg hhigh, if_neg (mt (cartPlain_iff i).1 hplain)]
  by_cases hdata : (i ∈ [3, 6, 7, 17] ∧ d.dirIn = true) ∨ (i ∈ [8, 9, 16, 18] ∧ d.dirIn = false)
  · rw [if_neg fun h => (cartMoves_iff i d.dirIn).1 h hdata]
    simp only [hbits, hplain, hdata, true_and, false_and, false_or]
    by_cases hmulti : i = 7 ∨ i = 9
    · have hother : i ≠ 3 ∧ i ≠ 18 := by omega
      simp only [hmulti, hother, if_true, if_false, ite_range_eq_ok]
    · rw [if_neg hmulti, ite_range_eq_ok, if_neg hmulti, cartBlockLen]
      by_cases h3 : i = 3
      · rw [if_pos h3, if_pos h3]
      rw [if_neg h3, if_neg h3]
      by_cases h18 : i = 18
      · rw [if_pos h18, if_pos h18]
      · rw [if_neg h18, if_neg h18]
  · rw [if_pos ((cartMoves_iff i d.dirIn).2 hdata)]
    simp only [hplain, hdata, hrange, false_and, or_false, and_false]

theorem State.cartOffer_on {s : State} {n : Nat} {d : Desc} (hstate : 2 ≤ s.get F.GCB.STAT.state) (hfine : s.CartFine d) :
    s.cartOffer n d rcOK = { s with gcb := { s.gcb with job := some ⟨n, d, false, false, false, none⟩ } } := by
  have hhost : ¬ s.gcbHost ≤ gcbOFF := by
    rw [State.gcbHost, if_pos hstate, gcbOFF]
    omega
  simp [State.cartOffer, hhost, (s.cartJudge_ok d).2 hfine]

theorem State.cartOffer_off {s : State} {n : Nat} {d : Desc} (hstate : s.get F.GCB.STAT.state < 2) :
    s.cartOffer n d rcOK = s.completeDesc n d rcABSENT 0 0 d.w3 d.cbyte := by
  have hhost : s.gcbHost ≤ gcbOFF := by
    rw [State.gcbHost, if_neg (by omega)]
    split <;> decide
  simp [State.cartOffer, hhost]

/-! ### The end of a descriptor (R482, R486) -/

/-- The descriptor is written back, and the host serves it no more. -/
def State.cartFreed (s : State) (n : Nat) (d : Desc) (code ret : Nat) : State :=
  let u := s.completeDesc n d code ret 0 d.w3 d.cbyte
  { u with gcb := { u.gcb with job := none } }.ringPaused n

/-- The counter of a code. -/
def State.cartCount (s : State) (code : Nat) : State :=
  if code = rcCRC then s.inc F.GCB.CNT0.crc else if code = rcTIMEOUT then s.inc F.GCB.CNT1.timeout
  else if code = rcSTATE then s.inc F.GCB.CNT1.state else s

/-- The host stops, and records where (R486). -/
def State.cartStopAt (s : State) (n index code : Nat) : State :=
  ((s.put F.GCB.STAT.state gcbSTOPPED).setReg R.GCB.STOP_AT (BitVec.ofNat 32 (n + 2 ^ 7 + 2 ^ 8 * index + 2 ^ 24 * code))).irq pageGCB 1

section
variable {s : State} {n code : Nat}

theorem State.cartDone_eq (d : Desc) (ret : Nat) : s.cartDone n d code ret =
    let u := (s.cartFreed n d code ret).cartCount code
    (if code ≠ rcOK ∧ u.get F.GCB.STAT.state = gcbON then u.cartStopAt n (s.cidx n) code else u).gcbOffCheck := rfl

/-- Writing the descriptor back leaves the registers of the GCB page. -/
theorem State.cartFreed_get (d : Desc) (ret : Nat) (hn : n < 96) (f : Fld) (hf : pageOf f.addr ∉ trellisPages) :
    (s.cartFreed n d code ret).get f = s.get f :=
  ((State.ringPaused_onlyTrellis _ hn).get f hf).trans ((s.completeDesc_onlyTrellis d code ret 0 d.w3 d.cbyte hn).get f hf)

/-- At most one counter counts. -/
theorem State.cartCount_cases (s : State) (code : Nat) :
    s.cartCount code = s ∨ ∃ f : Fld, (f.addr = R.GCB.CNT0 ∨ f.addr = R.GCB.CNT1) ∧ s.cartCount code = s.inc f := by
  unfold State.cartCount
  split
  · exact .inr ⟨F.GCB.CNT0.crc, .inl rfl, rfl⟩
  split
  · exact .inr ⟨F.GCB.CNT1.timeout, .inr rfl, rfl⟩
  split
  · exact .inr ⟨F.GCB.CNT1.state, .inr rfl, rfl⟩
  · exact .inl rfl

theorem State.cartCount_gcb (s : State) (code : Nat) : (s.cartCount code).gcb = s.gcb := by
  obtain h | ⟨f, -, h⟩ := s.cartCount_cases code <;> rw [h]
  rfl

theorem State.cartCount_get (s : State) (code : Nat) (f : Fld) (h0 : f.addr ≠ R.GCB.CNT0) (h1 : f.addr ≠ R.GCB.CNT1) :
    (s.cartCount code).get f = s.get f := by
  obtain h | ⟨g, hg, h⟩ := s.cartCount_cases code <;> rw [h]
  obtain hg | hg := hg
  · exact State.get_inc_addr _ _ _ (hg ▸ h0)
  · exact State.get_inc_addr _ _ _ (hg ▸ h1)

theorem State.cartCount_state (s : State) : (s.cartCount rcSTATE).get F.GCB.CNT1.state = satAdd F.GCB.CNT1.state.max (s.get F.GCB.CNT1.state) 1 :=
  State.get_inc s _ (by decide)

/-- The words of STOP_AT. -/
theorem State.cartStopAt_fields (s : State) {index : Nat} (hn : n < 96) (hindex : index < 65536) (hcode : code < 256) :
    let t := s.cartStopAt n index code
    t.get F.GCB.STAT.state = gcbSTOPPED ∧ t.get F.GCB.STOP_AT.ring = n ∧ t.get F.GCB.STOP_AT.index = index ∧
      t.get F.GCB.STOP_AT.code = code ∧ t.on F.GCB.STOP_AT.valid = true ∧ t.on (eventBit pageGCB 1) = true := by
  have hword : (BitVec.ofNat 32 (n + 2 ^ 7 + 2 ^ 8 * index + 2 ^ 24 * code)).toNat = n + 2 ^ 7 + 2 ^ 8 * index + 2 ^ 24 * code := by
    rw [BitVec.toNat_ofNat]
    omega
  have hget (f : Fld) (hf : f.addr = R.GCB.STOP_AT) :
      (s.cartStopAt n index code).get f = (n + 2 ^ 7 + 2 ^ 8 * index + 2 ^ 24 * code) / 2 ^ f.lo % 2 ^ f.width := by
    have hreg : (s.cartStopAt n index code).reg R.GCB.STOP_AT = BitVec.ofNat 32 (n + 2 ^ 7 + 2 ^ 8 * index + 2 ^ 24 * code) :=
      ((State.reg_put ..).trans (if_neg (by decide))).trans ((State.reg_setReg ..).trans (if_pos rfl))
    rw [State.get, hf, hreg, Fld.get, hword, Nat.shiftRight_eq_div_pow]
  have hstate : (s.cartStopAt n index code).get F.GCB.STAT.state = gcbSTOPPED :=
    (State.get_irq _ _ _ _ (by decide)).trans ((State.get_setReg_addr _ _ _ _ (by decide)).trans (State.get_put s _ _ (by decide)))
  have hevent : (s.cartStopAt n index code).get (eventBit pageGCB 1) = 1 := State.get_irq_eventBit _ _ _ (by decide)
  dsimp only
  rw [State.on, State.on, decide_eq_true_eq, decide_eq_true_eq, hevent, hget F.GCB.STOP_AT.ring rfl, hget F.GCB.STOP_AT.index rfl,
    hget F.GCB.STOP_AT.code rfl, hget F.GCB.STOP_AT.valid rfl]
  simp only [F.GCB.STOP_AT.ring, F.GCB.STOP_AT.index, F.GCB.STOP_AT.code, F.GCB.STOP_AT.valid, Fld.width]
  refine ⟨hstate, ?_⟩
  omega

theorem State.cartStopAt_get (s : State) (n index code : Nat) (f : Fld) (hstat : f.addr ≠ R.GCB.STAT) (hstop : f.addr ≠ R.GCB.STOP_AT)
    (hraw : f.addr ≠ R.HDR.IRQ_RAW + pageBase pageGCB) : (s.cartStopAt n index code).get f = s.get f :=
  (State.get_irq _ _ _ _ hraw).trans ((State.get_setReg_addr _ _ _ _ hstop).trans (State.get_put_addr _ _ _ _ hstat))

/-- With the supply on, the host does not power off. -/
theorem State.gcbOffCheck_of_on (h : s.on F.GCB.CTRL.pwr = true) : s.gcbOffCheck = s := by
  simp [State.gcbOffCheck, h]

/-- Ending a descriptor and counting its code leaves the host's state and its supply (R486). -/
theorem State.cartCount_cartFreed_get (d : Desc) (ret : Nat) (hn : n < 96) (f : Fld) (hf : f.addr = R.GCB.STAT ∨ f.addr = R.GCB.CTRL) :
    ((s.cartFreed n d code ret).cartCount code).get f = s.get f := by
  have haddr : ∀ a, a = R.GCB.STAT ∨ a = R.GCB.CTRL → pageOf a ∉ trellisPages ∧ a ≠ R.GCB.CNT0 ∧ a ≠ R.GCB.CNT1 := by
    rintro a (rfl | rfl) <;> decide
  obtain ⟨hpage, h0, h1⟩ := haddr _ hf
  exact (State.cartCount_get _ _ _ h0 h1).trans (State.cartFreed_get d ret hn f hpage)

/-- A descriptor that has ended is in progress no more. -/
theorem State.cartCount_cartFreed_job (d : Desc) (ret : Nat) (hn : n < 96) : ((s.cartFreed n d code ret).cartCount code).gcb.job = none := by
  rw [State.cartCount_gcb]
  exact congrArg Gcb.job (State.ringPaused_onlyTrellis _ hn).gcb

/-- A descriptor that ends with a code other than OK stops a host that is ON (R486). -/
theorem State.cartDone_of_code (d : Desc) (ret : Nat) (hn : n < 96) (hcode : code ≠ rcOK) (hon : s.get F.GCB.STAT.state = gcbON)
    (hpwr : s.on F.GCB.CTRL.pwr = true) :
    s.cartDone n d code ret = ((s.cartFreed n d code ret).cartCount code).cartStopAt n (s.cidx n) code := by
  have hkeeps := State.cartCount_cartFreed_get (s := s) (code := code) d ret hn
  rw [State.cartDone_eq]
  dsimp only
  rw [if_pos ⟨hcode, (hkeeps _ (.inl rfl)).trans hon⟩]
  refine State.gcbOffCheck_of_on (Eq.trans (State.on_congr ?_) hpwr)
  exact (State.cartStopAt_get _ _ _ _ _ (by decide) (by decide) (by decide)).trans (hkeeps _ (.inr rfl))

/-- One that ends with OK leaves the host as it is. -/
theorem State.cartDone_of_ok (d : Desc) (ret : Nat) (hn : n < 96) (hpwr : s.on F.GCB.CTRL.pwr = true) :
    s.cartDone n d rcOK ret = (s.cartFreed n d rcOK ret).cartCount rcOK := by
  rw [State.cartDone_eq]
  dsimp only
  rw [if_neg fun h => h.1 rfl]
  exact State.gcbOffCheck_of_on ((State.on_congr (State.cartCount_cartFreed_get d ret hn _ (.inr rfl))).trans hpwr)

end

/-- Settles O54: a row by the frame it sends, the judgement by the cases of the index, a completion by what the Trellis leaves of the page. -/
theorem cartridgeCommands : Obligations.CartridgeCommands := by
  unfold Obligations.CartridgeCommands
  refine ⟨fun s j i index again hi => ?rows, fun s n d code ret => ?descriptors⟩
  case rows =>
    intro ready head x ends
    have hrow := exec_cartRow hi s
    have hnow : ready → s.SendsNow j index again := fun ⟨hjob, hsent, hheld, hretry, hnames, hfree, hon⟩ =>
      ⟨hjob, hsent, hheld, hretry, hnames, hfree, hon⟩
    have hends {t : State} (h : s.cartSend index again = t) : ends t := h ▸ hrow
    exact ⟨fun h h0 => hends ((hnow h).reset h0), fun h hmulti => hends ((hnow h).multi hmulti),
      fun h h0 h7 h9 => hends ((hnow h).single h0 h7 h9), fun h => hends (State.cartSend_none h)⟩
  case descriptors =>
    intro i count plain ins outs fine t
    have hjudge : s.cartJudge d = rcOK ↔ fine := s.cartJudge_ok d
    refine ⟨hjudge.2, fun h => (s.cartJudge_cases d).resolve_left (mt hjudge.1 h), State.cartOffer_on, State.cartOffer_off, ?stops, ?stays⟩
    case stops =>
      intro hn hcode hok hon hpwr
      have ht : t = _ := State.cartDone_of_code d ret hn hok hon hpwr
      obtain ⟨hstate, hring, hindex, hcd, hvalid, hevent⟩ :=
        ((s.cartFreed n d code ret).cartCount code).cartStopAt_fields (index := s.cidx n) hn (s.get_lt _) hcode
      rw [ht]
      refine ⟨hstate, hring, hindex, hcd, hvalid, hevent, State.cartCount_cartFreed_job d ret hn, ?_⟩
      rintro rfl
      rw [State.cartStopAt_get _ _ _ _ _ (by decide) (by decide) (by decide), State.cartCount_state,
        State.cartFreed_get d ret hn _ (by decide)]
    case stays =>
      intro hn hon hpwr
      rw [State.cartDone_of_ok d ret hn hpwr]
      exact ⟨(State.cartCount_cartFreed_get d ret hn _ (.inl rfl)).trans hon, State.cartCount_cartFreed_job d ret hn⟩

end Sys2Proof.Machine
end

section
/-!
PROOFS. Updates that change registers alone, what settling leaves of the observation blocks, and a write to a register that keeps nothing from
its writer.
-/
namespace Sys2Proof.Machine
open Sys2Proof

/-! ### Updates that change registers alone -/

/-- Of `s`, the state `t` differs in registers that `P` names, and in nothing else. -/
structure State.RegsOnly (s t : State) (P : Nat → Prop) : Prop where
  reg : ∀ a, ¬ P a → t.reg a = s.reg a
  rest : t = { s with regs := t.regs }

theorem State.RegsOnly.refl (s : State) (P : Nat → Prop) : s.RegsOnly s P := ⟨fun _ _ => rfl, rfl⟩

theorem State.RegsOnly.trans {s t u : State} {P : Nat → Prop} (h : s.RegsOnly t P) (h' : t.RegsOnly u P) : s.RegsOnly u P :=
  ⟨fun a ha => (h'.reg a ha).trans (h.reg a ha), h'.rest.trans (congrArg (fun v : State => { v with regs := u.regs }) h.rest)⟩

theorem State.RegsOnly.get {s t : State} {P : Nat → Prop} (h : s.RegsOnly t P) (f : Fld) (hf : ¬ P f.addr) : t.get f = s.get f := by
  rw [State.get, h.reg _ hf, State.get]

theorem State.RegsOnly.mem {s t : State} {P : Nat → Prop} (h : s.RegsOnly t P) : t.mem = s.mem := by rw [h.rest]
theorem State.RegsOnly.aon {s t : State} {P : Nat → Prop} (h : s.RegsOnly t P) : t.aon = s.aon := by rw [h.rest]

theorem State.RegsOnly.foldState {α : Type} {f : α → State → State} {P : Nat → Prop} {l : List α} {s : State}
    (hf : ∀ a ∈ l, ∀ u, State.RegsOnly u (f a u) P) : s.RegsOnly (foldState f l s) P := by
  induction l generalizing s with
  | nil => exact .refl s P
  | cons a l ih => exact (hf a List.mem_cons_self s).trans (ih fun b hb => hf b (List.mem_cons_of_mem a hb))

section
variable {s t : State} {P : Nat → Prop} (h : s.RegsOnly t P)
include h

theorem State.RegsOnly.setReg (a : Nat) (w : Word) (ha : P a) : s.RegsOnly (t.setReg a w) P := by
  refine h.trans ⟨fun b hb => (State.reg_setReg t a w b).trans (if_neg ?_), rfl⟩
  rintro rfl
  exact hb ha

theorem State.RegsOnly.put (f : Fld) (v : Nat) (hf : P f.addr) : s.RegsOnly (t.put f v) P := h.setReg _ _ hf
theorem State.RegsOnly.inc (f : Fld) (hf : P f.addr) : s.RegsOnly (t.inc f) P := h.put _ _ hf
theorem State.RegsOnly.irq (p b : Nat) (hp : P (R.HDR.IRQ_RAW + pageBase p)) : s.RegsOnly (t.irq p b) P := h.put _ _ hp

end

/-! ### Settling (R533, R584) -/

theorem State.changesOnly_settled {s t : State} {as : List Nat} (h : s.changesOnly t as) : s.changesOnly t.settle as :=
  State.changesOnly_settle (r := t.settle.radio) (by rwa [State.settle_radio])

section
variable {s t : State} {as : List Nat} (h : s.RegsOnly t (· ∈ as))
include h

/-- What changes registers alone does so once it has settled, with an answer to the sender or without. -/
theorem State.RegsOnly.changesOnly : s.changesOnly t.settle as :=
  State.changesOnly_settled ⟨fun a ha => .inr (h.reg a ha), by rw [h.rest]⟩

theorem State.RegsOnly.changesOnly_answer (d : List Byte) (e : Nat) : s.changesOnly (t.answer d e).settle as :=
  State.changesOnly_settled ⟨fun a ha => .inr (h.reg a ha), by rw [h.rest]; rfl⟩

end

section
variable (s : State)

@[simp] theorem State.settle_mem : s.settle.mem = s.mem := s.settle_onlyPages.mem
@[simp] theorem State.settle_ldg : s.settle.ldg = s.ldg := by obtain ⟨r, m, l, h, -⟩ := s.settle_eq; rw [h]
@[simp] theorem State.settle_logQueue : s.settle.logQueue = s.logQueue := by obtain ⟨r, m, l, h, -⟩ := s.settle_eq; rw [h]
@[simp] theorem State.settle_logLoss : s.settle.logLoss = s.logLoss := by obtain ⟨r, m, l, h, -⟩ := s.settle_eq; rw [h]
@[simp] theorem State.settle_cloWait : s.settle.cloWait = s.cloWait := by obtain ⟨r, m, l, h, -⟩ := s.settle_eq; rw [h]
@[simp] theorem State.settle_trcFifo : s.settle.trcFifo = s.trcFifo := by obtain ⟨r, m, l, h, -⟩ := s.settle_eq; rw [h]
@[simp] theorem State.settle_trcLost : s.settle.trcLost = s.trcLost := by obtain ⟨r, m, l, h, -⟩ := s.settle_eq; rw [h]
@[simp] theorem State.settle_snapGap : s.settle.aon.snapGap = s.aon.snapGap := by obtain ⟨r, m, l, h, -⟩ := s.settle_eq; rw [h]
@[simp] theorem State.settle_snapEvents : s.settle.aon.snapEvents = s.aon.snapEvents := by obtain ⟨r, m, l, h, -⟩ := s.settle_eq; rw [h]
@[simp] theorem State.settle_snapMerged : s.settle.aon.snapMerged = s.aon.snapMerged := by obtain ⟨r, m, l, h, -⟩ := s.settle_eq; rw [h]

end

/-- No register of the common page header settles. -/
theorem settledReg_of_header {a : Nat} (h : a % 0x1000 < 0x100) : settledReg a = false := by
  unfold settledReg R.INTC.LINE R.MGP.ALERT
  exact decide_eq_false (by omega)

theorem State.on_of_get {s : State} {f : Fld} (h : s.get f = 1) : s.on f = true := by
  simp [State.on, h]

/-! ### A write to a register that keeps nothing from its writer (R31, R36) -/

/-- The field rules keep nothing of a register that has no field for the Glasshouse alone and none that a lock protects. -/
theorem State.fieldWrite_open (s : State) {r : RegInfo} (ini : Ini) (w : World) (a : Nat) (v : Word) (hg : r.g = 0) (hlk : r.lk = 0)
    (hp : pageOf a ≠ pageINTC ∧ pageOf a ≠ pageRING) : s.fieldWrite r ini w a v = (s, { s.wrOf ini r a v with w := w }) := by
  have hdyn : s.dynG r a = 0 := by simp [State.dynG, hp.1, hp.2, hg]
  have hones (x : Word) : x &&& 4294967295#32 = x := by
    have : (4294967295#32 : Word) = BitVec.allOnes 32 := by decide
    rw [this, BitVec.and_allOnes]
  simp [State.fieldWrite, hdyn, hlk, State.wrOf, RegInfo.written, hones]

/-- A write that reaches such a register is the block's action on all its bits. -/
theorem State.writeReg_open (s : State) (ini : Ini) (a : Nat) (v : Word) {r : RegInfo} (h : s.reaches ini a)
    (hr : findReg (pageRegs (pageOf a)) (a % 0x1000) = some r) (hg : r.g = 0) (hlk : r.lk = 0)
    (hp : pageOf a ≠ pageINTC ∧ pageOf a ≠ pageRING) (ha : a % 4 = 0) :
    s.writeReg ini a v = (blockWrite { s.wrOf ini r a v with w := s.iniWorld ini } .clean s).done := by
  have hpage : pageReg (pageOf a) (a % 0x1000) = some r := by rw [pageReg, hr]
  have hjudge := State.pageJudge_reaches s ini a h ha
  simp only [hpage] at hjudge
  obtain ⟨hrising, -⟩ := h
  simp [State.writeReg, State.writeCmd, State.pageWriteBy, hjudge, State.regWrite, hr, State.fieldWrite_open s ini _ a v hg hlk hp, hrising,
    State.done]

end Sys2Proof.Machine
end

section
/-!
PROOFS. The common trigger (R538 to R541): what a page captures, and what a firing leaves on all of them.
-/
namespace Sys2Proof.Machine
open Sys2Proof

theorem exec_snapFiring (s : State) : exec .snapFiring s = .next s.snapFiring.settle := rfl
theorem exec_snapMergedFire (s : State) : exec .snapMergedFire s = .next s.snapMergedFire.settle := rfl

/-! ### Firmware's trigger (R538, R541) -/

/-- FIRE is an event of the trigger's source 0. -/
theorem exec_fire_reaches {s : State} {ini : Ini} (h : s.reaches ini R.SNAP.TRIG) : exec (.fire ini) s = (s.trig 0).done :=
  s.writeReg_open (r := ⟨0x100, 1, 4, 0, 0, 0, 0, 0⟩) ini R.SNAP.TRIG (F.SNAP.TRIG.fire.put 1 0) h (by decide) rfl rfl (by decide) (by decide)

theorem State.trig_waits {s : State} {b : Nat} (hen : s.on (Fld.bit ⟨R.SNAP.TRIG_EN, 10, 0⟩ b) = true) (hgap : s.aon.snapGap = false) :
    s.trig b = { s with aon := { s.aon with snapEvents := s.aon.snapEvents ||| 2 ^ b } } := by
  simp [State.trig, hen, hgap]

theorem State.trig_merges {s : State} {b : Nat} (hen : s.on (Fld.bit ⟨R.SNAP.TRIG_EN, 10, 0⟩ b) = true) (hgap : s.aon.snapGap = true) :
    s.trig b = ({ s with aon := { s.aon with snapMerged := s.aon.snapMerged ||| 2 ^ b } }.inc F.SNAP.TRIG_STAT.merged).put
      F.SNAP.TRIG_STAT.pending 1 := by
  simp [State.trig, hen, hgap]

/-! ### Registers that a list of words fills -/

/-- The words of a list go to the registers from `b` on, each to that of its number. -/
def State.fill (b : Nat) (l : List (Nat × Word)) (s : State) : State :=
  foldState (fun (e : Nat × Word) s => s.setReg (b + 4 * e.1) e.2) l s

theorem State.fill_regsOnly (s : State) (b : Nat) (l : List (Nat × Word)) {P : Nat → Prop} (h : ∀ e ∈ l, P (b + 4 * e.1)) :
    s.RegsOnly (s.fill b l) P :=
  .foldState fun e he u => (State.RegsOnly.refl u P).setReg _ _ (h e he)

/-- With each number once, a register holds the word that stands beside its number. -/
theorem State.reg_fill (b : Nat) {l : List (Nat × Word)} (hl : (l.map (·.1)).Nodup) (s : State) {e : Nat × Word} (he : e ∈ l) :
    (s.fill b l).reg (b + 4 * e.1) = e.2 := by
  induction l generalizing s with
  | nil => exact absurd he List.not_mem_nil
  | cons d l ih =>
    obtain ⟨hd, hl⟩ := List.nodup_cons.1 hl
    obtain rfl | he := List.mem_cons.1 he
    · have hlater := (s.setReg (b + 4 * e.1) e.2).fill_regsOnly b l (P := (· ≠ b + 4 * e.1)) fun c hc hce => by
        refine hd (List.mem_map.2 ⟨c, hc, ?_⟩)
        dsimp only
        omega
      exact (hlater.reg _ (by simp)).trans ((State.reg_setReg ..).trans (if_pos rfl))
    · exact ih hl _ he

/-- A register after the list was filled in depends on nothing but the list and the register before. -/
theorem State.reg_fill_congr {s u : State} {a : Nat} (h : u.reg a = s.reg a) (b : Nat) (l : List (Nat × Word)) :
    (u.fill b l).reg a = (s.fill b l).reg a := by
  induction l generalizing s u with
  | nil => exact h
  | cons e l ih => exact ih (by rw [State.reg_setReg, State.reg_setReg, h])

/-! ### What one page captures (R539, R540) -/

/-- The tables of the chapters give each snapshot register of a page once. -/
theorem snapRegs_numbers : ∀ p < 32, ((snapRegs p).map (·.1)).Nodup ∧ ∀ k ∈ (snapRegs p).map (·.1), k < 16 := by
  decide

theorem State.snapValues_numbers (x : State) (src free : Nat) {p : Nat} (hp : p < 32) :
    ((x.snapValues src free p).map (·.1)).Nodup ∧ ∀ k ∈ (x.snapValues src free p).map (·.1), k < 16 := by
  have hown : ((numsFrom 16 0).zip (x.snapOwn src)).map (·.1) = numsFrom 10 0 := rfl
  have hrings : ((numsFrom 16 0).zip (x.snapRings free)).map (·.1) = numsFrom 16 0 := rfl
  unfold State.snapValues
  split
  · rw [hown]
    decide
  split
  · rw [hrings]
    decide
  · rw [List.map_map]
    exact snapRegs_numbers p hp

/-- The registers of page `p` that a capture may write: SNAP_CFG, the snapshot registers and SNAP_SEQ. -/
def snapReg (p a : Nat) : Prop := pageBase p + R.HDR.SNAP_CFG ≤ a ∧ a < pageBase p + R.HDR.MON_SEL

/-- The pages do not share them, and they do not settle. -/
theorem snapReg_unique {p q a : Nat} (h : snapReg p a) (h' : snapReg q a) : p = q := by
  simp only [snapReg, pageBase, R.HDR.SNAP_CFG, R.HDR.MON_SEL] at h h'
  omega

theorem settledReg_of_snapReg {p a : Nat} (h : snapReg p a) : settledReg a = false :=
  settledReg_of_header (by
    simp only [snapReg, pageBase, R.HDR.SNAP_CFG, R.HDR.MON_SEL] at h
    omega)

/-- They begin with SNAP_CFG, at 0x2C, and end with SNAP_SEQ, at 0x70. -/
theorem snapReg_of_offset {p r : Nat} (hlow : 0x2C ≤ r) (hhigh : r < 0x74) : snapReg p (pageBase p + r) := by
  simp only [snapReg, R.HDR.SNAP_CFG, R.HDR.MON_SEL]
  omega

theorem snapReg_snap {p k : Nat} (hk : k < 16) : snapReg p (pageBase p + R.HDR.SNAP + 4 * k) := by
  rw [Nat.add_assoc]
  exact snapReg_of_offset (by simp only [R.HDR.SNAP]; omega) (by simp only [R.HDR.SNAP]; omega)

theorem snapReg_seq (p : Nat) : snapReg p (pageBase p + R.HDR.SNAP_SEQ) := snapReg_of_offset (by decide) (by decide)

theorem snapReg_cfg {f : Fld} (p : Nat) (h : f.addr = R.HDR.SNAP_CFG) : snapReg p (f.onPage p).addr := by
  simp only [snapReg, R.HDR.MON_SEL, Fld.onPage, h, R.HDR.SNAP_CFG]
  omega

/-- The snapshot registers and SNAP_SEQ of a page that captures. -/
def State.snapFilled (x : State) (src free p : Nat) (s : State) : State :=
  (s.fill (pageBase p + R.HDR.SNAP) (x.snapValues src free p)).setReg (pageBase p + R.HDR.SNAP_SEQ)
    (BitVec.ofNat 32 (x.get F.SNAP.TRIG_STAT.seq + 2 ^ 16 * x.snapSkew free p))

section
variable (x : State) (src free : Nat) {p : Nat} (s : State)

theorem State.capture_absent (h : x.snapTakes p = false) : x.capture src free p s = s := by
  simp [State.capture, h]

theorem State.capture_takes (h : x.snapTakes p = true) : x.capture src free p s =
    if x.on (F.HDR.SNAP_CFG.hold.onPage p) then (x.snapFilled src free p s).put (F.HDR.SNAP_CFG.held.onPage p) 1
    else x.snapFilled src free p s := by
  rw [State.capture, if_pos h]
  rfl

theorem State.snapFilled_regsOnly (hp : p < 32) : s.RegsOnly (x.snapFilled src free p s) (snapReg p) := by
  obtain ⟨-, hlt⟩ := x.snapValues_numbers src free hp
  exact (s.fill_regsOnly _ _ fun e he => snapReg_snap (hlt _ (List.mem_map_of_mem he))).setReg _ _ (snapReg_seq p)

theorem State.capture_regsOnly (hp : p < 32) : s.RegsOnly (x.capture src free p s) (snapReg p) := by
  have hfill := x.snapFilled_regsOnly src free s hp
  cases htakes : x.snapTakes p with
  | false =>
    rw [x.capture_absent src free s htakes]
    exact .refl s _
  | true =>
    rw [x.capture_takes src free s htakes]
    split
    · exact hfill.put _ _ (snapReg_cfg p rfl)
    · exact hfill

theorem State.reg_capture_congr {s u : State} {a : Nat} (h : u.reg a = s.reg a) :
    (x.capture src free p u).reg a = (x.capture src free p s).reg a := by
  have hfill : (x.snapFilled src free p u).reg a = (x.snapFilled src free p s).reg a := by
    rw [State.snapFilled, State.reg_setReg, State.reg_fill_congr h, State.snapFilled, State.reg_setReg]
  cases htakes : x.snapTakes p with
  | false => rwa [State.capture_absent _ _ _ _ htakes, State.capture_absent _ _ _ _ htakes]
  | true =>
    rw [State.capture_takes _ _ _ _ htakes, State.capture_takes _ _ _ _ htakes]
    split
    · rw [State.reg_put, State.reg_put, hfill]
      refine ite_congr rfl (fun ha => ?_) fun _ => rfl
      rw [← ha, hfill]
    · exact hfill

/-- What a page that takes part holds: the sequence with the skew, its values, and whether they are held from now on (R539, R540). -/
theorem State.capture_fields (hp : p < 32) (htakes : x.snapTakes p = true)
    (hcfg : s.reg (R.HDR.SNAP_CFG + pageBase p) = x.reg (R.HDR.SNAP_CFG + pageBase p)) :
    let t := x.capture src free p s
    t.reg (pageBase p + R.HDR.SNAP_SEQ) = BitVec.ofNat 32 (x.get F.SNAP.TRIG_STAT.seq + 2 ^ 16 * x.snapSkew free p) ∧
      t.on (F.HDR.SNAP_CFG.held.onPage p) = x.on (F.HDR.SNAP_CFG.hold.onPage p) ∧
      ∀ e ∈ x.snapValues src free p, t.reg (pageBase p + R.HDR.SNAP + 4 * e.1) = e.2 := by
  intro t
  obtain ⟨hnodup, hlt⟩ := x.snapValues_numbers src free hp
  have hother (a : Nat) (ha : a ≠ R.HDR.SNAP_CFG + pageBase p) : t.reg a = (x.snapFilled src free p s).reg a := by
    simp only [t, State.capture_takes _ _ _ _ htakes]
    split
    · exact (State.reg_put ..).trans (if_neg ha)
    · rfl
  refine ⟨?seq, ?held, fun e he => ?value⟩
  case seq =>
    rw [hother _ (by simp only [R.HDR.SNAP_SEQ, R.HDR.SNAP_CFG]; omega)]
    exact (State.reg_setReg ..).trans (if_pos rfl)
  case held =>
    have hoff : x.on (F.HDR.SNAP_CFG.held.onPage p) = false := by
      simp only [State.snapTakes, Bool.and_eq_true, Bool.not_eq_true'] at htakes
      exact htakes.1.1.2
    have hfill : (x.snapFilled src free p s).reg (R.HDR.SNAP_CFG + pageBase p) = x.reg (R.HDR.SNAP_CFG + pageBase p) := by
      have hvalues := s.fill_regsOnly (pageBase p + R.HDR.SNAP) (x.snapValues src free p) (P := (· ≠ R.HDR.SNAP_CFG + pageBase p))
        fun e _ => by simp only [R.HDR.SNAP, R.HDR.SNAP_CFG]; omega
      rw [← hcfg, ← hvalues.reg _ (by simp)]
      exact (State.reg_setReg ..).trans (if_neg (by simp only [R.HDR.SNAP_SEQ, R.HDR.SNAP_CFG]; omega))
    simp only [t, State.capture_takes _ _ _ _ htakes]
    cases hhold : x.on (F.HDR.SNAP_CFG.hold.onPage p) with
    | true => exact State.on_of_get (State.get_put _ (F.HDR.SNAP_CFG.held.onPage p) 1 rfl)
    | false =>
      have hget : (x.snapFilled src free p s).get (F.HDR.SNAP_CFG.held.onPage p) = x.get (F.HDR.SNAP_CFG.held.onPage p) :=
        congrArg (Fld.get (F.HDR.SNAP_CFG.held.onPage p)) hfill
      exact (State.on_congr hget).trans hoff
  case value =>
    have hk : e.1 < 16 := hlt _ (List.mem_map_of_mem he)
    rw [hother _ (by simp only [R.HDR.SNAP, R.HDR.SNAP_CFG]; omega), ← State.reg_fill (pageBase p + R.HDR.SNAP) hnodup s he]
    exact (State.reg_setReg ..).trans (if_neg (by simp only [R.HDR.SNAP, R.HDR.SNAP_SEQ]; omega))

end

/-! ### All pages -/

theorem State.captures_regsOnly (x : State) (src free : Nat) {l : List Nat} (hlt : ∀ q ∈ l, q < 32) (s : State) :
    s.RegsOnly (foldState (x.capture src free) l s) (fun a => ∃ q ∈ l, snapReg q a) :=
  .foldState fun q hq u =>
    have h := x.capture_regsOnly src free u (hlt q hq)
    ⟨fun a ha => h.reg a fun hsnap => ha ⟨q, hq, hsnap⟩, h.rest⟩

/-- Every page captures from the state at the trigger: a register of page `p` is what that page alone makes of it. -/
theorem State.reg_captures (x : State) (src free : Nat) {l : List Nat} (hl : l.Nodup) (hlt : ∀ q ∈ l, q < 32) (s : State) {p a : Nat}
    (hp : p ∈ l) (ha : snapReg p a) : (foldState (x.capture src free) l s).reg a = (x.capture src free p s).reg a := by
  induction l generalizing s with
  | nil => exact absurd hp List.not_mem_nil
  | cons q l ih =>
    obtain ⟨hq, hl⟩ := List.nodup_cons.1 hl
    have hrest : ∀ r ∈ l, r < 32 := fun r hr => hlt r (List.mem_cons_of_mem q hr)
    obtain rfl | hpl := List.mem_cons.1 hp
    · refine (x.captures_regsOnly src free hrest _).reg a ?_
      rintro ⟨r, hr, hra⟩
      exact hq (snapReg_unique ha hra ▸ hr)
    · have hqa : ¬ snapReg q a := fun h => hq (snapReg_unique ha h ▸ hpl)
      exact (ih hl hrest _ hpl).trans (x.reg_capture_congr src free ((x.capture_regsOnly src free s (hlt q List.mem_cons_self)).reg a hqa))

/-! ### A firing (R538, R539, R541) -/

/-- The state that the pages capture from: the sequence counts on, and t_SNAPGAP runs. -/
def State.triggered (s : State) : State :=
  { s.put F.SNAP.TRIG_STAT.seq (s.get F.SNAP.TRIG_STAT.seq + 1) with fresh := s.fresh + 64, aon := { s.aon with snapGap := true } }

/-- All pages capture. -/
def State.captured (s : State) (src : Nat) : State := foldState (s.triggered.capture src s.fresh) (numsFrom 32 0) s.triggered

theorem State.fire_eq (s : State) (src : Nat) : s.fire src =
    ((s.captured src).irq pageSNAP 0).trace 0x31 0 .field ((s.captured src).get F.SNAP.TRIG_STAT.seq) src := rfl

/-- The sequence wraps from 65,535 to 0. -/
theorem State.triggered_eq (s : State) : s.triggered =
    { s.put F.SNAP.TRIG_STAT.seq ((s.get F.SNAP.TRIG_STAT.seq + 1) % 65536) with
      fresh := s.fresh + 64, aon := { s.aon with snapGap := true } } := by
  have hput : s.put F.SNAP.TRIG_STAT.seq ((s.get F.SNAP.TRIG_STAT.seq + 1) % 65536) =
      s.put F.SNAP.TRIG_STAT.seq (s.get F.SNAP.TRIG_STAT.seq + 1) := by
    simp [State.put, Fld.put, Fld.width, F.SNAP.TRIG_STAT.seq]
  rw [hput, State.triggered]

/-- A trace record is queued, or lost and counted in LOST. -/
theorem State.trace_eq (s : State) (type core : Nat) (w : World) (arg arg2 : Nat) :
    ∃ r f n, s.trace type core w arg arg2 = { s with regs := r, trcFifo := f, trcLost := n } ∧
      ∀ a, a ≠ R.TRC.LOST → a ≠ R.HDR.IRQ_RAW + pageBase pageTRC → tabGet 0 r a = s.reg a := by
  unfold State.trace State.tracePush
  split
  · split
    · exact ⟨_, _, _, rfl, fun _ _ _ => rfl⟩
    · exact ⟨_, _, _, rfl, fun a hlost hirq =>
        ((State.reg_put ..).trans (if_neg hirq)).trans ((State.reg_put ..).trans (if_neg hlost))⟩
  · exact ⟨_, _, _, rfl, fun _ _ _ => rfl⟩

theorem State.captured_regsOnly (s : State) (src : Nat) : s.triggered.RegsOnly (s.captured src) (fun a => ∃ p ∈ numsFrom 32 0, snapReg p a) :=
  s.triggered.captures_regsOnly src s.fresh (fun q hq => by simpa using lt_of_mem_numsFrom hq) s.triggered

theorem snapReg_offset {p a : Nat} (h : snapReg p a) : 0x2C ≤ a % 0x1000 ∧ a % 0x1000 < 0x74 := by
  simp only [snapReg, pageBase, R.HDR.SNAP_CFG, R.HDR.MON_SEL] at h
  omega

section
variable (s : State) (src : Nat)

theorem State.fire_keeps : (s.fire src).mem = s.mem ∧ (s.fire src).aon = { s.aon with snapGap := true } := by
  obtain ⟨r, f, n, h, -⟩ := ((s.captured src).irq pageSNAP 0).trace_eq 0x31 0 .field
    ((s.captured src).get F.SNAP.TRIG_STAT.seq) src
  rw [State.fire_eq, h]
  exact ⟨(s.captured_regsOnly src).mem, (s.captured_regsOnly src).aon⟩

/-- Once all is settled, a register is what the captures left, but for the event of the firing and a lost record of the trace. -/
theorem State.reg_fire {a : Nat} (hset : settledReg a = false) (hlost : a ≠ R.TRC.LOST) (htrc : a ≠ R.HDR.IRQ_RAW + pageBase pageTRC) :
    (s.fire src).settle.reg a = ((s.captured src).irq pageSNAP 0).reg a := by
  obtain ⟨r, f, n, h, hkeep⟩ := ((s.captured src).irq pageSNAP 0).trace_eq 0x31 0 .field
    ((s.captured src).get F.SNAP.TRIG_STAT.seq) src
  rw [State.reg_settle _ _ hset, State.fire_eq, h]
  exact hkeep a hlost htrc

theorem State.fire_event : (s.fire src).settle.on (eventBit pageSNAP 0) = true :=
  State.on_of_get ((congrArg (eventBit pageSNAP 0).get (s.reg_fire src (by decide) (by decide) (by decide))).trans
    (State.get_irq_eventBit _ _ _ (by decide)))

/-- The fields of TRIG_STAT are those that the pages capture from. -/
theorem State.get_fire_stat {f : Fld} (hf : f.addr = R.SNAP.TRIG_STAT) : (s.fire src).settle.get f = s.triggered.get f := by
  have hcaptured : (s.captured src).reg R.SNAP.TRIG_STAT = s.triggered.reg R.SNAP.TRIG_STAT := by
    refine (s.captured_regsOnly src).reg _ ?_
    rintro ⟨p, -, hp⟩
    exact absurd (snapReg_offset hp) (by decide)
  rw [State.get, hf, s.reg_fire src (by decide) (by decide) (by decide), State.get, hf]
  exact congrArg f.get (((State.reg_put ..).trans (if_neg (by decide))).trans hcaptured)

/-- The sequence counts on, and wraps from 65,535 to 0 (R538). -/
theorem State.triggered_seq : s.triggered.get F.SNAP.TRIG_STAT.seq = (s.get F.SNAP.TRIG_STAT.seq + 1) % 65536 :=
  State.get_put s _ _ (by decide)

theorem State.reg_fire_snapReg {p a : Nat} (hp : p < 32) (ha : snapReg p a) :
    (s.fire src).settle.reg a = (s.triggered.capture src s.fresh p s.triggered).reg a := by
  have hoff := snapReg_offset ha
  have hirq (q : Nat) : a ≠ R.HDR.IRQ_RAW + pageBase q := by
    rintro rfl
    simp only [R.HDR.IRQ_RAW, pageBase] at hoff
    omega
  have hlost : a ≠ R.TRC.LOST := by
    rintro rfl
    exact absurd hoff (by decide)
  rw [s.reg_fire src (settledReg_of_snapReg ha) hlost (hirq _)]
  have hall : ∀ q < 32, q ∈ numsFrom 32 0 := by decide
  exact ((State.reg_put ..).trans (if_neg (hirq _))).trans
    (s.triggered.reg_captures src s.fresh (by decide) (fun q hq => by simpa using lt_of_mem_numsFrom hq) _ (hall p hp) ha)

end

end Sys2Proof.Machine
end

section
/-!
PROOFS. The pages of the common trigger in the terms of the state before it, and the firings of the snapshot sequencer (R538 to R541).
-/
namespace Sys2Proof.Machine
open Sys2Proof

/-- Page `p` takes part in a trigger (R539). -/
def State.takesPart (s : State) (p : Nat) : Prop :=
  s.on (F.HDR.SNAP_CFG.en.onPage p) = true ∧ s.on (F.HDR.SNAP_CFG.held.onPage p) = false ∧
    (pageDomain p = 0 ∨ s.pdOn (pageDomain p) = true) ∧ (s.ck06 = true ∨ pageDomain p ≤ 1)

theorem State.snapTakes_iff (s : State) (p : Nat) : s.snapTakes p = true ↔ s.takesPart p := by
  simp [State.snapTakes, State.takesPart, and_assoc]

/-- The trigger fires in `u`, which holds what `s` does wherever a page may look. -/
structure State.FiresOn (s u : State) : Prop where
  reg : ∀ a, a ≠ R.SNAP.TRIG_STAT → u.reg a = s.reg a
  seq : u.get F.SNAP.TRIG_STAT.seq = s.get F.SNAP.TRIG_STAT.seq
  pstate : u.aon.pstate = s.aon.pstate
  emCount : u.aon.emCount = s.aon.emCount
  time : u.aon.time = s.aon.time

theorem State.get_congr {s t : State} {f : Fld} (h : t.reg f.addr = s.reg f.addr) : t.get f = s.get f := congrArg f.get h

/-- CK06 depends on the domains that are on and on the power state (R72, R84). -/
theorem State.ck06_congr {s t : State} (hreg : t.reg R.PWR.DOMAIN = s.reg R.PWR.DOMAIN) (hp : t.aon.pstate = s.aon.pstate) :
    t.ck06 = s.ck06 := by
  have hlogic : t.anyLogicOn = s.anyLogicOn :=
    congrArg (fun w => decide (Fld.get ⟨F.PWR.DOMAIN.on.addr, F.PWR.DOMAIN.on.lo + 13, F.PWR.DOMAIN.on.lo + 2⟩ w ≠ 0)) hreg
  have hblock : t.anyBlockOn = s.anyBlockOn :=
    congrArg (fun w => decide (Fld.get ⟨F.PWR.DOMAIN.on.addr, F.PWR.DOMAIN.on.lo + 13, F.PWR.DOMAIN.on.lo + 8⟩ w ≠ 0)) hreg
  rw [State.ck06, hlogic, hblock, hp, State.ck06]

section
variable {s u : State} (h : s.FiresOn u)
include h

theorem State.FiresOn.reg_triggered {a : Nat} (ha : a ≠ R.SNAP.TRIG_STAT) : u.triggered.reg a = s.reg a :=
  ((State.reg_put ..).trans (if_neg ha)).trans (h.reg a ha)

theorem State.FiresOn.ck06 : u.triggered.ck06 = s.ck06 := State.ck06_congr (h.reg_triggered (by decide)) h.pstate

theorem State.FiresOn.on_cfg {f : Fld} (p : Nat) (hf : f.addr = R.HDR.SNAP_CFG) : u.triggered.on (f.onPage p) = s.on (f.onPage p) := by
  refine State.on_congr (State.get_congr (h.reg_triggered fun hstat => ?_))
  have hoff := snapReg_offset (hstat ▸ snapReg_cfg p hf)
  exact absurd hoff (by decide)

theorem State.FiresOn.snapTakes (p : Nat) : u.triggered.snapTakes p = s.snapTakes p := by
  rw [State.snapTakes, h.on_cfg p rfl, h.on_cfg p rfl, State.pdOn_congr (h.reg_triggered (by decide)), h.ck06, State.snapTakes]

/-- A skew is 0xFF while CK06 stands, else at most 254 (R539). -/
theorem State.FiresOn.skew (p : Nat) :
    u.triggered.snapSkew u.fresh p ≤ 255 ∧ (s.ck06 = false → u.triggered.snapSkew u.fresh p = 255) ∧
      (s.ck06 = true → u.triggered.snapSkew u.fresh p ≤ 254) := by
  rw [State.snapSkew, h.ck06]
  have hlt := Nat.mod_lt (Config.freeNat (u.fresh + 32 + p)) (show 0 < 255 by decide)
  cases s.ck06 with
  | false => exact ⟨Nat.le_refl _, fun _ => rfl, fun h => absurd h (by decide)⟩
  | true => exact ⟨Nat.le_of_lt hlt, fun h => absurd h (by decide), fun _ => Nat.le_of_lt_succ hlt⟩

end

section
variable {s u : State} (h : s.FiresOn u) (src : Nat) {p : Nat} (hp : p < 32)
include h hp

/-- What a page that takes part holds after the firing. -/
theorem State.fire_takesPart (htakes : s.takesPart p) :
    let t := (u.fire src).settle
    (t.reg (pageBase p + R.HDR.SNAP_SEQ)).toNat = (s.get F.SNAP.TRIG_STAT.seq + 1) % 65536 + 2 ^ 16 * u.triggered.snapSkew u.fresh p ∧
      t.on (F.HDR.SNAP_CFG.held.onPage p) = s.on (F.HDR.SNAP_CFG.hold.onPage p) ∧
      ∀ e ∈ u.triggered.snapValues src u.fresh p, t.reg (pageBase p + (R.HDR.SNAP + 4 * e.1)) = e.2 := by
  intro t
  have hx : u.triggered.snapTakes p = true := (h.snapTakes p).trans ((s.snapTakes_iff p).2 htakes)
  obtain ⟨hseq, hheld, hvalues⟩ := u.triggered.capture_fields src u.fresh u.triggered hp hx rfl
  obtain ⟨-, hlt⟩ := u.triggered.snapValues_numbers src u.fresh hp
  have hreg {a : Nat} (ha : snapReg p a) : t.reg a = (u.triggered.capture src u.fresh p u.triggered).reg a := u.reg_fire_snapReg src hp ha
  refine ⟨?seq, ?held, fun e he => ?value⟩
  case seq =>
    have hcount : u.triggered.get F.SNAP.TRIG_STAT.seq = (s.get F.SNAP.TRIG_STAT.seq + 1) % 65536 := by
      rw [u.triggered_seq, h.seq]
    have hskew := (h.skew p).1
    rw [hreg (snapReg_seq p), hseq, hcount, BitVec.toNat_ofNat]
    omega
  case held =>
    have hget : t.get (F.HDR.SNAP_CFG.held.onPage p) =
        (u.triggered.capture src u.fresh p u.triggered).get (F.HDR.SNAP_CFG.held.onPage p) := State.get_congr (hreg (snapReg_cfg p rfl))
    exact (State.on_congr hget).trans (hheld.trans (h.on_cfg p rfl))
  case value =>
    have haddr := Nat.add_assoc (pageBase p) R.HDR.SNAP (4 * e.1)
    rw [← haddr, hreg (snapReg_snap (hlt _ (List.mem_map_of_mem he)))]
    exact hvalues e he

/-- A page that does not take part keeps what it has. -/
theorem State.fire_absent (htakes : ¬ s.takesPart p) {a : Nat} (ha : snapReg p a) : (u.fire src).settle.reg a = s.reg a := by
  have hx : u.triggered.snapTakes p = false := by
    rw [h.snapTakes, ← Bool.not_eq_true, s.snapTakes_iff]
    exact htakes
  rw [u.reg_fire_snapReg src hp ha, State.capture_absent _ _ _ _ hx]
  refine h.reg_triggered ?_
  rintro rfl
  exact absurd (snapReg_offset ha) (by decide)

end

/-- A page of the chapters' tables captures the values of its registers. -/
theorem State.snapValues_regs (x : State) (src free : Nat) {p : Nat} {e : Nat × Nat} (he : e ∈ snapRegs p) :
    (e.1, x.regValue (Config.freeNat free) e.2) ∈ x.snapValues src free p := by
  have hsnap : p ≠ pageSNAP := by
    rintro rfl
    exact absurd he List.not_mem_nil
  have hring : p ≠ pageRING := by
    rintro rfl
    exact absurd he List.not_mem_nil
  rw [State.snapValues, if_neg hsnap, if_neg hring]
  exact List.mem_map_of_mem he

/-- The SNAP page's own values stand in the order of its table. -/
theorem State.snapValues_own (x : State) (src free : Nat) {k : Nat} {w : Word} (h : (x.snapOwn src)[k]? = some w) :
    (k, w) ∈ x.snapValues src free pageSNAP := by
  have hten : (numsFrom 16 0).zip (x.snapOwn src) = (x.snapOwn src).zipIdx.map Prod.swap := rfl
  rw [State.snapValues, if_pos rfl, hten]
  exact List.mem_map.2 ⟨(w, k), List.mem_zipIdx_iff_getElem?.2 h, rfl⟩

/-- What the SNAP page captures of itself: the energy meter, the time base, the source bits, and the first values of its previous capture. -/
theorem State.fire_own {s u : State} (h : s.FiresOn u) (src : Nat) (htakes : s.takesPart pageSNAP) :
    let t := (u.fire src).settle
    let now (k : Nat) : Word := t.reg (pageBase pageSNAP + (R.HDR.SNAP + 4 * k))
    (∀ k < 4, now (6 + k) = s.reg (pageBase pageSNAP + (R.HDR.SNAP + 4 * k))) ∧ (now 0).toNat = s.aon.emCount % 2 ^ 32 ∧
      (now 2).toNat = s.aon.time % 2 ^ 32 ∧ now 5 = BitVec.ofNat 32 src := by
  intro t now
  obtain ⟨-, -, hvalues⟩ := State.fire_takesPart h src (by decide) htakes
  have hnow {k : Nat} {w : Word} (hw : (u.triggered.snapOwn src)[k]? = some w) : now k = w :=
    hvalues (k, w) (u.triggered.snapValues_own src u.fresh hw)
  refine ⟨fun k hk => ?_, ?_, ?_, hnow rfl⟩
  · have hold : now (6 + k) = u.triggered.reg (pageBase pageSNAP + (R.HDR.SNAP + 4 * k)) := hnow <|
      match k, hk with
      | 0, _ | 1, _ | 2, _ | 3, _ => rfl
    refine hold.trans (h.reg_triggered ?_)
    simp only [pageBase, pageSNAP, R.HDR.SNAP, R.SNAP.TRIG_STAT]
    omega
  · rw [hnow rfl, BitVec.toNat_ofNat, ← h.emCount]
    rfl
  · rw [hnow rfl, BitVec.toNat_ofNat, ← h.time]
    rfl

end Sys2Proof.Machine
end

section
/-!
PROOFS. A monitor's sample (R542, R543).
-/
namespace Sys2Proof.Machine
open Sys2Proof

theorem exec_monSample (p : Fin 32) (v : Word) (s : State) : exec (.monSample p v) s = .next (s.monSample p v.toNat).settle := rfl

/-- The registers in which a monitor that saturates is noted (R543). -/
def monNote (a : Nat) : Prop := a = R.SNAP.MON_SAT ∨ a = R.HDR.IRQ_RAW + pageBase pageSNAP

/-- Page `p` is noted as one with a saturated register, and the event of it is raised. -/
def State.satNoted (s : State) (p : Nat) : Prop := s.get (F.SNAP.MON_SAT.sat.bit p) = 1 ∧ s.get (eventBit pageSNAP 1) = 1

theorem State.setReg_satNoted {s : State} {p a : Nat} (h : s.satNoted p) (ha : ¬ monNote a) (w : Word) : (s.setReg a w).satNoted p := by
  obtain ⟨hsat, hevent⟩ := h
  exact ⟨(State.get_setReg_addr _ _ _ _ fun e => ha (.inl e.symm)).trans hsat,
    (State.get_setReg_addr _ _ _ _ fun e => ha (.inr e.symm)).trans hevent⟩

/-- Noting page `p`. -/
theorem State.noteSat_satNoted (s : State) {p : Nat} (hp : p < 32) : ((s.put (F.SNAP.MON_SAT.sat.bit p) 1).irq pageSNAP 1).satNoted p := by
  have hok : (F.SNAP.MON_SAT.sat.bit p).ok = true := by simp [F.SNAP.MON_SAT.sat, Fld.bit, Fld.ok]; omega
  have hwidth : (F.SNAP.MON_SAT.sat.bit p).width = 1 := by simp [Fld.bit, Fld.width]
  have hput := State.get_put s (F.SNAP.MON_SAT.sat.bit p) 1 hok
  rw [hwidth] at hput
  exact ⟨(State.get_irq _ _ _ _ (by simp [F.SNAP.MON_SAT.sat, Fld.bit, R.HDR.IRQ_RAW, pageBase, pageSNAP])).trans hput,
    State.get_irq_eventBit _ _ _ (by decide)⟩

section
variable (s : State) (p a n : Nat)

theorem satAdd_ones (m k : Nat) : satAdd 0xFFFFFFFF m k = min 0xFFFFFFFF (m + k) := by
  unfold satAdd
  split <;> omega

theorem State.monAdd_regsOnly {P : Nat → Prop} (ha : P a) (hnote : ∀ a, monNote a → P a) : s.RegsOnly (s.monAdd p a n) P := by
  have hset := (State.RegsOnly.refl s P).setReg a (BitVec.ofNat 32 (satAdd 0xFFFFFFFF (s.reg a).toNat n)) ha
  unfold State.monAdd
  dsimp only
  split
  · exact (hset.put _ _ (hnote _ (.inl rfl))).irq _ _ (hnote _ (.inr rfl))
  · exact hset

/-- What is added to a register of a monitor saturates at all ones (R543). -/
theorem State.reg_monAdd (ha : ¬ monNote a) : ((s.monAdd p a n).reg a).toNat = min 0xFFFFFFFF ((s.reg a).toNat + n) := by
  have hold := (s.reg a).isLt
  have hset : ((s.setReg a (BitVec.ofNat 32 (satAdd 0xFFFFFFFF (s.reg a).toNat n))).reg a).toNat = min 0xFFFFFFFF ((s.reg a).toNat + n) := by
    rw [State.reg_setReg, if_pos rfl, satAdd_ones, BitVec.toNat_ofNat]
    omega
  unfold State.monAdd
  dsimp only
  split
  · refine Eq.trans (congrArg BitVec.toNat ?_) hset
    exact ((State.reg_put ..).trans (if_neg fun e => ha (.inr e))).trans ((State.reg_put ..).trans (if_neg fun e => ha (.inl e)))
  · exact hset

/-- A register that comes to saturate is noted, and what is noted stays so (R543). -/
theorem State.monAdd_satNoted {p : Nat} (hp : p < 32) (ha : ¬ monNote a)
    (h : s.satNoted p ∨ ((s.reg a).toNat < 0xFFFFFFFF ∧ 0xFFFFFFFF ≤ (s.reg a).toNat + n)) : (s.monAdd p a n).satNoted p := by
  unfold State.monAdd
  dsimp only
  split
  case isTrue => exact State.noteSat_satNoted _ hp
  case isFalse hno =>
    obtain h | ⟨hlow, hfull⟩ := h
    · exact State.setReg_satNoted h ha _
    · rw [satAdd_ones] at hno
      omega

end

/-! ### What a register of a monitor has counted -/

/-- In `t`, the register at `a` of page `p`'s monitor holds `n` more than in `s`, and page `p` is noted if that was the first to be too much. -/
def State.counted (s t : State) (p a n : Nat) : Prop :=
  (t.reg a).toNat = min 0xFFFFFFFF ((s.reg a).toNat + n) ∧
    ((s.reg a).toNat < 0xFFFFFFFF → 0xFFFFFFFF ≤ (s.reg a).toNat + n → t.satNoted p)

theorem State.monAdd_counted (s : State) {p a : Nat} (n : Nat) (hp : p < 32) (ha : ¬ monNote a) : s.counted (s.monAdd p a n) p a n :=
  ⟨s.reg_monAdd p a n ha, fun hlow hfull => s.monAdd_satNoted a n hp ha (.inr ⟨hlow, hfull⟩)⟩

/-- Counting in one register leaves the others of the monitor. -/
theorem State.reg_monAdd_other (s : State) (p n : Nat) {a b : Nat} (hab : a ≠ b) (ha : ¬ monNote a) : (s.monAdd p b n).reg a = s.reg a :=
  (s.monAdd_regsOnly p b n (P := fun c => c = b ∨ monNote c) (.inl rfl) fun _ hc => .inr hc).reg a fun h => h.elim hab ha

section
variable {s t : State} {p a n : Nat}

theorem State.counted.monAdd {b : Nat} (h : s.counted t p a n) (m : Nat) (hp : p < 32) (ha : ¬ monNote a) (hb : ¬ monNote b) (hab : a ≠ b) :
    s.counted (t.monAdd p b m) p a n := by
  obtain ⟨hreg, hsat⟩ := h
  rw [State.counted, t.reg_monAdd_other p m hab ha]
  exact ⟨hreg, fun hlow hfull => t.monAdd_satNoted b m hp hb (.inl (hsat hlow hfull))⟩

/-- It counts from the value that the register had before, unchanged since. -/
theorem State.counted.since {r : State} (h : s.counted t p a n) (hreg : s.reg a = r.reg a) : r.counted t p a n := by
  rwa [State.counted, ← hreg]

end

/-! ### A sample -/

theorem monBin_lt (sh base v : Nat) : monBin sh base v < 16 := by
  unfold monBin
  dsimp only
  split
  · omega
  split
  · omega
  · exact Nat.div_lt_of_lt_mul (by omega)

/-- The monitor of a page that is on and runs. -/
def State.monRuns (s : State) (p : Nat) : Prop :=
  (pageDomain p = 0 ∨ s.pdOn (pageDomain p) = true) ∧ s.on (F.HDR.MON_CTRL.run.onPage p) = true

/-- The bin that a sample of page `p` falls in. -/
def State.sampleBin (s : State) (p v : Nat) : Nat :=
  monBin (s.get (F.HDR.MON_SEL.bin_shift.onPage p)) (s.get (F.HDR.MON_CTRL.bin_base.onPage p)) v

/-- The extremes that a sample leaves. -/
def State.monExtremes (s : State) (p v : Nat) : State :=
  let s := s.setReg (pageBase p + R.HDR.MON_MIN) (BitVec.ofNat 32 (min v (s.reg (pageBase p + R.HDR.MON_MIN)).toNat))
  s.setReg (pageBase p + R.HDR.MON_MAX) (BitVec.ofNat 32 (max v (s.reg (pageBase p + R.HDR.MON_MAX)).toNat))

theorem State.monSample_runs {s : State} {p : Nat} (h : s.monRuns p) (v : Nat) : s.monSample p v =
    (((s.monExtremes p v).monAdd p (pageBase p + R.HDR.MON_BIN + 4 * s.sampleBin p v) 1).monAdd p (pageBase p + R.HDR.MON_COUNT) 1).monAdd p
      (pageBase p + R.HDR.MON_SUM) v := by
  rw [State.monSample]
  dsimp only
  rw [if_pos (by simpa [State.monRuns] using h)]
  rfl

theorem State.monSample_stands {s : State} {p : Nat} (h : ¬ s.monRuns p) (v : Nat) : s.monSample p v = s := by
  rw [State.monSample]
  dsimp only
  rw [if_neg (by simpa [State.monRuns] using h)]


/-- The registers of a monitor stand apart from those that note its saturation. -/
theorem not_monNote {p r : Nat} (hlow : 0x78 ≤ r) (hhigh : r < 0x100) : ¬ monNote (pageBase p + r) := by
  simp only [monNote, pageBase, pageSNAP, R.SNAP.MON_SAT, R.HDR.IRQ_RAW]
  omega

theorem State.reg_monExtremes (s : State) (p v r : Nat) (hr : 0x80 ≤ r) : (s.monExtremes p v).reg (pageBase p + r) = s.reg (pageBase p + r) := by
  refine ((State.reg_setReg ..).trans (if_neg ?_)).trans ((State.reg_setReg ..).trans (if_neg ?_)) <;>
    simp only [R.HDR.MON_MAX, R.HDR.MON_MIN] <;> omega

theorem State.monExtremes_fields (s : State) (p v : Nat) :
    (s.monExtremes p v).reg (pageBase p + R.HDR.MON_MIN) = BitVec.ofNat 32 (min v (s.reg (pageBase p + R.HDR.MON_MIN)).toNat) ∧
      (s.monExtremes p v).reg (pageBase p + R.HDR.MON_MAX) = BitVec.ofNat 32 (max v (s.reg (pageBase p + R.HDR.MON_MAX)).toNat) := by
  have hne : pageBase p + R.HDR.MON_MIN ≠ pageBase p + R.HDR.MON_MAX := by simp [R.HDR.MON_MIN, R.HDR.MON_MAX]
  simp only [State.monExtremes, State.reg_setReg, if_neg hne, if_neg hne.symm, if_pos, and_self]

/-- The registers that a sample in bin `k` may change: those of the monitor, and those that note a saturation. -/
def monRegs (p k : Nat) : List Nat :=
  [pageBase p + (R.HDR.MON_BIN + 4 * k), pageBase p + R.HDR.MON_COUNT, pageBase p + R.HDR.MON_SUM, pageBase p + R.HDR.MON_MIN,
    pageBase p + R.HDR.MON_MAX, R.SNAP.MON_SAT, R.HDR.IRQ_RAW + pageBase pageSNAP]

section
variable {s : State} {p : Nat} (h : s.monRuns p) (v : Nat)
include h

/-- A sample counts in its bin, in the count and in the sum (R542). -/
theorem State.monSample_counted (hp : p < 32) :
    s.counted (s.monSample p v) p (pageBase p + (R.HDR.MON_BIN + 4 * s.sampleBin p v)) 1 ∧
      s.counted (s.monSample p v) p (pageBase p + R.HDR.MON_COUNT) 1 ∧ s.counted (s.monSample p v) p (pageBase p + R.HDR.MON_SUM) v := by
  have hbin : s.sampleBin p v < 16 := monBin_lt ..
  rw [State.monSample_runs h, Nat.add_assoc]
  generalize s.sampleBin p v = k at hbin
  let e := s.monExtremes p v
  have hlow : 0x80 ≤ R.HDR.MON_BIN + 4 * k := Nat.le_add_right ..
  have hhigh : R.HDR.MON_BIN + 4 * k < 0xC0 := by simp only [R.HDR.MON_BIN]; omega
  have hk : ¬ monNote (pageBase p + (R.HDR.MON_BIN + 4 * k)) := not_monNote (by omega) (by omega)
  have hcount : ¬ monNote (pageBase p + R.HDR.MON_COUNT) := not_monNote (by decide) (by decide)
  have hsum : ¬ monNote (pageBase p + R.HDR.MON_SUM) := not_monNote (by decide) (by decide)
  have hkc : pageBase p + (R.HDR.MON_BIN + 4 * k) ≠ pageBase p + R.HDR.MON_COUNT := by simp only [R.HDR.MON_BIN, R.HDR.MON_COUNT]; omega
  have hks : pageBase p + (R.HDR.MON_BIN + 4 * k) ≠ pageBase p + R.HDR.MON_SUM := by simp only [R.HDR.MON_BIN, R.HDR.MON_SUM]; omega
  have hcs : pageBase p + R.HDR.MON_COUNT ≠ pageBase p + R.HDR.MON_SUM := by simp only [R.HDR.MON_COUNT, R.HDR.MON_SUM]; omega
  refine ⟨?bin, ?count, ?sum⟩
  case bin => exact (((e.monAdd_counted 1 hp hk).monAdd 1 hp hk hcount hkc).monAdd v hp hk hsum hks).since (s.reg_monExtremes p v _ hlow)
  case count =>
    refine ((State.monAdd_counted _ 1 hp hcount).monAdd v hp hcount hsum hcs).since ?_
    rw [State.reg_monAdd_other _ _ _ hkc.symm hcount, s.reg_monExtremes p v _ (by decide)]
  case sum =>
    refine (State.monAdd_counted _ v hp hsum).since ?_
    rw [State.reg_monAdd_other _ _ _ hcs.symm hsum, State.reg_monAdd_other _ _ _ hks.symm hsum, s.reg_monExtremes p v _ (by decide)]

/-- A sample moves the extremes (R542). -/
theorem State.monSample_extremes (hv : v < 2 ^ 32) :
    ((s.monSample p v).reg (pageBase p + R.HDR.MON_MIN)).toNat = min v (s.reg (pageBase p + R.HDR.MON_MIN)).toNat ∧
      ((s.monSample p v).reg (pageBase p + R.HDR.MON_MAX)).toNat = max v (s.reg (pageBase p + R.HDR.MON_MAX)).toNat := by
  have hkeep {r : Nat} (hlow : 0x78 ≤ r) (hhigh : r < 0x80) :
      (s.monSample p v).reg (pageBase p + r) = (s.monExtremes p v).reg (pageBase p + r) := by
    have hr := not_monNote (p := p) hlow (by omega)
    rw [State.monSample_runs h, State.reg_monAdd_other _ _ _ (by simp only [R.HDR.MON_SUM]; omega) hr,
      State.reg_monAdd_other _ _ _ (by simp only [R.HDR.MON_COUNT]; omega) hr,
      State.reg_monAdd_other _ _ _ (by simp only [R.HDR.MON_BIN]; omega) hr]
  have hmin := (s.reg (pageBase p + R.HDR.MON_MIN)).isLt
  have hmax := (s.reg (pageBase p + R.HDR.MON_MAX)).isLt
  obtain ⟨hlow, hhigh⟩ := s.monExtremes_fields p v
  rw [hkeep (by decide) (by decide), hkeep (by decide) (by decide), hlow, hhigh, BitVec.toNat_ofNat, BitVec.toNat_ofNat]
  omega

theorem State.monSample_regsOnly : s.RegsOnly (s.monSample p v) (· ∈ monRegs p (s.sampleBin p v)) := by
  have hnote (a : Nat) (ha : monNote a) : a ∈ monRegs p (s.sampleBin p v) := by
    obtain rfl | rfl := ha <;> simp [monRegs]
  rw [State.monSample_runs h, Nat.add_assoc]
  refine .trans (.trans (.trans ?extremes (State.monAdd_regsOnly _ _ _ _ ?bin hnote)) (State.monAdd_regsOnly _ _ _ _ ?count hnote))
    (State.monAdd_regsOnly _ _ _ _ ?sum hnote)
  case extremes => exact ((State.RegsOnly.refl s _).setReg _ _ (by simp [monRegs])).setReg _ _ (by simp [monRegs])
  all_goals simp [monRegs]

end

end Sys2Proof.Machine
end

section
/-!
PROOFS. The common trigger and the monitors together (R538 to R543).
-/
namespace Sys2Proof.Machine
open Sys2Proof

/-! ### The sequencer's firings (R541) -/

theorem State.snapFiring_fires {s : State} (hevents : s.aon.snapEvents ≠ 0) (hgap : s.aon.snapGap = false) :
    s.snapFiring = ({ s with aon := { s.aon with snapEvents := 0 } } : State).fire s.aon.snapEvents := by
  simp [State.snapFiring, hevents, hgap]

theorem State.snapFiring_waits {s : State} (h : s.aon.snapEvents = 0 ∨ s.aon.snapGap = true) : s.snapFiring = s := by
  obtain h | h := h <;> simp [State.snapFiring, h]

theorem State.snapMergedFire_ends {s : State} (hgap : s.aon.snapGap = true) (hmerged : s.aon.snapMerged = 0) :
    s.snapMergedFire = { s with aon := { s.aon with snapGap := false } } := by
  rw [State.snapMergedFire]
  simp [hgap, hmerged]

/-- The merged events fire in this state: t_SNAPGAP has passed, and none of them waits any more. -/
def State.unmerged (s : State) : State :=
  ({ s with aon := { s.aon with snapGap := false, snapMerged := 0 } } : State).put F.SNAP.TRIG_STAT.pending 0

theorem State.unmerged_pending (s : State) : s.unmerged.triggered.get F.SNAP.TRIG_STAT.pending = 0 :=
  (State.get_put_other _ _ _ _ (by decide) (by decide) (by decide)).trans (State.get_put _ _ _ (by decide))

theorem State.snapMergedFire_fires {s : State} (hgap : s.aon.snapGap = true) (hmerged : s.aon.snapMerged ≠ 0) :
    s.snapMergedFire = s.unmerged.fire s.aon.snapMerged := by
  unfold State.snapMergedFire
  exact (if_neg (by simp [hgap])).trans (if_neg hmerged)

theorem State.firesOn_waiting (s : State) : s.FiresOn { s with aon := { s.aon with snapEvents := 0 } } :=
  ⟨fun _ _ => rfl, rfl, rfl, rfl, rfl⟩

theorem State.firesOn_unmerged (s : State) : s.FiresOn s.unmerged :=
  ⟨fun _ ha => (State.reg_put ..).trans (if_neg ha), State.get_put_other _ _ _ _ (by decide) (by decide) (by decide), rfl, rfl, rfl⟩

/-- Settles O59: the trigger by what each page captures of one state, a sample by what it adds to each register of the monitor. -/
theorem snapshotsAndMonitors : Obligations.SnapshotsAndMonitors := by
  unfold Obligations.SnapshotsAndMonitors
  refine ⟨fun s ini => ?trigger, fun s p v => ?monitor⟩
  case trigger =>
    intro at_ seq takes old fired free armed
    have hfired {u : State} (h : s.FiresOn u) (hmem : u.mem = s.mem) (src : Nat) : fired u.triggered (u.fire src).settle src := by
      obtain ⟨hfmem, hfaon⟩ := u.fire_keeps src
      refine ⟨?count, ?gap, u.fire_event src, ?mem, Config.freeNat u.fresh, u.triggered.snapSkew u.fresh,
        fun p hp => ⟨fun ht => ?taken, fun ht r hlow hhigh => ?kept, fun ht => ?seq, fun hsnap ht => ?own⟩⟩
      case count => rw [u.get_fire_stat src rfl, u.triggered_seq, h.seq]
      case gap => rw [State.settle_snapGap, hfaon]
      case mem => rw [State.settle_mem, hfmem, hmem]
      case taken =>
        obtain ⟨hseq, hheld, hvalues⟩ := State.fire_takesPart h src hp ht
        obtain ⟨hskew, hstopped, hcounted⟩ := h.skew p
        exact ⟨hseq, hskew, hstopped, hcounted, hheld, fun e he => hvalues _ (u.triggered.snapValues_regs src u.fresh he)⟩
      case kept => exact State.fire_absent h src hp ht (snapReg_of_offset (Nat.le_trans (by decide) hlow) (Nat.lt_of_lt_of_le hhigh (by decide)))
      case seq => exact State.fire_absent h src hp ht (snapReg_seq p)
      case own =>
        subst hsnap
        obtain ⟨hold, hem, htime, hsrc⟩ := State.fire_own h src ht
        exact ⟨(hold 0 (by decide)).symm, (hold 1 (by decide)).symm, (hold 2 (by decide)).symm, (hold 3 (by decide)).symm, hem, htime, hsrc⟩
    refine ⟨fun hr harmed hgap => ?fire, fun hr harmed hgap => ?merge, fun hevents hgap => ?firing, fun h => ?waits, fun hgap hmerged => ?ends,
      fun hgap hmerged => ?merged⟩
    case fire => exact (exec_fire_reaches hr).trans (congrArg State.done (State.trig_waits harmed hgap))
    case merge => exact (exec_fire_reaches hr).trans (congrArg State.done (State.trig_merges harmed hgap))
    case firing =>
      refine ⟨_, _, by rw [exec_snapFiring, State.snapFiring_fires hevents hgap], ?_, State.triggered_eq _, hfired s.firesOn_waiting rfl _⟩
      rw [State.settle_snapEvents, (State.fire_keeps _ _).2]
    case waits => rw [exec_snapFiring, State.snapFiring_waits h]
    case ends => rw [exec_snapMergedFire, State.snapMergedFire_ends hgap hmerged]
    case merged =>
      refine ⟨s.unmerged.triggered, (s.unmerged.fire s.aon.snapMerged).settle, ?runs, ?none, ?pending, hfired s.firesOn_unmerged rfl _, ?state⟩
      case runs => rw [exec_snapMergedFire, State.snapMergedFire_fires hgap hmerged]
      case none => rw [State.settle_snapMerged, (State.fire_keeps _ _).2]; rfl
      case pending => rw [State.get_fire_stat _ _ rfl, s.unmerged_pending]
      case state =>
        rw [State.triggered_eq, s.firesOn_unmerged.seq]
        rfl
  case monitor =>
    intro a sh low x k was runs sums
    have hset {r : Nat} (hr : r < 0x100) : settledReg (a r) = false := settledReg_of_header (by simp only [a, pageBase]; omega)
    have hsums {r n : Nat} (h : s.counted (s.monSample p v.toNat) p (a r) n) (hr : r < 0x100) : sums (s.monSample p v.toNat).settle r n := by
      obtain ⟨hcount, hnoted⟩ := h
      refine ⟨by rwa [State.reg_settle _ _ (hset hr)], fun hlow hfull => ?_⟩
      obtain ⟨hsat, hevent⟩ := hnoted hlow hfull
      have hpage : settledReg R.SNAP.MON_SAT = false := by decide
      exact ⟨State.on_of_get ((State.get_settle _ _ hpage).trans hsat), State.on_of_get ((State.get_settle _ _ (by decide)).trans hevent)⟩
    refine ⟨fun hruns => ?runs, fun hruns => ?stands⟩
    case runs =>
      obtain ⟨hbin, hcount, hsum⟩ := State.monSample_counted hruns v.toNat p.isLt
      obtain ⟨hmin, hmax⟩ := State.monSample_extremes hruns v.toNat v.isLt
      have hk : R.HDR.MON_BIN + 4 * s.sampleBin p v.toNat < 0x100 := by
        have : s.sampleBin p v.toNat < 16 := monBin_lt ..
        simp only [R.HDR.MON_BIN]
        omega
      refine ⟨_, exec_monSample p v s, hsums hbin hk, hsums hcount (by decide), hsums hsum (by decide), ?min, ?max, ?only⟩
      case min => rw [State.reg_settle _ _ (hset (by decide))]; exact hmin
      case max => rw [State.reg_settle _ _ (hset (by decide))]; exact hmax
      case only => exact (State.monSample_regsOnly hruns v.toNat).changesOnly
    case stands => rw [exec_monSample, State.monSample_stands hruns]

end Sys2Proof.Machine
end

section
/-!
PROOFS. What memory holds: strings of bytes beside each other, and the numbers that they spell (R5).
-/
namespace Sys2Proof.Machine
open Sys2Proof

theorem State.setBytes_eq (s : State) (a : Nat) (bs : List Byte) : ∃ m, s.setBytes a bs = { s with mem := m } := by
  induction bs generalizing s a with
  | nil => exact ⟨s.mem, rfl⟩
  | cons b bs ih =>
    obtain ⟨m, h⟩ := ih (s.setByte a b) (a + 1)
    exact ⟨m, h⟩

/-- The bytes `bs` stand in memory from address `a` on. -/
def State.holds (s : State) (a : Nat) (bs : List Byte) : Prop := s.bytes a bs.length = bs

theorem numsFrom_add (n m a : Nat) : numsFrom (n + m) a = numsFrom n a ++ numsFrom m (a + n) := by
  induction n generalizing a with
  | zero => simp [numsFrom]
  | succ n ih => rw [Nat.succ_add, numsFrom, ih, Nat.succ_add_eq_add_succ, numsFrom, List.cons_append]

theorem State.length_bytes (s : State) (a n : Nat) : (s.bytes a n).length = n := by
  induction n generalizing a with
  | zero => rfl
  | succ n ih => exact congrArg (· + 1) (ih (a + 1))

theorem State.holds_append (s : State) (a : Nat) (l m : List Byte) : s.holds a (l ++ m) ↔ s.holds a l ∧ s.holds (a + l.length) m := by
  rw [State.holds, List.length_append, State.bytes, numsFrom_add, List.map_append]
  exact ⟨fun h => List.append_inj h (s.length_bytes a l.length), fun ⟨hl, hm⟩ => congr (congrArg HAppend.hAppend hl) hm⟩

theorem State.holds_cons (s : State) (a : Nat) (b : Byte) (bs : List Byte) : s.holds a (b :: bs) ↔ s.byte a = b ∧ s.holds (a + 1) bs := by
  simp [State.holds, State.bytes, numsFrom]

theorem State.holds_of_byte {s : State} {a : Nat} {bs : List Byte} (h : ∀ i < bs.length, s.byte (a + i) = bs.getD i 0) : s.holds a bs := by
  induction bs generalizing a with
  | nil => rfl
  | cons b bs ih =>
    refine (s.holds_cons a b bs).2 ⟨h 0 (Nat.succ_pos _), ih fun i hi => ?_⟩
    have hnext := h (i + 1) (Nat.succ_lt_succ hi)
    rwa [← Nat.add_assoc, Nat.add_right_comm] at hnext

theorem State.setBytes_holds (s : State) (a : Nat) (bs : List Byte) : (s.setBytes a bs).holds a bs :=
  State.holds_of_byte fun i hi => by
    rw [State.byte_setBytes, if_pos (by omega), Nat.add_sub_cancel_left]

theorem State.holds.congr {s t : State} {a : Nat} {bs : List Byte} (h : s.holds a bs)
    (hb : ∀ x, a ≤ x → x < a + bs.length → t.byte x = s.byte x) :
    t.holds a bs := by
  induction bs generalizing a with
  | nil => rfl
  | cons b bs ih =>
    obtain ⟨hfirst, hrest⟩ := (s.holds_cons a b bs).1 h
    rw [List.length_cons] at hb
    exact (t.holds_cons a b bs).2 ⟨(hb a (Nat.le_refl a) (by omega)).trans hfirst, ih hrest fun x hlow hhigh => hb x (by omega) (by omega)⟩

theorem natLE_bytesLE (n v : Nat) : natLE (bytesLE n v) = v % 256 ^ n := by
  induction n generalizing v with
  | zero => simp [bytesLE, natLE, Nat.mod_one]
  | succ n ih =>
    rw [bytesLE, natLE, ih, BitVec.toNat_ofNat, Nat.pow_succ' (n := n)]
    exact (Nat.mod_mul ..).symm

/-- A number that memory holds, least significant byte first, is loaded again. -/
theorem State.holds.loadN {s : State} {a n v : Nat} (h : s.holds a (bytesLE n v)) : s.loadN a n = v % 256 ^ n := by
  rw [State.holds, length_bytesLE] at h
  rw [State.loadN, h, natLE_bytesLE]

theorem State.holds.byte {s : State} {a v : Nat} (h : s.holds a (bytesLE 1 v)) : (s.byte a).toNat = v % 256 := by
  obtain ⟨hbyte, -⟩ := (s.holds_cons a _ _).1 h
  rw [hbyte, BitVec.toNat_ofNat]

end Sys2Proof.Machine
end

section
/-!
PROOFS. The event log (R311, R317, R318, R545 to R548).
-/
namespace Sys2Proof.Machine
open Sys2Proof

theorem exec_logWrite (passes : Fin 5) (verified : Bool) (s : State) :
    exec (.logWrite passes verified) s = .next ((s.logWrite ⟨passes, verified⟩).seqKick).settle := rfl

/-! ### Glasshouse firmware's entry (R546, R548) -/

theorem exec_logWr1_reaches {s : State} {ini : Ini} (v : Word) (h : s.reaches ini R.SNAP.LOG_WR1) :
    exec (.logWr1 ini v) s = (s.log 0x0F (s.get F.SNAP.LOG_WR0.code) v.toNat).done :=
  s.writeReg_open (r := ⟨0x11c, 1, 4, 0, 0, 0, 0, 0⟩) ini R.SNAP.LOG_WR1 v h (by decide) rfl rfl (by decide) (by decide)

section
variable {s : State} (k c d : Nat)

theorem State.log_queued (h : s.logQueue.length < 8) : s.log k c d = { s with logQueue := s.logQueue ++ [⟨s.aon.time, k, c, d⟩] } := by
  rw [State.log, if_pos h]

theorem State.log_lost (h : 8 ≤ s.logQueue.length) : s.log k c d =
    ({ (s.inc F.SNAP.LOG_STAT.lost) with logLoss := true } : State).irq pageSNAP 2 := by
  rw [State.log, if_neg (Nat.not_lt.2 h)]

end

/-! ### Writes of a line that verify (R301, R317, R318) -/

/-- Of `s`, the state `t` differs in memory, in registers and in the wear of lines. -/
def State.WearOnly (s t : State) : Prop :=
  t = { s with regs := t.regs, mem := t.mem, ldg := { s.ldg with tally := t.ldg.tally, remap := t.ldg.remap } }

theorem State.WearOnly.trans {s t u : State} (h : s.WearOnly t) (h' : t.WearOnly u) : s.WearOnly u :=
  Eq.trans h' (congrArg (fun v : State =>
    { v with regs := u.regs, mem := u.mem, ldg := { v.ldg with tally := u.ldg.tally, remap := u.ldg.remap } }) h)

theorem State.WearOnly.fields {s t : State} (h : s.WearOnly t) : t.logQueue = s.logQueue ∧ t.cloWait = s.cloWait ∧ t.logLoss = s.logLoss ∧
    t.ldg.logSlot = s.ldg.logSlot ∧ t.ldg.logSeq = s.ldg.logSeq := by
  rw [h]
  exact ⟨rfl, rfl, rfl, rfl, rfl⟩

/-- While a spare is left, a line can be retired. -/
theorem State.retireLine_spare (s : State) (line : Nat) (h : s.sparesUsed < 256) :
    ∃ r n m, s.retireLine line = ({ s with regs := r, ldg := { s.ldg with tally := n, remap := m } }, true) ∧ m.length = s.sparesUsed + 1 := by
  have hlength : (s.ldg.remap ++ [line]).length = s.sparesUsed + 1 := List.length_append
  unfold State.retireLine
  rw [if_neg (by omega)]
  dsimp only
  split
  · exact ⟨_, _, _, rfl, hlength⟩
  · exact ⟨_, _, _, rfl, hlength⟩

/-- A write of three passes or more is noted as a warning. -/
def State.lineWarned (s : State) (a : Nat) (p : Pulse) : State :=
  ((((s.addSat F.LDG.RETRY.passes (p.passes - 1)).put F.LDG.STAT.wear_warn 1).irq pageLDG 1).put F.LDG.WEAR.last_line (ledgerLine a)).inc
    F.LDG.WEAR.warn_count

theorem State.lineWarned_regsOnly (s : State) (a : Nat) (p : Pulse) : s.RegsOnly (s.lineWarned a p) fun _ => True :=
  (((((State.RegsOnly.refl s _).put _ _ trivial).put _ _ trivial).irq _ _ trivial).put _ _ trivial).inc _ trivial

/-- Its line counts one more such write. -/
def State.lineTallied (s : State) (a : Nat) : State :=
  { s with ldg := { s.ldg with tally := tabSet 0 (ledgerLine a) (tabGet 0 s.ldg.tally (ledgerLine a) + 1) s.ldg.tally } }

theorem State.lineWritten_warns (s : State) (a : Nat) {p : Pulse} (hp : p.verified = true) (h : 3 ≤ p.passes) : s.lineWritten a p =
    if 4 ≤ tabGet 0 (s.lineWarned a p).ldg.tally (ledgerLine a) + 1 then ((s.lineWarned a p).lineTallied a).retireLine (ledgerLine a)
    else ((s.lineWarned a p).lineTallied a, true) := by
  simp only [State.lineWritten, hp, if_true, if_pos h, Bool.not_true, Bool.or_false, decide_eq_true_eq]
  rfl

/-- A write that verifies stands while a spare is left, and takes one spare at most. -/
theorem State.lineWritten_verified (s : State) (a : Nat) {p : Pulse} (hp : p.verified = true) (h : s.sparesUsed < 256) :
    ∃ r n m, s.lineWritten a p = ({ s with regs := r, ldg := { s.ldg with tally := n, remap := m } }, true) ∧ m.length ≤ s.sparesUsed + 1 := by
  by_cases hpasses : 3 ≤ p.passes
  · have hwarned := (s.lineWarned_regsOnly a p).rest
    rw [State.lineWritten_warns s a hp hpasses]
    generalize s.lineWarned a p = u at hwarned
    rw [hwarned]
    split
    · obtain ⟨r, n, m, hline, hlength⟩ := State.retireLine_spare (State.lineTallied { s with regs := u.regs } a) (ledgerLine a) h
      exact ⟨r, n, m, hline, Nat.le_of_eq hlength⟩
    · exact ⟨_, _, _, rfl, Nat.le_succ _⟩
  · have hplain : s.lineWritten a p = (s.addSat F.LDG.RETRY.passes (p.passes - 1), true) := by
      simp only [State.lineWritten, hp, if_true, if_neg hpasses]
    rw [hplain]
    exact ⟨_, _, _, rfl, Nat.le_succ _⟩

/-- Of `s`, the state `t` has the bytes `bs` from `a` on, and one more line retired at most. -/
structure State.WroteLine (s t : State) (a : Nat) (bs : List Byte) : Prop where
  byte : ∀ x, t.byte x = if a ≤ x ∧ x < a + bs.length then bs.getD (x - a) 0 else s.byte x
  rest : s.WearOnly t
  spares : t.sparesUsed ≤ s.sparesUsed + 1

theorem State.WroteLine.holds {s t : State} {a : Nat} {bs : List Byte} (h : s.WroteLine t a bs) : t.holds a bs :=
  State.holds_of_byte fun i hi => by
    rw [h.byte, if_pos (by omega), Nat.add_sub_cancel_left]

theorem State.WroteLine.byte_other {s t : State} {a x : Nat} {bs : List Byte} (h : s.WroteLine t a bs) (hx : x < a ∨ a + bs.length ≤ x) :
    t.byte x = s.byte x := by
  rw [h.byte, if_neg (by omega)]

theorem State.hwWrite_verified (s : State) (a : Nat) (bs : List Byte) {p : Pulse} (hp : p.verified = true) (h : s.sparesUsed < 256) :
    ∃ t, s.hwWrite a bs p = (t, true) ∧ s.WroteLine t a bs := by
  obtain ⟨mem, hmem⟩ := s.setBytes_eq a bs
  have hbyte := s.byte_setBytes a bs
  rw [State.hwWrite, hmem]
  rw [hmem] at hbyte
  obtain ⟨r, n, m, hline, hlength⟩ := State.lineWritten_verified { s with mem := mem } a hp h
  rw [hline]
  exact ⟨_, rfl, hbyte, rfl, hlength⟩

/-! ### A record of one line (R311) -/

theorem recordWrites_line (a : Nat) {body : List Byte} (commit : List Byte) (hlow : 1 ≤ body.length) (hhigh : body.length ≤ 32) :
    recordWrites a body commit = [(a + body.length, bytesLE 4 0), (a, body), (a + body.length, commit)] := by
  have hlines : (body.length + 31) / 32 = 1 := by omega
  simp [recordWrites, hlines, numsFrom, List.take_of_length_le hhigh]

/-- With three spares left, a record of one line whose writes verify stands with its commit word, and nothing beside it changes. -/
theorem State.hwWrites_record (s : State) (a : Nat) {body commit : List Byte} {p : Pulse} (hp : p.verified = true) (h : s.sparesUsed ≤ 253)
    (hlow : 1 ≤ body.length) (hhigh : body.length ≤ 32) (hcommit : commit.length = 4) :
    let t := (s.hwWrites (recordWrites a body commit) (List.replicate 3 p)).1
    s.WearOnly t ∧ t.holds a body ∧ t.holds (a + body.length) commit ∧ ∀ x, x < a ∨ a + body.length + 4 ≤ x → t.byte x = s.byte x := by
  obtain ⟨u, hu, huw⟩ := s.hwWrite_verified (a + body.length) (bytesLE 4 0) hp (by omega)
  have huspares := huw.spares
  obtain ⟨v, hv, hvw⟩ := u.hwWrite_verified a body hp (by omega)
  have hvspares := hvw.spares
  obtain ⟨w, hw, hww⟩ := v.hwWrite_verified (a + body.length) commit hp (by omega)
  have hall : s.hwWrites (recordWrites a body commit) (List.replicate 3 p) = (w, true) := by
    simp [recordWrites_line a commit hlow hhigh, State.hwWrites, List.replicate, hu, hv, hw]
  have hzero : (bytesLE 4 0).length = 4 := rfl
  dsimp only
  rw [hall]
  refine ⟨(huw.rest.trans hvw.rest).trans hww.rest, hvw.holds.congr fun x _ hx => hww.byte_other (.inl hx), hww.holds, fun x hx => ?_⟩
  rw [hww.byte_other (by omega), hvw.byte_other (by omega), huw.byte_other (by omega)]

/-! ### What an entry looks like (R545) -/

theorem length_logBody (e : LogEntry) (loss : Bool) : (logBody e loss).length = 12 := rfl

theorem State.holds_logBody {t : State} {a : Nat} {e : LogEntry} {loss : Bool} (h : t.holds a (logBody e loss)) :
    t.loadN a 6 = e.time % 2 ^ 48 ∧ (t.byte (a + 6)).toNat = e.kind % 128 + (if loss then 128 else 0) ∧
      (t.byte (a + 7)).toNat = e.code % 256 ∧ t.loadN (a + 8) 4 = e.detail % 2 ^ 32 := by
  simp only [logBody, State.holds_append, List.length_append, length_bytesLE] at h
  obtain ⟨⟨⟨htime, hkind⟩, hcode⟩, hdetail⟩ := h
  refine ⟨htime.loadN, ?_, hcode.byte, hdetail.loadN⟩
  rw [hkind.byte]
  cases loss <;> simp only [b2n, if_true, Bool.false_eq_true, if_false] <;> omega

theorem State.holds_logCommit {t : State} {a seq : Nat} (h : t.holds a (logCommit seq)) :
    t.loadN a 2 = seq % 65536 ∧ t.loadN (a + 2) 2 = 0x4C47 := by
  rw [logCommit, State.holds_append, length_bytesLE] at h
  obtain ⟨hseq, hmagic⟩ := h
  exact ⟨hseq.loadN, hmagic.loadN⟩

/-! ### Writing the oldest entry (R315, R545 to R547) -/

theorem State.seqKick_eq (s : State) : ∃ q, s.seqKick = { s with aon := { s.aon with seq := q } } := by
  unfold State.seqKick
  split
  · exact ⟨s.aon.seq, rfl⟩
  · exact ⟨_, rfl⟩

/-- Reset responses that wait for more entries than this one wait for one fewer (R364). -/
theorem State.cloLogged_waits {s : State} (h : ∀ w, s.cloWait = some w → 1 < w.entries) :
    s.cloLogged = { s with cloWait := s.cloWait.map fun w => { w with entries := w.entries - 1 } } := by
  cases hwait : s.cloWait with
  | none =>
    simp only [State.cloLogged, hwait]
    rw [Option.map_none, ← hwait]
  | some w =>
    have hmore := h w hwait
    simp only [State.cloLogged, hwait]
    rw [if_neg (by omega)]
    rfl

/-- The oldest entry has left the queue, and the log position has moved on. -/
def State.logTaken (s : State) (es : List LogEntry) : State :=
  { s with logQueue := es, ldg := { s.ldg with logSlot := (s.ldg.logSlot + 1) % 768 } }

/-- The entry's number is taken, and the loss before it is told. -/
def State.logNumbered (s : State) (es : List LogEntry) : State :=
  { s.logTaken es with logLoss := false, ldg := { (s.logTaken es).ldg with logSeq := (s.ldg.logSeq + 1) % 65536 } }

/-- Firmware holds the slot that the next entry would take (R547). -/
def State.slotHeld (s : State) : Prop := s.on F.SNAP.LOG_CTRL.hold = true ∧ s.get F.SNAP.LOG_CTRL.hold_slot = s.ldg.logSlot

section
variable {s : State} {e : LogEntry} {es : List LogEntry} (hqueue : s.logQueue = e :: es) (hon : s.pdOn 8 = true) (hready : s.ldg.ready = true)
  (p : Pulse)
include hqueue hon hready

theorem State.logWrite_eq : s.logWrite p = State.cloLogged
    (if (s.logTaken es).on F.SNAP.LOG_CTRL.hold && decide ((s.logTaken es).get F.SNAP.LOG_CTRL.hold_slot = s.ldg.logSlot) then
      ({ ((s.logTaken es).inc F.SNAP.LOG_STAT.lost) with logLoss := true } : State).irq pageSNAP 2
    else ((s.logNumbered es).hwWrites (recordWrites (0x3001D000 + 16 * s.ldg.logSlot) (logBody e s.logLoss) (logCommit s.ldg.logSeq))
      (List.replicate 3 p)).1) := by
  unfold State.logWrite
  rw [hqueue]
  exact if_pos (by rw [hon, hready]; rfl)

/-- At a slot that firmware holds, the entry is discarded and counted. -/
theorem State.logWrite_held (hheld : s.slotHeld) : s.logWrite p =
    (({ ((s.logTaken es).inc F.SNAP.LOG_STAT.lost) with logLoss := true } : State).irq pageSNAP 2).cloLogged := by
  obtain ⟨hhold, hslot⟩ := hheld
  rw [State.logWrite_eq hqueue hon hready, if_pos]
  exact (Bool.and_eq_true ..).mpr ⟨hhold, decide_eq_true hslot⟩

/-- At any other slot it is written. -/
theorem State.logWrite_stored (hheld : ¬ s.slotHeld) : s.logWrite p =
    ((s.logNumbered es).hwWrites (recordWrites (0x3001D000 + 16 * s.ldg.logSlot) (logBody e s.logLoss) (logCommit s.ldg.logSeq))
      (List.replicate 3 p)).1.cloLogged := by
  rw [State.logWrite_eq hqueue hon hready, if_neg]
  rw [Bool.and_eq_true, decide_eq_true_eq]
  exact hheld

end

/-- What follows the writing of an entry: reset responses count it, and the sequencer may go on. -/
def State.logEnds (s : State) : State := s.cloLogged.seqKick.settle

theorem State.logEnds_keeps {s : State} (h : ∀ w, s.cloWait = some w → 1 < w.entries) :
    s.logEnds.logQueue = s.logQueue ∧ s.logEnds.cloWait = (s.cloWait.map fun w => { w with entries := w.entries - 1 }) ∧
      s.logEnds.logLoss = s.logLoss ∧ s.logEnds.ldg = s.ldg ∧ s.logEnds.mem = s.mem := by
  obtain ⟨q, hkick⟩ := s.cloLogged.seqKick_eq
  rw [State.logEnds, State.settle_logQueue, State.settle_cloWait, State.settle_logLoss, State.settle_ldg, State.settle_mem, hkick,
    State.cloLogged_waits h]
  exact ⟨rfl, rfl, rfl, rfl, rfl⟩

theorem State.get_logEnds {s : State} (h : ∀ w, s.cloWait = some w → 1 < w.entries) {f : Fld} (hf : settledReg f.addr = false) :
    s.logEnds.get f = s.get f := by
  obtain ⟨q, hkick⟩ := s.cloLogged.seqKick_eq
  rw [State.logEnds, State.get_settle _ _ hf, hkick, State.cloLogged_waits h]
  rfl

/-! ### The end of LOG_WRITE -/

section
variable {s : State} {e : LogEntry} {es : List LogEntry} (hqueue : s.logQueue = e :: es) (hon : s.pdOn 8 = true) (hready : s.ldg.ready = true)
  (hwait : ∀ w, s.cloWait = some w → 1 < w.entries) (passes : Fin 5)
include hqueue hon hready hwait

/-- The entry stands in its slot, and nothing beside it changes in memory. -/
theorem exec_logWrite_stored (hheld : ¬ s.slotHeld) (hspares : s.sparesUsed ≤ 253) :
    let a := 0x3001D000 + 16 * s.ldg.logSlot
    ∃ t, exec (.logWrite passes true) s = .next t ∧ t.logQueue = es ∧
      t.cloWait = (s.cloWait.map fun w => { w with entries := w.entries - 1 }) ∧ t.ldg.logSlot = (s.ldg.logSlot + 1) % 768 ∧
      t.ldg.logSeq = (s.ldg.logSeq + 1) % 65536 ∧ t.logLoss = false ∧ t.holds a (logBody e s.logLoss) ∧
      t.holds (a + 12) (logCommit s.ldg.logSeq) ∧ ∀ x, x < a ∨ a + 16 ≤ x → t.byte x = s.byte x := by
  intro a
  obtain ⟨hwear, hbody, hcommit, hbeside⟩ := (s.logNumbered es).hwWrites_record a (body := logBody e s.logLoss)
    (commit := logCommit s.ldg.logSeq) (p := ⟨passes, true⟩) rfl hspares (by rw [length_logBody]; decide)
    (by rw [length_logBody]; decide) rfl
  have hexec := State.logWrite_stored hqueue hon hready ⟨passes, true⟩ hheld
  generalize ((s.logNumbered es).hwWrites _ _).1 = w at hwear hbody hcommit hbeside hexec
  obtain ⟨hwqueue, hwwait, hwloss, hwslot, hwseq⟩ := hwear.fields
  obtain ⟨htqueue, htwait, htloss, htldg, htmem⟩ := State.logEnds_keeps (s := w) (by rwa [hwwait])
  refine ⟨w.logEnds, by rw [exec_logWrite, hexec, State.logEnds], htqueue.trans hwqueue, ?_, ?_, ?_, htloss.trans hwloss, ?_, ?_, fun x hx => ?_⟩
  · rw [htwait, hwwait]
    rfl
  · rw [htldg, hwslot]
    rfl
  · rw [htldg, hwseq]
    rfl
  · exact hbody.congr fun x _ _ => State.byte_congr htmem x
  · exact hcommit.congr fun x _ _ => State.byte_congr htmem x
  · exact (State.byte_congr htmem x).trans (hbeside x hx)

/-- The entry is lost, and the position moves on all the same. -/
theorem exec_logWrite_held (verified : Bool) (hheld : s.slotHeld) :
    ∃ t, exec (.logWrite passes verified) s = .next t ∧ t.logQueue = es ∧
      t.cloWait = (s.cloWait.map fun w => { w with entries := w.entries - 1 }) ∧ t.ldg.logSlot = (s.ldg.logSlot + 1) % 768 ∧ t.logLoss = true ∧
      t.mem = s.mem ∧ t.get F.SNAP.LOG_STAT.lost = satAdd F.SNAP.LOG_STAT.lost.max (s.get F.SNAP.LOG_STAT.lost) 1 ∧
      t.on (eventBit pageSNAP 2) = true := by
  have hexec := State.logWrite_held hqueue hon hready ⟨passes, verified⟩ hheld
  let u : State := ({ ((s.logTaken es).inc F.SNAP.LOG_STAT.lost) with logLoss := true } : State).irq pageSNAP 2
  have huwait : ∀ w, u.cloWait = some w → 1 < w.entries := hwait
  obtain ⟨htqueue, htwait, htloss, htldg, htmem⟩ := State.logEnds_keeps huwait
  refine ⟨u.logEnds, by rw [exec_logWrite, hexec, State.logEnds], htqueue, htwait, congrArg Ledger.logSlot htldg, htloss, htmem, ?lost, ?event⟩
  case lost =>
    rw [State.get_logEnds huwait (by decide)]
    exact (State.get_irq _ _ _ _ (by decide)).trans (State.get_inc _ _ (by decide))
  case event => exact State.on_of_get ((State.get_logEnds huwait (by decide)).trans (State.get_irq_eventBit _ _ _ (by decide)))

end

end Sys2Proof.Machine
end

section
/-!
PROOFS. The trace (R549 to R551), and with it the statement on the log and the trace.
-/
namespace Sys2Proof.Machine
open Sys2Proof

theorem exec_traceRecordWrite (s : State) : exec .traceRecordWrite s = .next s.traceWrite.settle := rfl
theorem exec_trcClr (ini : Ini) (v : Word) (s : State) : exec (.trcClr ini v) s = s.writeReg ini R.TRC.CTRL (F.TRC.CTRL.clr.put 1 v) := rfl
theorem exec_trcClrDone (s : State) : exec .trcClrDone s = .next s.traceClear := rfl

/-! ### Software records (R550) -/

/-- A software record of `w` by a core in a world, as the FIFO takes it. -/
def State.softRecord (s : State) (w : Word) (core : Nat) (world : World) : TraceRec :=
  ⟨0x30, core, worldCode world, w.toNat % 65536, w.toNat / 65536 % 65536, s.stampNow, s.aon.time⟩

theorem exec_swrec_reaches {s : State} {ini : Ini} (v : Word) (h : s.reaches ini R.TRC.SWREC) : exec (.swrec ini v) s =
    (s.trace 0x30 (iniTraceCore ini) (s.iniWorld ini) v.toNat (v.toNat / 65536)).done :=
  s.writeReg_open (r := ⟨0x104, 1, 4, 0, 0, 0, 0, 0⟩) ini R.TRC.SWREC v h (by decide) rfl rfl (by decide) (by decide)

theorem State.trace_soft (s : State) (v : Word) (core : Nat) (world : World) : s.trace 0x30 core world v.toNat (v.toNat / 65536) =
    if s.pdOn 13 = true ∧ s.on F.TRC.CTRL.en = true then s.tracePush (s.softRecord v core world) else s := by
  simp [State.trace, State.traceOn, traceGlassFiltered, State.softRecord]

theorem State.tracePush_room {s : State} (r : TraceRec) (h : s.trcFifo.length < 16) : s.tracePush r = { s with trcFifo := s.trcFifo ++ [r] } := by
  rw [State.tracePush, if_pos h]

theorem State.tracePush_full {s : State} (r : TraceRec) (h : 16 ≤ s.trcFifo.length) : s.tracePush r =
    { ((s.inc F.TRC.LOST.count).irq pageTRC 1) with trcLost := min 65535 (s.trcLost + 1) } := by
  have hsat : satAdd 65535 s.trcLost 1 = min 65535 (s.trcLost + 1) := by
    unfold satAdd
    split <;> omega
  rw [State.tracePush, if_neg (Nat.not_lt.2 h), hsat]

/-! ### A record in memory (R549, R551) -/

theorem State.holds_traceBytes {t : State} {b : Nat} {r : TraceRec} (h : t.holds b (traceBytes r)) :
    (t.byte b).toNat = r.type % 256 ∧ (t.byte (b + 1)).toNat = r.core % 2 + 2 * (r.world % 2) ∧ t.loadN (b + 2) 2 = r.arg % 65536 ∧
      t.loadN (b + 4) 4 = r.stamp % 2 ^ 32 ∧ t.loadN (b + 8) 6 = r.time % 2 ^ 48 ∧ t.loadN (b + 14) 2 = r.arg2 % 65536 := by
  simp only [traceBytes, State.holds_append, List.length_append, length_bytesLE] at h
  obtain ⟨⟨⟨⟨⟨htype, hcore⟩, harg⟩, hstamp⟩, htime⟩, harg2⟩ := h
  refine ⟨htype.byte, ?_, harg.loadN, hstamp.loadN, htime.loadN, harg2.loadN⟩
  rw [hcore.byte]
  omega

/-- Mode 1 is full: record 0 was written before (R551; log 68). -/
def State.traceFull (s : State) : Prop := s.on F.TRC.CTRL.mode = true ∧ s.get F.TRC.WPTR.next = 0 ∧ s.byte 0x60000000 ≠ 0

theorem State.traceFull_iff (s : State) :
    (s.on F.TRC.CTRL.mode && decide (s.get F.TRC.WPTR.next = 0) && decide (s.byte (traceAddr 0) ≠ 0)) = true ↔ s.traceFull := by
  rw [Bool.and_eq_true, Bool.and_eq_true, decide_eq_true_iff, decide_eq_true_iff, and_assoc]
  rfl

/-- Of `s`, the state `t` keeps what waits for the trace, and the time. -/
structure State.KeepsFifo (s t : State) : Prop where
  fifo : t.trcFifo = s.trcFifo
  lost : t.trcLost = s.trcLost
  aon : t.aon = s.aon

section
variable {s : State} (r : TraceRec)

theorem State.traceStore_full (h : s.traceFull) :
    s.traceStore r = (((s.put F.TRC.STAT.full 1).irq pageTRC 0).inc F.TRC.LOST.count).irq pageTRC 1 := by
  unfold State.traceStore
  exact if_pos (s.traceFull_iff.mpr h)

/-- The record stands at WPTR, which moves on. -/
def State.traceStored (s : State) (r : TraceRec) : State :=
  (s.setBytes (traceAddr (s.get F.TRC.WPTR.next)) (traceBytes r)).put F.TRC.WPTR.next (s.get F.TRC.WPTR.next + 1)

theorem State.traceStored_eq (s : State) (r : TraceRec) : ∃ m, s.traceStored r =
    { s.put F.TRC.WPTR.next (s.get F.TRC.WPTR.next + 1) with mem := m } := by
  obtain ⟨m, hm⟩ := s.setBytes_eq (traceAddr (s.get F.TRC.WPTR.next)) (traceBytes r)
  rw [State.traceStored, hm]
  exact ⟨m, rfl⟩

theorem State.get_traceStored (s : State) (r : TraceRec) (f : Fld) :
    (s.traceStored r).get f = (s.put F.TRC.WPTR.next (s.get F.TRC.WPTR.next + 1)).get f := by
  obtain ⟨m, hm⟩ := s.traceStored_eq r
  rw [hm]
  rfl

theorem State.traceStore_free (h : ¬ s.traceFull) : s.traceStore r =
    if s.get F.TRC.WPTR.next = 511 ∧ s.on F.TRC.CTRL.mode = false then (s.traceStored r).inc F.TRC.WPTR.wraps else s.traceStored r := by
  have hmode : (s.traceStored r).on F.TRC.CTRL.mode = s.on F.TRC.CTRL.mode :=
    State.on_congr ((s.get_traceStored r _).trans (State.get_put_addr _ _ _ _ (by decide)))
  unfold State.traceStore
  refine (if_neg (mt s.traceFull_iff.mp h)).trans (ite_congr ?_ (fun _ => rfl) fun _ => rfl)
  rw [← hmode]
  simp [State.traceStored]

theorem State.traceStore_keepsFifo : s.KeepsFifo (s.traceStore r) := by
  by_cases h : s.traceFull
  · rw [State.traceStore_full r h]
    exact ⟨rfl, rfl, rfl⟩
  · obtain ⟨m, hm⟩ := s.traceStored_eq r
    rw [State.traceStore_free r h, hm]
    split <;> exact ⟨rfl, rfl, rfl⟩

/-- What the trace's page and memory hold where mode 1 is full. -/
theorem State.traceStore_full_fields (h : s.traceFull) : (s.traceStore r).mem = s.mem ∧ (s.traceStore r).get F.TRC.STAT.full = 1 ∧
    (s.traceStore r).get F.TRC.LOST.count = satAdd F.TRC.LOST.count.max (s.get F.TRC.LOST.count) 1 ∧ (s.traceStore r).get F.TRC.WPTR.next = 0 := by
  rw [State.traceStore_full r h]
  obtain ⟨-, hnext, -⟩ := h
  refine ⟨rfl, ?_, ?_, ?_⟩
  · simp (disch := decide) only [State.get_irq, State.get_inc_addr, State.get_put]
    rfl
  · simp (disch := decide) only [State.get_irq, State.get_inc, State.get_put_addr]
  · simp (disch := decide) only [State.get_irq, State.get_inc_addr, State.get_put_addr, hnext]

/-- What they hold where the record is written. -/
theorem State.traceStore_free_fields (h : ¬ s.traceFull) :
    let i := s.get F.TRC.WPTR.next
    let u := s.traceStore r
    u.holds (traceAddr i) (traceBytes r) ∧ (∀ x, x < traceAddr i ∨ traceAddr i + 16 ≤ x → u.byte x = s.byte x) ∧
      u.get F.TRC.WPTR.next = (i + 1) % 512 ∧
      u.get F.TRC.WPTR.wraps = (if i = 511 ∧ s.on F.TRC.CTRL.mode = false then satAdd F.TRC.WPTR.wraps.max (s.get F.TRC.WPTR.wraps) 1
        else s.get F.TRC.WPTR.wraps) := by
  intro i u
  have hmem : u.mem = (s.setBytes (traceAddr i) (traceBytes r)).mem := by
    have hstored : (s.traceStored r).mem = (s.setBytes (traceAddr i) (traceBytes r)).mem := State.put_mem ..
    simp only [u, State.traceStore_free r h]
    split
    · exact (State.put_mem ..).trans hstored
    · exact hstored
  have hlength : (traceBytes r).length = 16 := rfl
  refine ⟨(s.setBytes_holds _ _).congr fun x _ _ => State.byte_congr hmem x, fun x hx => ?beside, ?next, ?wraps⟩
  case beside => rw [State.byte_congr hmem, State.byte_setBytes, if_neg (by omega)]
  case next =>
    have hnext : (s.traceStored r).get F.TRC.WPTR.next = (i + 1) % 512 := (s.get_traceStored r _).trans (State.get_put _ _ _ (by decide))
    simp only [u, State.traceStore_free r h]
    split
    · exact (State.get_inc_other _ _ _ (by decide) (by decide) (by decide)).trans hnext
    · exact hnext
  case wraps =>
    have hwraps : (s.traceStored r).get F.TRC.WPTR.wraps = s.get F.TRC.WPTR.wraps :=
      (s.get_traceStored r _).trans (State.get_put_other _ _ _ _ (by decide) (by decide) (by decide))
    simp only [u, State.traceStore_free r h]
    split
    · exact (State.get_inc _ _ (by decide)).trans (by rw [hwraps])
    · exact hwraps

end

/-! ### Writing the oldest record (R550) -/

/-- Records dropped before are reported by one LOST record. -/
def State.lostReported (s : State) : State :=
  if s.trcLost = 0 then s
  else { s with trcFifo := s.trcFifo ++ [⟨0x03, 0, 0, s.trcLost, 0, s.stampNow, s.aon.time⟩], trcLost := 0 }

theorem State.lostReported_eq (s : State) : ∃ f n, s.lostReported = { s with trcFifo := f, trcLost := n } := by
  unfold State.lostReported
  split
  · exact ⟨_, _, rfl⟩
  · exact ⟨_, _, rfl⟩

theorem State.lostReported_fifo {s : State} (h : s.trcLost = 0) : s.lostReported.trcFifo = s.trcFifo := by
  rw [State.lostReported, if_pos h]

theorem State.lostReported_lost {s : State} (h : s.trcLost ≠ 0) : s.lostReported.trcLost = 0 ∧
    ∃ n, s.lostReported.trcFifo = s.trcFifo ++ [n] ∧ n.type = 3 ∧ n.arg = s.trcLost ∧ n.time = s.aon.time := by
  rw [State.lostReported, if_neg h]
  exact ⟨rfl, _, rfl, rfl, rfl, rfl⟩

/-- The trace writes its oldest record: it has one, its clock and domain run, it is enabled, and it does not clear. -/
structure State.TraceGoes (s : State) (r : TraceRec) (rs : List TraceRec) : Prop where
  fifo : s.trcFifo = r :: rs
  ck06 : s.ck06 = true
  on : s.pdOn 13 = true
  en : s.on F.TRC.CTRL.en = true
  idle : s.on F.TRC.STAT.clearing = false

section
variable {s : State} {r : TraceRec} {rs : List TraceRec} (h : s.TraceGoes r rs)
include h

theorem State.traceWrite_goes : s.traceWrite = (({ s with trcFifo := rs } : State).traceStore r).lostReported := by
  unfold State.traceWrite
  rw [h.fifo]
  exact if_pos (by rw [h.ck06, h.on, h.en, h.idle]; rfl)

/-- What TRACE_RECORD_WRITE leaves: the trace's registers and memory as the record left them, and the FIFO. -/
theorem exec_traceRecordWrite_goes :
    ∃ t, exec .traceRecordWrite s = .next t ∧ (s.trcLost = 0 → t.trcFifo = rs) ∧
      (s.trcLost ≠ 0 → t.trcLost = 0 ∧ ∃ n, t.trcFifo = rs ++ [n] ∧ n.type = 3 ∧ n.arg = s.trcLost ∧ n.time = s.aon.time) ∧
      t.mem = (({ s with trcFifo := rs } : State).traceStore r).mem ∧
      ∀ f : Fld, settledReg f.addr = false → t.get f = (({ s with trcFifo := rs } : State).traceStore r).get f := by
  have hkeeps : State.KeepsFifo { s with trcFifo := rs } (({ s with trcFifo := rs } : State).traceStore r) := State.traceStore_keepsFifo r
  have hexec := exec_traceRecordWrite s
  rw [State.traceWrite_goes h] at hexec
  generalize ({ s with trcFifo := rs } : State).traceStore r = u at hkeeps hexec
  obtain ⟨hfifo, hlost, haon⟩ := hkeeps
  obtain ⟨f, n, hreported⟩ := u.lostReported_eq
  refine ⟨_, hexec, fun h0 => ?none, fun h0 => ?some, ?mem, fun g hg => ?get⟩
  case none => rw [State.settle_trcFifo, State.lostReported_fifo (hlost.trans h0), hfifo]
  case some =>
    obtain ⟨hzero, n, hn, htype, harg, htime⟩ := State.lostReported_lost (s := u) (by rwa [hlost])
    rw [State.settle_trcFifo, State.settle_trcLost]
    exact ⟨hzero, n, hn.trans (congrArg (· ++ [n]) hfifo), htype, harg.trans hlost, htime.trans (congrArg Aon.time haon)⟩
  case mem => rw [State.settle_mem, hreported]
  case get =>
    rw [State.get_settle _ _ hg, hreported]
    rfl

end

/-! ### Clearing the trace (R549) -/

/-- A field holds what is written where the register stores its bits, and clears none of them. -/
theorem RegInfo.get_written {r : RegInfo} (old v : Word) {f : Fld} (hf : f.ok = true)
    (hrw : ∀ i, f.lo ≤ i → i ≤ f.hi → r.rw.getLsbD i = true)
    (hw1c : r.w1c = 0) : f.get (r.written old v) = f.get v := by
  have hok : f.lo ≤ f.hi ∧ f.hi ≤ 31 := by simpa [Fld.ok] using hf
  apply Nat.eq_of_testBit_eq
  intro i
  rw [Fld.testBit_get, Fld.testBit_get]
  by_cases hi : i < f.width
  · have hbit : f.lo + i ≤ f.hi := by
      simp only [Fld.width] at hi
      omega
    have hwritten : (r.written old v).getLsbD (f.lo + i) = v.getLsbD (f.lo + i) := by
      have hstored := hrw (f.lo + i) (by omega) hbit
      have hword : f.lo + i < 32 := by omega
      simp only [RegInfo.written, hw1c, BitVec.getLsbD_and, BitVec.getLsbD_or, BitVec.getLsbD_not, hstored]
      simp [hword]
    simp only [BitVec.getLsbD] at hwritten
    rw [hwritten]
  · simp [hi]

/-- TRC.CTRL in the register table: nine fields that are stored, beside the clear. -/
def trcCtrl : RegInfo := ⟨0x10, 1, 4, 0x1ff, 0, 0x8, 0, 0⟩

/-- The fields below the clear bit take what is written. -/
theorem trcCtrl_get (old v : Word) {f : Fld} (hf : f.ok = true) (hhi : f.hi ≤ 8) :
    f.get (trcCtrl.written old (F.TRC.CTRL.clr.put 1 v)) = f.get v := by
  have hrw : ∀ i ≤ 8, trcCtrl.rw.getLsbD i = true := by decide
  rw [RegInfo.get_written old _ hf (fun i _ hi => hrw i (by omega)) rfl]
  refine Fld.get_put_other F.TRC.CTRL.clr f 1 v (by decide) hf (.inr ?_)
  simp only [F.TRC.CTRL.clr]
  omega

/-- The clear begins: CTRL is stored, and STAT tells. -/
def State.trcClearing (s : State) (v : Word) : State := (s.setReg R.TRC.CTRL v).put F.TRC.STAT.clearing 1

theorem State.trcClearing_regsOnly (s : State) (v : Word) : s.RegsOnly (s.trcClearing v) (· ∈ [R.TRC.CTRL, R.TRC.STAT]) :=
  ((State.RegsOnly.refl s _).setReg _ _ (by simp)).put _ _ (by simp [F.TRC.STAT.clearing, R.TRC.STAT])

theorem State.get_trcClearing (s : State) (v : Word) {f : Fld} (hf : f.addr = R.TRC.CTRL) : (s.trcClearing v).get f = f.get v := by
  rw [State.get, hf]
  exact congrArg f.get (((State.reg_put ..).trans (if_neg (by decide))).trans ((State.reg_setReg ..).trans (if_pos rfl)))

theorem exec_trcClr_unhindered {s : State} {ini : Ini} (v : Word) (h : s.reaches ini R.TRC.CTRL) (hu : s.unhindered ini pageTRC) :
    exec (.trcClr ini v) s = (s.trcClearing (trcCtrl.written (s.reg R.TRC.CTRL) (F.TRC.CTRL.clr.put 1 v))).done := by
  let x := s.wrOf ini trcCtrl R.TRC.CTRL (F.TRC.CTRL.clr.put 1 v)
  have hclr : x.on F.TRC.CTRL.clr = true := decide_eq_true (by
    have hget : x.bits F.TRC.CTRL.clr = 1 := Fld.get_put _ _ _ (by decide)
    omega)
  have hwrite : blockWrite x .clean s = s.trcClearing (trcCtrl.written (s.reg R.TRC.CTRL) (F.TRC.CTRL.clr.put 1 v)) := by
    change trcWrite x s = _
    rw [trcWrite, if_pos (show x.a = R.TRC.CTRL from rfl)]
    exact if_pos hclr
  rw [exec_trcClr, s.writeReg_unhindered ini R.TRC.CTRL _ trcCtrl h hu (by decide) (by decide), hwrite]

theorem State.traceClear_clears {s : State} (h : s.on F.TRC.STAT.clearing = true) : s.traceClear =
    { ((s.setReg R.TRC.WPTR 0).setReg R.TRC.LOST 0).setReg R.TRC.STAT 0 with
      trcLost := 0, mem := tabDrop (fun a => decide (0x60000000 ≤ a ∧ a < 0x60002000 ∧ a % 16 = 0)) s.mem } := by
  rw [State.traceClear, if_pos h]
  rfl

theorem State.traceClear_regs {s : State} (h : s.on F.TRC.STAT.clearing = true) : s.traceClear.reg R.TRC.WPTR = 0 ∧
    s.traceClear.reg R.TRC.LOST = 0 ∧ s.traceClear.reg R.TRC.STAT = 0 ∧ s.traceClear.trcLost = 0 := by
  have hreg (a : Nat) : s.traceClear.reg a = (((s.setReg R.TRC.WPTR 0).setReg R.TRC.LOST 0).setReg R.TRC.STAT 0).reg a := by
    rw [State.traceClear_clears h]
    rfl
  refine ⟨?_, ?_, ?_, by rw [State.traceClear_clears h]⟩ <;>
    simp [hreg, R.TRC.WPTR, R.TRC.LOST, R.TRC.STAT]

/-- The type byte of every record is 0, and nothing else changes in memory. -/
theorem State.byte_traceClear {s : State} (h : s.on F.TRC.STAT.clearing = true) (x : Nat) :
    s.traceClear.byte x = if 0x60000000 ≤ x ∧ x < 0x60002000 ∧ x % 16 = 0 then 0 else s.byte x := by
  rw [State.traceClear_clears h, State.byte, tabGet_tabDrop]
  by_cases hx : 0x60000000 ≤ x ∧ x < 0x60002000 ∧ x % 16 = 0
  · have hdefault : memDefault x = 0 := by
      unfold memDefault
      rw [if_neg (by omega), if_neg (by omega), if_neg (by omega)]
    simp [hx, hdefault]
  · rw [if_neg (by simpa using hx), if_neg hx, State.byte]

/-! ### The log and the trace -/

/-- Settles O60: an entry and a record by the bytes that stand in memory, the queues by what enters and leaves them. -/
theorem logAndTrace : Obligations.LogAndTrace := by
  unfold Obligations.LogAndTrace
  intro s ini v e es r rs passes slot a i b held stamp logs waits traces stops queue sw
  have hgoes : traces → s.TraceGoes r rs := fun ⟨hfifo, hck06, hon, hen, hidle⟩ => ⟨hfifo, hck06, hon, hen, hidle⟩
  refine ⟨fun hr => ⟨fun hroom => ?queued, fun hfull => ?lost⟩, fun ⟨hqueue, hon, hready, hwait⟩ hfree hspares => ?stored,
    fun ok ⟨hqueue, hon, hready, hwait⟩ hheld => ?held, fun ht hfree => ?record, fun ht hfull => ?full,
    fun hr => ⟨fun hsw hroom => ?soft, fun hsw hfull => ?softLost, fun hsw => ?softOff⟩, fun hr hu => ?clear, fun hclearing => ?cleared⟩
  case queued => exact (exec_logWr1_reaches v hr).trans (congrArg State.done (State.log_queued _ _ _ hroom))
  case lost => exact (exec_logWr1_reaches v hr).trans (congrArg State.done (State.log_lost _ _ _ hfull))
  case stored =>
    obtain ⟨t, hexec, htqueue, htwait, htslot, htseq, htloss, hbody, hcommit, hbeside⟩ :=
      exec_logWrite_stored hqueue hon hready hwait passes hfree hspares
    obtain ⟨htime, hkind, hcode, hdetail⟩ := State.holds_logBody hbody
    obtain ⟨hseq, hmagic⟩ := State.holds_logCommit hcommit
    exact ⟨t, hexec, htqueue, htwait, htslot, htseq, htloss, htime, hkind, hcode, hdetail, hseq, hmagic, hbeside⟩
  case held => exact exec_logWrite_held hqueue hon hready hwait passes ok hheld
  case record =>
    obtain ⟨t, hexec, hnone, hsome, hmem, hget⟩ := exec_traceRecordWrite_goes (hgoes ht)
    obtain ⟨hholds, hbeside, hnext, hwraps⟩ := State.traceStore_free_fields (s := { s with trcFifo := rs }) r hfree
    obtain ⟨htype, hcore, harg, hstamp, htime, harg2⟩ := State.holds_traceBytes (hholds.congr fun x _ _ => State.byte_congr hmem x)
    exact ⟨t, hexec, ⟨hnone, hsome⟩, htype, hcore, harg, hstamp, htime, harg2, (hget _ (by decide)).trans hnext,
      (hget _ (by decide)).trans hwraps, fun x hx => (State.byte_congr hmem x).trans (hbeside x hx)⟩
  case full =>
    obtain ⟨t, hexec, hnone, hsome, hmem, hget⟩ := exec_traceRecordWrite_goes (hgoes ht)
    obtain ⟨hstays, hfullBit, hcount, hnext⟩ := State.traceStore_full_fields (s := { s with trcFifo := rs }) r hfull
    exact ⟨t, hexec, ⟨hnone, hsome⟩, hmem.trans hstays, State.on_of_get ((hget _ (by decide)).trans hfullBit),
      (hget _ (by decide)).trans hcount, (hget _ (by decide)).trans hnext⟩
  case soft => rw [exec_swrec_reaches v hr, State.trace_soft, if_pos hsw, State.tracePush_room _ hroom]; rfl
  case softLost => rw [exec_swrec_reaches v hr, State.trace_soft, if_pos hsw, State.tracePush_full _ hfull]
  case softOff => rw [exec_swrec_reaches v hr, State.trace_soft, if_neg hsw]
  case clear =>
    let w := trcCtrl.written (s.reg R.TRC.CTRL) (F.TRC.CTRL.clr.put 1 v)
    refine ⟨_, exec_trcClr_unhindered v hr hu, ?clearing, fun f hf => ?field, (s.trcClearing_regsOnly w).changesOnly_answer [] 0⟩
    case clearing => exact State.on_of_get ((State.get_settle _ _ (by decide)).trans (State.get_put _ _ _ (by decide)))
    case field =>
      have hfields : ∀ f ∈ [F.TRC.CTRL.en, F.TRC.CTRL.mode, F.TRC.CTRL.retain, F.TRC.CTRL.glass, F.TRC.CTRL.irq, F.TRC.CTRL.trap, F.TRC.CTRL.col,
          F.TRC.CTRL.ring, F.TRC.CTRL.snap], f.ok = true ∧ f.hi ≤ 8 ∧ f.addr = R.TRC.CTRL := by decide
      obtain ⟨hok, hhi, haddr⟩ := hfields f hf
      have hset : settledReg f.addr = false := haddr ▸ (by decide)
      exact (State.get_settle _ _ hset).trans ((s.get_trcClearing w haddr).trans (trcCtrl_get _ v hok hhi))
  case cleared =>
    obtain ⟨hwptr, hlost, hstat, hcount⟩ := State.traceClear_regs hclearing
    exact ⟨s.traceClear, exec_trcClrDone s, hwptr, hlost, hstat, hcount, State.byte_traceClear hclearing⟩

end Sys2Proof.Machine
end
